-- ==== Sys2Proof/Word.lean ====
section
/-! DEFINITION. The words of the HD416: bytes, 16-byte frames, keys, handles and counters. -/

namespace Sys2Proof

/-- One byte of a frame (R201). -/
abbrev Byte := BitVec 8

/-- A key, 0..2^48−1 (R4). -/
abbrev Key := BitVec 48

/-- A handle, 0..2^32−1, opaque to the part (R4). -/
abbrev Handle := BitVec 32

/-- The value of a counter, 0..2^32−1 (R188). -/
abbrev Count32 := BitVec 32

/-- A frame of a request link: 16 bytes, byte 0 sent first (R201). -/
abbrev Frame := Vector Byte 16

/-- The result area of a response frame, bytes 4 to 14 (chapter 11.1). -/
abbrev ResultArea := Vector Byte 11

/-- One of the 64 domains (R53). -/
abbrev DomainId := Fin 64

/-- One of the 32 transfer entries (R69). -/
abbrev TransferIndex := Fin 32

end Sys2Proof
end

