-- ==== Sys2Proof/Config.lean ====
section
/-! DEFINITION. The capacities of the part (00, Summary of figures) and its free values. -/

namespace Sys2Proof.Config

/-- Ways of a bucket (R1). -/
def ways : Nat := 8

/-- Buckets of the directory (R1). -/
def buckets : Nat := 2048

/-- Slots of the directory (R1). -/
def slots : Nat := 16384

/-- Requests a request queue holds (R120). -/
def requestQueueSize : Nat := 16

/-- Places of a response queue (R125). -/
def responseQueueSize : Nat := 16

/-- Notices a notice queue holds (R162). -/
def noticeQueueSize : Nat := 32

/-- Finished jobs the job history holds (R99). -/
def historySize : Nat := 8

/-- Jobs other than ORPHAN jobs that the job queue holds (R93). -/
def otherJobsLimit : Nat := 4

/-- Where a lost count stays (R163). -/
def lostCountMax : Nat := 65535

/-- Where a window count stays (R166). -/
def windowCountMax : Nat := 63

/-- The divider in force from RESET_N (R185). -/
def resetDivider : Nat := 100000

/-- Bits of the result area of a response frame, bytes 4 to 14 (11.1). -/
abbrev areaBits : Nat := 88

/-- FREE VALUE (log 13). The first bit, in the order in which the result area is sent, of a field of a response whose layout
R203 does not give. It depends on the request's kind byte, the status code, the widths in bits of all carried fields in the
order of the rule that names them, and which of them it is. -/
opaque fieldPlace (kind status : Nat) (widths : List Nat) (field : Nat) : Nat

/-- FREE VALUE (log 13). The result area of a response whose carried fields have no room in it. -/
opaque resultArea (kind status : Nat) (fields : List Nat) : ResultArea

/-- FREE VALUE (log 27). The absent code of a transfer index: 11.2 gives none (R203). -/
opaque absentTransferIndex : Byte

/-- FREE VALUE (log 27). The code of a link state in a SESSION reading: 11.2 gives none (R197). -/
opaque linkCode (up : Bool) : Byte

end Sys2Proof.Config
end

