-- ==== Sys2Proof/Syntax.lean ====
section
/-! DEFINITION. The commands of the HD416: one constructor per row of spec/opcode_table.json. -/

namespace Sys2Proof

/-- The four ports (00, Conventions). -/
inductive Port where
  | p0 | p1 | p2 | p3
  deriving DecidableEq, Repr

/-- What a step of an operation in a grant brings with it. `failing` lists the slots that would fail their check, or
their retest, were this step to read them: a physical event (R18, R22, R24; log 5). `upTo` says how far the grant goes in
this step: `none` to its end, `some n` through `n` more of the counts and notices that it hands over, so that steps of
other units can come in between; the row's next step goes on with it (R15, R196, R199; log 4). -/
structure GrantStep where
  failing : List Nat
  upTo : Option Nat
  deriving DecidableEq, Repr

/-- One step of the part. A request row runs the request that the port's executor has taken. -/
inductive Instr where
  -- reset and time
  | resetN
  | resetNRelease
  | millitick
  | pacingWindowStart (p : Port)
  -- links
  | linkUp (p : Port)
  | linkLost (p : Port)
  | frameArrival (p : Port) (frame : Frame)
  | requestTake (p : Port)
  | responseTransmit (p : Port)
  | noticeTransmit (p : Port)
  | frameTransmitEnd (p : Port)
  -- sessions
  | attach (p : Port)
  | detach (p : Port)
  | keepalive (p : Port)
  | evict (p : Port)
  -- bindings
  | resolve (p : Port) (g : GrantStep)
  | claim (p : Port) (g : GrantStep)
  | release (p : Port) (g : GrantStep)
  | touch (p : Port) (g : GrantStep)
  | readSlot (p : Port) (g : GrantStep)
  | scanNext (p : Port) (g : GrantStep)
  -- handover
  | handoverAsk (p : Port) (g : GrantStep)
  | handoverReplyGrant (p : Port) (g : GrantStep)
  | handoverReplyRefuse (p : Port) (g : GrantStep)
  -- maintenance requests
  | sweep (p : Port)
  | purge (p : Port)
  | clear (p : Port)
  | abortJob (p : Port)
  | jobStatus (p : Port)
  -- domains
  | domainGet (p : Port)
  | domainSet (p : Port)
  -- settings and lease
  | settingGet (p : Port)
  | settingSetHashSeed (p : Port)
  | settingSetTimebaseDivider (p : Port)
  | settingSetSweepInterval (p : Port)
  | settingSetTransferTimeout (p : Port)
  | settingSetCreditCapacity (p : Port)
  | settingSetRefillAmount (p : Port)
  | settingSetRefillInterval (p : Port)
  | settingSetQuota (p : Port)
  | leaseTake (p : Port)
  | leaseRenew (p : Port)
  | leaseDrop (p : Port)
  -- statistics
  | statRead (p : Port)
  | statReadSession (p : Port)
  | statTake (p : Port)
  | unknownRequestKind (p : Port)
  -- timers
  | keepaliveTimerExpiry (p : Port)
  | refillTimerExpiry (p : Port)
  | transferTimerExpiry
  | expiryResolution (g : GrantStep)
  | leaseTimerExpiry
  | sweepTimerExpiry
  -- bucket grants of the Maintenance Engine
  | sweepBucket (g : GrantStep)
  | purgeBucket (g : GrantStep)
  | bucketRewrite (g : GrantStep)
  | orphanBucket (g : GrantStep)
  | startupClearBucket (g : GrantStep)
  deriving DecidableEq, Repr

/-- The slots whose check or retest a command says would fail; empty for a command that reads no slot. -/
def Instr.failing : Instr → List Nat
  | .resolve _ g => g.failing
  | .claim _ g => g.failing
  | .release _ g => g.failing
  | .touch _ g => g.failing
  | .readSlot _ g => g.failing
  | .scanNext _ g => g.failing
  | .handoverAsk _ g => g.failing
  | .handoverReplyGrant _ g => g.failing
  | .handoverReplyRefuse _ g => g.failing
  | .expiryResolution g => g.failing
  | .sweepBucket g => g.failing
  | .purgeBucket g => g.failing
  | .bucketRewrite g => g.failing
  | .orphanBucket g => g.failing
  | .startupClearBucket g => g.failing
  | .resetN | .resetNRelease | .millitick | .pacingWindowStart _ | .linkUp _ | .linkLost _ | .frameArrival _ _
  | .requestTake _ | .responseTransmit _ | .noticeTransmit _ | .frameTransmitEnd _ | .attach _ | .detach _
  | .keepalive _ | .evict _ | .sweep _ | .purge _ | .clear _ | .abortJob _ | .jobStatus _ | .domainGet _
  | .domainSet _ | .settingGet _ | .settingSetHashSeed _ | .settingSetTimebaseDivider _
  | .settingSetSweepInterval _ | .settingSetTransferTimeout _ | .settingSetCreditCapacity _
  | .settingSetRefillAmount _ | .settingSetRefillInterval _ | .settingSetQuota _ | .leaseTake _ | .leaseRenew _
  | .leaseDrop _ | .statRead _ | .statReadSession _ | .statTake _ | .unknownRequestKind _
  | .keepaliveTimerExpiry _ | .refillTimerExpiry _ | .transferTimerExpiry | .leaseTimerExpiry
  | .sweepTimerExpiry => []

end Sys2Proof
end

