-- ==== Sys2Proof/Machine/Data.lean ====
section
/-! DEFINITION. The records that State is made of, block by block, and their values after RESET_N. -/

namespace Sys2Proof.Machine

/-! ### One value for each port -/

/-- One value for each of the four ports. -/
structure PerPort (α : Type) where
  p0 : α
  p1 : α
  p2 : α
  p3 : α
  deriving DecidableEq, Repr

/-- The value of one port. -/
def PerPort.get {α : Type} (v : PerPort α) : Port → α
  | .p0 => v.p0
  | .p1 => v.p1
  | .p2 => v.p2
  | .p3 => v.p3

/-- The same values but for one port's. -/
def PerPort.set {α : Type} (v : PerPort α) (p : Port) (x : α) : PerPort α :=
  match p with
  | .p0 => { v with p0 := x }
  | .p1 => { v with p1 := x }
  | .p2 => { v with p2 := x }
  | .p3 => { v with p3 := x }

/-- One value for every port. -/
def PerPort.all {α : Type} (x : α) : PerPort α := ⟨x, x, x, x⟩

/-- A function of each port's value. -/
def PerPort.map {α β : Type} (f : α → β) (v : PerPort α) : PerPort β := ⟨f v.p0, f v.p1, f v.p2, f v.p3⟩

/-- The ports in ascending order. -/
def allPorts : List Port := [.p0, .p1, .p2, .p3]

/-- A set of ports (R53). -/
abbrev PortSet := PerPort Bool

/-! ### Directory Store (01) -/

/-- LEASED or PINNED (R4). -/
inductive BindingClass where
  | leased | pinned
  deriving DecidableEq, Repr

/-- The three binding states without their data (R5). -/
inductive BindingState where
  | bound | transfer | orphaned
  deriving DecidableEq, Repr

/-- A binding's state with the owner and the transfer index that the state has (R4, R5). -/
inductive Tenure where
  | bound (owner : Port)
  | transfer (giver : Port) (index : TransferIndex)
  | orphaned
  deriving DecidableEq, Repr

/-- The binding state of a tenure (R5). -/
def Tenure.state : Tenure → BindingState
  | .bound _ => .bound
  | .transfer _ _ => .transfer
  | .orphaned => .orphaned

/-- The owner: the giver in TRANSFER, absent in ORPHANED (R4, R5). -/
def Tenure.owner : Tenure → Option Port
  | .bound o => some o
  | .transfer g _ => some g
  | .orphaned => none

/-- The transfer index, present in TRANSFER (R4). -/
def Tenure.index : Tenure → Option TransferIndex
  | .transfer _ i => some i
  | .bound _ => none
  | .orphaned => none

/-- A binding record (R4). -/
structure Binding where
  domain : DomainId
  key : Key
  tenure : Tenure
  handle : Handle
  cls : BindingClass
  touched : Bool
  idle : Nat
  deriving DecidableEq, Repr

/-- A slot (R3). `undefined` is a slot that the start-up clear has not reached since RESET_N (R23). -/
inductive Slot where
  | undefined
  | free
  | occupied (b : Binding)
  | defective
  deriving DecidableEq, Repr

/-- The Directory Store (R1, R10, R21). `cells` lists the OCCUPIED and DEFECTIVE slots by rising index; `cleared` is
how many buckets the start-up clear has processed since RESET_N (log 8). -/
structure Directory where
  cells : List (Nat × Slot)
  cleared : Nat
  ownedCount : PerPort Nat
  orphanTotal : Nat
  defectiveCount : Nat
  deriving DecidableEq, Repr

/-- The six clients of the directory arbiter (R13). -/
inductive Client where
  | executor (p : Port)
  | maintenance
  | transferController
  deriving DecidableEq, Repr

/-! ### Domain Table (03) -/

/-- Claim policy OPEN, MEMBERS or CLOSED (R53). -/
inductive ClaimPolicy where
  | openToAll | members | closed
  deriving DecidableEq, Repr

/-- Orphan action (R53, R68). -/
inductive OrphanAction where
  | remove | hold | adopt
  deriving DecidableEq, Repr

/-- The ten writable fields of a domain record (R53). -/
structure Policy where
  enabled : Bool
  claimPolicy : ClaimPolicy
  memberSet : PortSet
  preemptSet : PortSet
  pinSet : PortSet
  autoClaim : Bool
  leaseLimit : Nat
  cap : Nat
  orphanAction : OrphanAction
  standby : Port
  deriving DecidableEq, Repr

/-- A domain record: the writable fields and the two counts of the Store (R53). -/
structure Domain where
  policy : Policy
  count : Nat
  orphans : Nat
  deriving DecidableEq, Repr

/-! ### Transfer Controller (04) -/

/-- An entry in use is PENDING or EXPIRED (R69). -/
inductive TransferPhase where
  | pending | expired
  deriving DecidableEq, Repr

/-- A transfer entry in use (R69). -/
structure Transfer where
  phase : TransferPhase
  slot : Nat
  giver : Port
  taker : Port
  remaining : Nat
  tag : Byte
  handle : Handle
  deriving DecidableEq, Repr

/-- The Transfer Controller (R69, R70, R72). An absent entry is FREE. -/
structure Transfers where
  entries : Vector (Option Transfer) 32
  lastAllocated : TransferIndex
  expiryList : List TransferIndex
  deriving DecidableEq, Repr

/-- How a transfer ends (R73). -/
inductive TransferOutcome where
  | granted | giverGone | refused | timeout | takerGone | quota | removed
  deriving DecidableEq, Repr

/-! ### Maintenance Engine (05) -/

/-- Why a port left ONLINE (R91, R134). -/
inductive LeaveCause where
  | detach | link | keepalive | evicted
  deriving DecidableEq, Repr

/-- The owner field of a filter (R50, R108). -/
inductive OwnerFilter where
  | any
  | owned (p : Port)
  | noOwner
  deriving DecidableEq, Repr

/-- The filter of a PURGE (R107); an absent field is "any". -/
structure PurgeFilter where
  domain : Option DomainId
  owner : OwnerFilter
  cls : Option BindingClass
  deriving DecidableEq, Repr

/-- The filter of a SCAN_NEXT (R50); an absent field is "any". -/
structure ScanFilter where
  domain : Option DomainId
  owner : OwnerFilter
  state : Option BindingState
  deriving DecidableEq, Repr

/-- The four job kinds (R91). -/
inductive JobKind where
  | sweep | purge | clear | orphan
  deriving DecidableEq, Repr

/-- A job's kind with the fields that the kind has (R91). -/
inductive JobWork where
  | sweep
  | purge (filter : PurgeFilter)
  | clear
  | orphan (target : Port) (cause : LeaveCause)
  deriving DecidableEq, Repr

/-- The kind of a job (R91). -/
def JobWork.kind : JobWork → JobKind
  | .sweep => .sweep
  | .purge _ => .purge
  | .clear => .clear
  | .orphan _ _ => .orphan

/-- The five counts of a job (R91). -/
structure JobCounts where
  examined : Nat
  removed : Nat
  expired : Nat
  held : Nat
  adopted : Nat
  deriving DecidableEq, Repr

/-- A job in the job queue (R91). The head of the queue is RUNNING, the others WAITING (R93). -/
structure Job where
  id : Nat
  work : JobWork
  requester : Option Port
  cursor : Nat
  counts : JobCounts
  deriving DecidableEq, Repr

/-- How a job finished (R98). -/
inductive JobOutcome where
  | done | aborted | cancelled
  deriving DecidableEq, Repr

/-- A finished job in the history (R99). -/
structure JobRecord where
  id : Nat
  work : JobWork
  requester : Option Port
  outcome : JobOutcome
  progress : Nat
  counts : JobCounts
  deriving DecidableEq, Repr

/-- The Maintenance Engine (R91, R92, R99, R105). `abortWaiting` holds the ports whose ABORT_JOB waits for the bucket
grant in progress to end (R114). -/
structure Maintenance where
  queue : List Job
  history : List JobRecord
  nextId : Nat
  sweepTimer : Option Nat
  abortWaiting : List Port
  deriving DecidableEq, Repr

/-! ### Requests and responses (06, 11) -/

/-- A request as the receiver reads it (R202): each checked parameter as the unsigned number its bytes hold. -/
inductive Request where
  | attach (keepaliveTimeout pacingLimit subscriptions : Nat)
  | detach
  | keepalive
  | evict (target : Nat)
  | resolve (domain : Nat) (key : Key) (claimIfAbsent : Bool) (handle : Handle)
  | claim (domain : Nat) (key : Key) (handle : Handle) (pin force : Bool)
  | release (domain : Nat) (key : Key)
  | touch (domain : Nat) (key : Key)
  | readSlot (slot : Nat)
  | scanNext (start filterDomain filterOwner filterState : Nat)
  | handoverAsk (domain : Nat) (key : Key) (handle : Handle)
  | handoverReply (index decision : Nat)
  | sweep
  | purge (domain owner cls : Nat)
  | clear
  | abortJob (id : Nat)
  | jobStatus (id : Nat)
  | domainGet (domain : Nat)
  | domainSet (domain enabled claimPolicy : Nat) (memberSet preemptSet pinSet : PortSet)
      (autoClaim leaseLimit cap orphanAction standby : Nat)
  | settingGet (id : Nat)
  | settingSet (id value : Nat)
  | leaseTake (duration : Nat)
  | leaseRenew (duration : Nat)
  | leaseDrop
  | statRead (scope name : Nat)
  | statTake (scope name : Nat)
  | unknown
  deriving DecidableEq, Repr

/-- A request of the request queue: its kind byte, its sequence tag and what the receiver read (R119, R202). -/
structure RequestFrame where
  kind : Byte
  tag : Byte
  body : Request
  deriving DecidableEq, Repr

/-- The statuses (R129). -/
inductive Status where
  | ok | already | claimed | pending | handed | merged | continueScan | endOfScan
  | miss
  | owned | busy | full | quota | cap | throttled | closed | notMember | notPermitted | notOwner | domainOff
  | orphaned | noLease | held | invalid | notAttached | draining | retry | notEmpty | cancelled
  deriving DecidableEq, Repr

/-- Session state of a port (R130). -/
inductive Session where
  | offline | online | draining
  deriving DecidableEq, Repr

/-- Link state (R118). -/
inductive Link where
  | down | up
  deriving DecidableEq, Repr

/-- The per-port counters (R188). -/
inductive PortCounter where
  | requests | refusals | resolveHits | resolveMisses | claims | throttled | overruns | frameErrors
  | noticesSent | noticesLost
  deriving DecidableEq, Repr

/-- The device counters (R188). -/
inductive DeviceCounter where
  | expiries | orphansRemoved | orphansHeld | orphansAdopted | transfersGranted | transfersEnded
  | slotFaults | sweepPasses
  deriving DecidableEq, Repr

/-- A counter id (R188). -/
inductive CounterId where
  | port (p : Port) (name : PortCounter)
  | device (name : DeviceCounter)
  deriving DecidableEq, Repr

/-- The four flags of a RESOLVE hit (R27). -/
structure HitFlags where
  self : Bool
  ownerLost : Bool
  inTransfer : Bool
  orphaned : Bool
  deriving DecidableEq, Repr

/-- What a job record shows to JOB_STATUS (R100). -/
inductive JobReport where
  | queued (running : Bool) (progress : Nat) (job : Job)
  | finished (record : JobRecord)
  | unknown
  deriving DecidableEq, Repr

/-- The result fields that a response carries (R203 and the request's own rule). -/
inductive Result where
  /-- Status only. -/
  | none
  /-- ATTACH: port number and claim credit (R131, R132). -/
  | session (port : Port) (credit : Nat)
  /-- DETACH: id of the ORPHAN job (R135). -/
  | orphanJob (id : Nat)
  /-- EVICT: target and id of its ORPHAN job (R138). -/
  | evicted (target : Port) (id : Nat)
  /-- RESOLVE hit (R27). -/
  | hit (slot : Nat) (tenure : Tenure) (cls : BindingClass) (handle : Handle) (flags : HitFlags)
  /-- A successful claim (R32, R35, R36, R37). -/
  | claimed (slot : Nat) (owner : Port) (cls : BindingClass) (handle : Handle)
  /-- OWNED (R34). -/
  | ownedBy (owner : Port)
  /-- RELEASE and TOUCH: slot index (R44, R47). -/
  | slot (slot : Nat)
  /-- HANDED: slot index and taker (R45). -/
  | handed (slot : Nat) (owner : Port)
  /-- READ_SLOT (R48) and SCAN_NEXT answered OK (R51): slot index, slot state and binding record. R51 names no slot state for
  SCAN_NEXT (DESIGN CHOICE, log 28). -/
  | slotRecord (slot : Nat) (content : Slot)
  /-- CONTINUE: start of the next window (R51). -/
  | nextStart (start : Nat)
  /-- HANDOVER_ASK answered PENDING (R78). -/
  | offered (slot : Nat) (index : TransferIndex) (giver : Port)
  /-- HANDOVER_ASK answered ALREADY (R77). -/
  | ownSlot (slot : Nat) (handle : Handle)
  /-- HANDOVER_REPLY (R83, R84). -/
  | replied (slot : Nat) (index : TransferIndex) (owner : Port) (outcome : TransferOutcome)
  /-- SWEEP, PURGE, CLEAR: job id (R94). -/
  | job (id : Nat)
  /-- ABORT_JOB of a RUNNING job (R113). -/
  | stopped (id progress : Nat) (counts : JobCounts)
  /-- ABORT_JOB of a WAITING job (R113). -/
  | cancelled (id : Nat)
  /-- JOB_STATUS (R100). -/
  | report (r : JobReport)
  /-- DOMAIN_GET (R55). -/
  | domain (d : Domain)
  /-- DOMAIN_SET: the two counts (R57). -/
  | counts (count orphans : Nat)
  /-- SETTING_GET and SETTING_SET: id and value (R180, R181). -/
  | setting (id value : Nat)
  /-- LEASE_TAKE: the lease record (R174). -/
  | lease (holder : Option Port) (remaining : Nat)
  /-- SETTING_GET of the id LEASE: the id and the lease record (R180). -/
  | leaseReading (holder : Option Port) (remaining : Nat)
  /-- LEASE_RENEW: remaining time (R175). -/
  | remaining (time : Nat)
  /-- STAT_READ and STAT_TAKE of a counter (R196, R198). -/
  | counter (id : CounterId) (value : Count32)
  /-- STAT_READ of a SESSION reading (R197); the port that is read comes first (DESIGN CHOICE, log 26). -/
  | sessionReading (port : Port) (session : Session) (link : Link) (orphanJob : Option (Nat × LeaveCause))
  deriving DecidableEq, Repr

/-- A response as it is written into its place (R124). -/
structure Response where
  kind : Byte
  tag : Byte
  status : Status
  result : Result
  deriving DecidableEq, Repr

/-- A place of the response queue in use (R125). -/
inductive Place where
  | reserved
  | written (r : Response)
  | discard
  deriving DecidableEq, Repr

/-! ### Notices (08) -/

/-- Reasons of BINDING_GONE (R158). -/
inductive GoneReason where
  | released | expired | orphanRemoved | fault
  deriving DecidableEq, Repr

/-- The cause in PORT_STATE (R133). -/
inductive StateCause where
  | attach
  | left (cause : LeaveCause)
  deriving DecidableEq, Repr

/-- A notice with the fields its kind carries (R158). -/
inductive Notice where
  | transferOffer (domain : DomainId) (key : Key) (taker : Port) (handle : Handle) (index : TransferIndex) (tag : Byte)
  | transferDone (outcome : TransferOutcome) (domain : DomainId) (key : Key) (other : Port) (handle : Handle)
      (index : TransferIndex) (tag : Byte)
  | preempted (domain : DomainId) (key : Key) (newOwner : Port) (handle : Handle) (slot : Nat)
  | adopted (domain : DomainId) (key : Key) (lost : Port) (handle : Handle) (slot : Nat)
  | expired (domain : DomainId) (key : Key) (owner : Port) (handle : Handle) (slot : Nat)
  | jobDone (outcome : JobOutcome) (requester : Port) (id : Nat) (kind : JobKind) (examined result : Nat)
  | leaseLost (holder : Port)
  | noticesLost (port : Port) (count : Nat)
  | bindingGone (reason : GoneReason) (domain : DomainId) (key : Key) (owner : Option Port) (handle : Handle) (slot : Nat)
  | portState (port : Port) (session : Session) (cause : StateCause)
  | slotFault (slot : Nat)
  | sweepDone (id examined expired : Nat)
  | counterHalf (id : CounterId)
  deriving DecidableEq, Repr

/-- The five subscribed kinds (R130, R159). -/
inductive SubscribedKind where
  | bindingGone | portState | slotFault | counterHalf | sweepDone
  deriving DecidableEq, Repr

/-- A subscription set (R130). -/
structure Subscriptions where
  bindingGone : Bool
  portState : Bool
  slotFault : Bool
  counterHalf : Bool
  sweepDone : Bool
  deriving DecidableEq, Repr

/-- The subscription set holds a kind (R161). -/
def Subscriptions.holds (s : Subscriptions) : SubscribedKind → Bool
  | .bindingGone => s.bindingGone
  | .portState => s.portState
  | .slotFault => s.slotFault
  | .counterHalf => s.counterHalf
  | .sweepDone => s.sweepDone

/-- The empty subscription set (R130). -/
def Subscriptions.empty : Subscriptions := ⟨false, false, false, false, false⟩

/-- Which ports a notice is for (R159). -/
inductive Audience where
  /-- A directed notice, for its addressee. -/
  | directed (p : Port)
  /-- A subscribed notice. -/
  | subscribers (kind : SubscribedKind)
  /-- PORT_STATE: subscribers other than the port that changed (R133). -/
  | subscribersBut (kind : SubscribedKind) (excluded : Port)
  /-- BINDING_GONE reason FAULT: the owner, and the other subscribers (R19). -/
  | ownerAndSubscribers (owner : Port) (kind : SubscribedKind)
  deriving DecidableEq, Repr

/-- The Notice Unit's state for one port (R162, R163, R166). `windowDue`: the last millitick's window start is still
to come for this port (log 10). -/
structure NoticePort where
  queue : List Notice
  lostCount : Nat
  windowCount : Nat
  windowLimit : Nat
  windowDue : Bool
  deriving DecidableEq, Repr

/-! ### Port Controllers (06) -/

/-- The executor: IDLE, or BUSY with the request it has taken (R123). -/
inductive Executor where
  | idle
  | busy (r : RequestFrame)
  deriving DecidableEq, Repr

/-- A frame in transmission, as it was filled when its transmission began (R203, R204). -/
inductive OutFrame where
  | response (r : Response) (credits : Nat) (overrun : Bool)
  | notice (n : Notice) (credits : Nat)
  deriving DecidableEq, Repr

/-- A Port Controller (R118 to R137). `masterCredits` is the master's own count by R118 and R122 (log 22). -/
structure PortController where
  link : Link
  session : Session
  keepaliveTimeout : Nat
  pacingLimit : Nat
  subscriptions : Subscriptions
  requestQueue : List RequestFrame
  executor : Executor
  responseQueue : List Place
  transmitter : Option OutFrame
  creditReturn : Nat
  overrun : Bool
  claimCredit : Nat
  refillTimer : Option Nat
  keepaliveTimer : Option Nat
  masterCredits : Int
  deriving DecidableEq, Repr

/-! ### Configuration Unit (09) -/

/-- The lease record (R173). -/
structure Lease where
  holder : Option Port
  remaining : Nat
  deriving DecidableEq, Repr

/-- The device settings (R179). -/
structure Settings where
  hashSeed : Nat
  timebaseDivider : Nat
  sweepInterval : Nat
  transferTimeout : Nat
  creditCapacity : Nat
  refillAmount : Nat
  refillInterval : Nat
  quota : PerPort Nat
  deriving DecidableEq, Repr

/-- The millitick generator (R185). -/
structure Timebase where
  periodCount : Nat
  dividerInForce : Nat
  deriving DecidableEq, Repr

/-! ### Statistics Unit (10) -/

/-- The ten counters of a port (R188). -/
structure PortCounters where
  requests : Count32
  refusals : Count32
  resolveHits : Count32
  resolveMisses : Count32
  claims : Count32
  throttled : Count32
  overruns : Count32
  frameErrors : Count32
  noticesSent : Count32
  noticesLost : Count32
  deriving DecidableEq, Repr

/-- The value of a per-port counter. -/
def PortCounters.get (c : PortCounters) : PortCounter → Count32
  | .requests => c.requests
  | .refusals => c.refusals
  | .resolveHits => c.resolveHits
  | .resolveMisses => c.resolveMisses
  | .claims => c.claims
  | .throttled => c.throttled
  | .overruns => c.overruns
  | .frameErrors => c.frameErrors
  | .noticesSent => c.noticesSent
  | .noticesLost => c.noticesLost

/-- The counters with one of them changed. -/
def PortCounters.set (c : PortCounters) (n : PortCounter) (v : Count32) : PortCounters :=
  match n with
  | .requests => { c with requests := v }
  | .refusals => { c with refusals := v }
  | .resolveHits => { c with resolveHits := v }
  | .resolveMisses => { c with resolveMisses := v }
  | .claims => { c with claims := v }
  | .throttled => { c with throttled := v }
  | .overruns => { c with overruns := v }
  | .frameErrors => { c with frameErrors := v }
  | .noticesSent => { c with noticesSent := v }
  | .noticesLost => { c with noticesLost := v }

/-- The eight device counters (R188). -/
structure DeviceCounters where
  expiries : Count32
  orphansRemoved : Count32
  orphansHeld : Count32
  orphansAdopted : Count32
  transfersGranted : Count32
  transfersEnded : Count32
  slotFaults : Count32
  sweepPasses : Count32
  deriving DecidableEq, Repr

/-- The value of a device counter. -/
def DeviceCounters.get (c : DeviceCounters) : DeviceCounter → Count32
  | .expiries => c.expiries
  | .orphansRemoved => c.orphansRemoved
  | .orphansHeld => c.orphansHeld
  | .orphansAdopted => c.orphansAdopted
  | .transfersGranted => c.transfersGranted
  | .transfersEnded => c.transfersEnded
  | .slotFaults => c.slotFaults
  | .sweepPasses => c.sweepPasses

/-- The device counters with one of them changed. -/
def DeviceCounters.set (c : DeviceCounters) (n : DeviceCounter) (v : Count32) : DeviceCounters :=
  match n with
  | .expiries => { c with expiries := v }
  | .orphansRemoved => { c with orphansRemoved := v }
  | .orphansHeld => { c with orphansHeld := v }
  | .orphansAdopted => { c with orphansAdopted := v }
  | .transfersGranted => { c with transfersGranted := v }
  | .transfersEnded => { c with transfersEnded := v }
  | .slotFaults => { c with slotFaults := v }
  | .sweepPasses => { c with sweepPasses := v }

/-! ### What an operation reads at its start -/

/-- What an operation reads at the start of its grant (R16, R17, R178; log 9). -/
structure View where
  session : PerPort Session
  leaseHolder : Option Port
  ready : Bool
  clearRunning : Bool
  credit : PerPort Nat
  deriving DecidableEq, Repr

/-- What an operation hands over during its grant: a count to the Statistics Unit (R189) or a notice to the Notice Unit
(R160). -/
inductive Report where
  | count (c : CounterId)
  | notice (a : Audience) (n : Notice)
  deriving DecidableEq, Repr

/-- What ends a grant, after everything the operation hands over (R15). -/
inductive Ending where
  /-- An executor's response is written (R124). -/
  | response (status : Status) (result : Result)
  /-- The bucket of the head job ends, with these counts of the job (R95, R98). -/
  | bucket (counts : JobCounts)
  /-- The expiry resolution is complete (R86). -/
  | resolution
  deriving DecidableEq, Repr

/-- A grant in progress: its client, what the operation read at its start (R14, R16), and, once the operation has acted
on the directory, what it still hands over, in order, and how the grant ends (R15; log 4). -/
structure Grant where
  client : Client
  view : View
  reports : List Report
  ending : Option Ending
  deriving DecidableEq, Repr

/-- A grant whose operation has not acted yet. -/
def Grant.fresh (c : Client) (v : View) : Grant := ⟨c, v, [], none⟩

/-! ### Values after RESET_N -/

/-- R23: every slot undefined, every count 0. -/
def Directory.atReset : Directory := ⟨[], 0, PerPort.all 0, 0, 0⟩

/-- R53: the defaults of a domain record. -/
def Policy.default : Policy where
  enabled := false
  claimPolicy := .openToAll
  memberSet := PerPort.all true
  preemptSet := PerPort.all false
  pinSet := PerPort.all false
  autoClaim := false
  leaseLimit := 4
  cap := 16384
  orphanAction := .hold
  standby := .p0

/-- R53, R11. -/
def Domain.atReset : Domain := ⟨Policy.default, 0, 0⟩

/-- R70. -/
def Transfers.atReset : Transfers := ⟨Vector.replicate 32 none, 31, []⟩

/-- The five counts of a new job (R91). -/
def JobCounts.zero : JobCounts := ⟨0, 0, 0, 0, 0⟩

/-- The start-up clear (R24, R115). -/
def startupClear : Job := ⟨0, .clear, none, 0, JobCounts.zero⟩

/-- R115. -/
def Maintenance.atReset : Maintenance := ⟨[startupClear], [], 1, some 1000, []⟩

/-- R142, R40; the master's ledger is 0 (log 22). -/
def PortController.atReset : PortController where
  link := .down
  session := .offline
  keepaliveTimeout := 0
  pacingLimit := 0
  subscriptions := Subscriptions.empty
  requestQueue := []
  executor := .idle
  responseQueue := []
  transmitter := none
  creditReturn := 0
  overrun := false
  claimCredit := 0
  refillTimer := none
  keepaliveTimer := none
  masterCredits := 0

/-- R172; the model's own flag is false (log 10). -/
def NoticePort.atReset : NoticePort := ⟨[], 0, 0, 0, false⟩

/-- R173. -/
def Lease.free : Lease := ⟨none, 0⟩

/-- R179: the defaults of the settings. -/
def Settings.default : Settings where
  hashSeed := 0
  timebaseDivider := 100000
  sweepInterval := 1000
  transferTimeout := 50
  creditCapacity := 64
  refillAmount := 8
  refillInterval := 1
  quota := PerPort.all 4096

/-- R185. -/
def Timebase.atReset : Timebase := ⟨0, Config.resetDivider⟩

/-- R200. -/
def PortCounters.zero : PortCounters := ⟨0, 0, 0, 0, 0, 0, 0, 0, 0, 0⟩

/-- R200. -/
def DeviceCounters.zero : DeviceCounters := ⟨0, 0, 0, 0, 0, 0, 0, 0⟩

end Sys2Proof.Machine
end

