-- ==== Sys2Proof/Decode.lean ====
section
/-! DEFINITION. Reading words: the check sequence of a frame (R205), the request a frame carries (R201, R202), and the
table's own decoder, which answers none because no row of spec/opcode_table.json has bits (log 1). -/

namespace Sys2Proof

/-- The command that a word spells by the bits of spec/opcode_table.json: the table gives no row any bits. -/
def decodeTableWord (_nbits _w : Nat) : Option Instr := none

namespace Machine

/-- One bit step of the cyclic code with generator x^8 + x^2 + x + 1 (R205). -/
def crcBit (r : Byte) : Byte := if r.msb then (r <<< 1) ^^^ 0x07#8 else r <<< 1

/-- One byte of the cyclic code, most significant bit first (R205). -/
def crcByte (r b : Byte) : Byte := crcBit (crcBit (crcBit (crcBit (crcBit (crcBit (crcBit (crcBit (r ^^^ b))))))))

/-- The check sequence of a list of bytes: initial register of all ones, no final inversion (R205). -/
def crc8 (bytes : List Byte) : Byte := bytes.foldl crcByte 0xFF#8

/-- Byte 15 of a frame is the check sequence of bytes 0 to 14 (R205). -/
def frameChecks (f : Frame) : Bool := crc8 (f.toList.take 15) == f[15]

/-- Two bytes, most significant first (R201). -/
def be16 (a b : Byte) : Nat := 256 * a.toNat + b.toNat

/-- Four bytes, most significant first (R201). -/
def be32 (a b c d : Byte) : BitVec 32 := a ++ b ++ c ++ d

/-- Six bytes, most significant first (R201). -/
def be48 (a b c d e f : Byte) : BitVec 48 := a ++ b ++ c ++ d ++ e ++ f

/-- The key of a binding request: bytes 4 to 9 (11.1). -/
def frameKey (f : Frame) : Key := be48 f[4] f[5] f[6] f[7] f[8] f[9]

/-- The handle of a binding request: bytes 10 to 13 (11.1). -/
def frameHandle (f : Frame) : Handle := be32 f[10] f[11] f[12] f[13]

/-- A port-set byte: bit n for Pn; bits 4 to 7 are not read (R202). -/
def portSetOf (b : Byte) : PortSet := ⟨b.getLsbD 0, b.getLsbD 1, b.getLsbD 2, b.getLsbD 3⟩

/-- The request that byte 0 names, with its parameters as 11.1 lays them out; a byte that is no request kind code names
no request (R202). Bytes and bits that 11.1 does not name are not read. -/
def decodeBody (f : Frame) : Request :=
  match f[0].toNat with
  | 1 => .attach (be16 f[2] f[3]) f[4].toNat f[5].toNat
  | 2 => .detach
  | 3 => .keepalive
  | 4 => .evict f[2].toNat
  | 5 => .resolve f[2].toNat (frameKey f) (f[3].getLsbD 0) (frameHandle f)
  | 6 => .claim f[2].toNat (frameKey f) (frameHandle f) (f[3].getLsbD 1) (f[3].getLsbD 2)
  | 7 => .release f[2].toNat (frameKey f)
  | 8 => .touch f[2].toNat (frameKey f)
  | 9 => .readSlot (be16 f[2] f[3])
  | 10 => .scanNext (be16 f[2] f[3]) f[4].toNat f[5].toNat f[6].toNat
  | 11 => .handoverAsk f[2].toNat (frameKey f) (frameHandle f)
  | 12 => .handoverReply f[2].toNat f[3].toNat
  | 13 => .sweep
  | 14 => .purge f[2].toNat f[3].toNat f[4].toNat
  | 15 => .clear
  | 16 => .abortJob (be16 f[2] f[3])
  | 17 => .jobStatus (be16 f[2] f[3])
  | 18 => .domainGet f[2].toNat
  | 19 => .domainSet f[2].toNat f[3].toNat f[4].toNat (portSetOf f[5]) (portSetOf f[6]) (portSetOf f[7]) f[8].toNat
      f[9].toNat (be16 f[10] f[11]) f[12].toNat f[13].toNat
  | 20 => .settingGet f[2].toNat
  | 21 => .settingSet f[2].toNat (be32 f[3] f[4] f[5] f[6]).toNat
  | 22 => .leaseTake (be16 f[2] f[3])
  | 23 => .leaseRenew (be16 f[2] f[3])
  | 24 => .leaseDrop
  | 25 => .statRead f[2].toNat f[3].toNat
  | 26 => .statTake f[2].toNat f[3].toNat
  | _ => .unknown

/-- A request frame as the receiver reads it: kind byte, sequence tag, request (R119, R202). -/
def decodeRequest (f : Frame) : RequestFrame := ⟨f[0], f[1], decodeBody f⟩

end Machine

end Sys2Proof
end

