-- ==== Sys2Proof/Machine/Flags.lean ====
section
/-! DEFINITION. The flags of a RESOLVE hit, the classes of the statuses, and the numeric codes of chapter 11.2. -/

namespace Sys2Proof.Machine

/-- The four flags of a RESOLVE hit from port `p`, with the session states the operation read (R27). -/
def hitFlags (session : PerPort Session) (p : Port) (t : Tenure) : HitFlags where
  self := decide (t.owner = some p)
  ownerLost :=
    match t.owner with
    | some o => decide (session.get o ≠ .online)
    | none => false
  inTransfer := decide (t.state = .transfer)
  orphaned := decide (t.state = .orphaned)

/-- Status codes (11.2). -/
def Status.code : Status → Nat
  | .ok => 0
  | .already => 1
  | .claimed => 2
  | .pending => 3
  | .handed => 4
  | .merged => 5
  | .continueScan => 6
  | .endOfScan => 7
  | .miss => 16
  | .owned => 32
  | .busy => 33
  | .full => 34
  | .quota => 35
  | .cap => 36
  | .throttled => 37
  | .closed => 38
  | .notMember => 39
  | .notPermitted => 40
  | .notOwner => 41
  | .domainOff => 42
  | .orphaned => 43
  | .noLease => 44
  | .held => 45
  | .invalid => 46
  | .notAttached => 47
  | .draining => 48
  | .retry => 49
  | .notEmpty => 50
  | .cancelled => 51

/-- The refusal class: 32 and above (R129; 11.2 note 1). -/
def Status.isRefusal (st : Status) : Bool := 32 ≤ st.code

/-- Port codes (11.2). -/
def portCode : Port → Nat
  | .p0 => 0
  | .p1 => 1
  | .p2 => 2
  | .p3 => 3

/-- Port code of a field that may name no port: NONE is 4 (11.2). -/
def portOrNoneCode : Option Port → Nat
  | some p => portCode p
  | none => 4

/-- Slot state codes (11.2); an undefined slot has none and is never read (R23). -/
def Slot.code : Slot → Nat
  | .undefined => 0
  | .free => 1
  | .occupied _ => 2
  | .defective => 3

/-- Binding state codes (11.2). -/
def BindingState.code : BindingState → Nat
  | .bound => 1
  | .transfer => 2
  | .orphaned => 3

/-- Class codes (11.2). -/
def BindingClass.code : BindingClass → Nat
  | .leased => 1
  | .pinned => 2

/-- Claim policy codes (11.2). -/
def ClaimPolicy.code : ClaimPolicy → Nat
  | .openToAll => 1
  | .members => 2
  | .closed => 3

/-- Orphan action codes (11.2). -/
def OrphanAction.code : OrphanAction → Nat
  | .remove => 1
  | .hold => 2
  | .adopt => 3

/-- Job kind codes (11.2). -/
def JobKind.code : JobKind → Nat
  | .sweep => 1
  | .purge => 2
  | .clear => 3
  | .orphan => 4

/-- Job outcome codes of JOB_STATUS and ABORT_JOB results (11.2). -/
def JobOutcome.stateCode : JobOutcome → Nat
  | .done => 3
  | .aborted => 4
  | .cancelled => 5

/-- Job outcome codes of JOB_DONE (11.2, notice table). -/
def JobOutcome.noticeCode : JobOutcome → Nat
  | .done => 1
  | .aborted => 2
  | .cancelled => 3

/-- Transfer outcome codes (11.2). -/
def TransferOutcome.code : TransferOutcome → Nat
  | .granted => 1
  | .giverGone => 2
  | .refused => 3
  | .timeout => 4
  | .takerGone => 5
  | .quota => 6
  | .removed => 7

/-- BINDING_GONE reason codes (11.2). -/
def GoneReason.code : GoneReason → Nat
  | .released => 1
  | .expired => 2
  | .orphanRemoved => 3
  | .fault => 4

/-- Session state codes (11.2). -/
def Session.code : Session → Nat
  | .offline => 1
  | .online => 2
  | .draining => 3

/-- Codes of the causes of leaving ONLINE (11.2). -/
def LeaveCause.code : LeaveCause → Nat
  | .detach => 2
  | .link => 3
  | .keepalive => 4
  | .evicted => 5

/-- Cause codes of PORT_STATE (11.2). -/
def StateCause.code : StateCause → Nat
  | .attach => 1
  | .left c => c.code

/-- Per-port counter name codes (11.2). -/
def PortCounter.code : PortCounter → Nat
  | .requests => 1
  | .refusals => 2
  | .resolveHits => 3
  | .resolveMisses => 4
  | .claims => 5
  | .throttled => 6
  | .overruns => 7
  | .frameErrors => 8
  | .noticesSent => 9
  | .noticesLost => 10

/-- Device counter name codes (11.2). -/
def DeviceCounter.code : DeviceCounter → Nat
  | .expiries => 1
  | .orphansRemoved => 2
  | .orphansHeld => 3
  | .orphansAdopted => 4
  | .transfersGranted => 5
  | .transfersEnded => 6
  | .slotFaults => 7
  | .sweepPasses => 8

/-- Scope code and name code of a counter id (11.2). -/
def CounterId.codes : CounterId → Nat × Nat
  | .port p n => (portCode p, n.code)
  | .device n => (4, n.code)

end Sys2Proof.Machine
end

