-- ==== Sys2Proof/Machine/State.lean ====
section
/-! DEFINITION. The state of the HD416, its value after RESET_N, and the (unused) reasons a step can stop. -/

namespace Sys2Proof.Machine

/-- The state of the part, block by block, and the queue of the commands that wait (INVENTORY.md, State). -/
structure State where
  /-- RESET_N is low (R206). -/
  resetHeld : Bool
  /-- The READY output (R24). -/
  ready : Bool
  /-- Directory Store (01). -/
  directory : Directory
  /-- The last granted client of the arbiter (R14). -/
  lastGranted : Client
  /-- The grant in progress (R14 to R16). -/
  grant : Option Grant
  /-- Domain Table (03). -/
  domains : Vector Domain 64
  /-- Transfer Controller (04). -/
  transfers : Transfers
  /-- Maintenance Engine (05). -/
  maintenance : Maintenance
  /-- Port Controllers (06). -/
  ports : PerPort PortController
  /-- Notice Unit (08). -/
  notices : PerPort NoticePort
  /-- Configuration Unit: the lease (R173). -/
  lease : Lease
  /-- Configuration Unit: the settings (R179). -/
  settings : Settings
  /-- Configuration Unit: the millitick generator (R185). -/
  timebase : Timebase
  /-- Statistics Unit: per-port counters (R188). -/
  portCounters : PerPort PortCounters
  /-- Statistics Unit: device counters (R188). -/
  deviceCounters : DeviceCounters
  /-- The commands that wait, first in, first out (log 1). -/
  pending : List Instr
  deriving DecidableEq, Repr

/-- Why the machine stops. No rule of the spec stops the part, so no command raises a fault and there is none. -/
inductive Fault where
  deriving DecidableEq, Repr

/-- Why a command has no meaning. -/
inductive Refusal where
  /-- Raised by a command that is not modelled yet; no arm of exec raises it. Safe: the machine stops. -/
  | notModelled (mnemonic : String)
  deriving DecidableEq, Repr

/-- The machine when RESET_N has taken effect and is still low: each block's values after RESET_N (R23, R53, R70, R115,
R142, R172, R173, R179, R185, R200, R206; log 21). -/
def State.reset : State where
  resetHeld := true
  ready := false
  directory := Directory.atReset
  lastGranted := .transferController
  grant := none
  domains := Vector.replicate 64 Domain.atReset
  transfers := Transfers.atReset
  maintenance := Maintenance.atReset
  ports := PerPort.all PortController.atReset
  notices := PerPort.all NoticePort.atReset
  lease := Lease.free
  settings := Settings.default
  timebase := Timebase.atReset
  portCounters := PerPort.all PortCounters.zero
  deviceCounters := DeviceCounters.zero
  pending := []

end Sys2Proof.Machine
end

