-- ==== Sys2Proof/Machine/Updates.lean ====
section
/-! DEFINITION. One named update for each field of State, and the reads and updates of one port's or one domain's part. -/

namespace Sys2Proof.Machine

/-- `s` with its `resetHeld` replaced. -/
def State.withResetHeld (s : State) (x : Bool) : State := { s with resetHeld := x }

/-- `s` with its `ready` replaced. -/
def State.withReady (s : State) (x : Bool) : State := { s with ready := x }

/-- `s` with its `directory` replaced. -/
def State.withDirectory (s : State) (x : Directory) : State := { s with directory := x }

/-- `s` with its `lastGranted` replaced. -/
def State.withLastGranted (s : State) (x : Client) : State := { s with lastGranted := x }

/-- `s` with its `grant` replaced. -/
def State.withGrant (s : State) (x : Option Grant) : State := { s with grant := x }

/-- `s` with its `domains` replaced. -/
def State.withDomains (s : State) (x : Vector Domain 64) : State := { s with domains := x }

/-- `s` with its `transfers` replaced. -/
def State.withTransfers (s : State) (x : Transfers) : State := { s with transfers := x }

/-- `s` with its `maintenance` replaced. -/
def State.withMaintenance (s : State) (x : Maintenance) : State := { s with maintenance := x }

/-- `s` with its `ports` replaced. -/
def State.withPorts (s : State) (x : PerPort PortController) : State := { s with ports := x }

/-- `s` with its `notices` replaced. -/
def State.withNotices (s : State) (x : PerPort NoticePort) : State := { s with notices := x }

/-- `s` with its `lease` replaced. -/
def State.withLease (s : State) (x : Lease) : State := { s with lease := x }

/-- `s` with its `settings` replaced. -/
def State.withSettings (s : State) (x : Settings) : State := { s with settings := x }

/-- `s` with its `timebase` replaced. -/
def State.withTimebase (s : State) (x : Timebase) : State := { s with timebase := x }

/-- `s` with its `portCounters` replaced. -/
def State.withPortCounters (s : State) (x : PerPort PortCounters) : State := { s with portCounters := x }

/-- `s` with its `deviceCounters` replaced. -/
def State.withDeviceCounters (s : State) (x : DeviceCounters) : State := { s with deviceCounters := x }

/-- `s` with its `pending` replaced. -/
def State.withPending (s : State) (x : List Instr) : State := { s with pending := x }

/-- The Port Controller of a port. -/
def State.port (s : State) (p : Port) : PortController := s.ports.get p

/-- The Port Controller of a port, changed. -/
def State.modifyPort (s : State) (p : Port) (f : PortController → PortController) : State :=
  s.withPorts (s.ports.set p (f (s.ports.get p)))

/-- The Notice Unit's state of a port. -/
def State.noticePort (s : State) (p : Port) : NoticePort := s.notices.get p

/-- The Notice Unit's state of a port, changed. -/
def State.modifyNotices (s : State) (p : Port) (f : NoticePort → NoticePort) : State :=
  s.withNotices (s.notices.set p (f (s.notices.get p)))

/-- The record of a domain. -/
def State.domain (s : State) (d : DomainId) : Domain := s.domains.get d

/-- The record of a domain, changed. -/
def State.modifyDomain (s : State) (d : DomainId) (f : Domain → Domain) : State :=
  s.withDomains (s.domains.set d.val (f (s.domains.get d)) d.isLt)

/-- The entry of a transfer index; absent is FREE (R69). -/
def State.entry (s : State) (i : TransferIndex) : Option Transfer := s.transfers.entries.get i

/-- The entry of a transfer index, replaced. -/
def State.setEntry (s : State) (i : TransferIndex) (e : Option Transfer) : State :=
  s.withTransfers { s.transfers with entries := s.transfers.entries.set i.val e i.isLt }

/-- The job queue, replaced. -/
def State.withQueue (s : State) (q : List Job) : State := s.withMaintenance { s.maintenance with queue := q }

/-- The value of a counter. -/
def State.counter (s : State) : CounterId → Count32
  | .port p n => (s.portCounters.get p).get n
  | .device n => s.deviceCounters.get n

/-- The value of a counter, replaced. -/
def State.setCounter (s : State) (c : CounterId) (v : Count32) : State :=
  match c with
  | .port p n => s.withPortCounters (s.portCounters.set p ((s.portCounters.get p).set n v))
  | .device n => s.withDeviceCounters (s.deviceCounters.set n v)

end Sys2Proof.Machine
end

