-- ==== Sys2Proof/Machine/NoticeUnit.lean ====
section
/-! DEFINITION. Handing a notice to the Notice Unit (R159 to R163) and counting an event (R188 to R190). The two meet:
a discarded copy is counted, and a count past half range is a notice. What an operation in a grant hands over waits in
its grant until it is delivered. -/

namespace Sys2Proof.Machine

/-- A port is ONLINE. -/
def State.online (s : State) (p : Port) : Bool := decide ((s.port p).session = .online)

/-- R160: the port receives a copy of a notice for this audience, as sessions and subscription sets now stand. -/
def State.receives (s : State) (a : Audience) (p : Port) : Bool :=
  s.online p &&
    match a with
    | .directed q => decide (p = q)
    | .subscribers k => (s.port p).subscriptions.holds k
    | .subscribersBut k q => decide (p ≠ q) && (s.port p).subscriptions.holds k
    | .ownerAndSubscribers o k => decide (p = o) || (s.port p).subscriptions.holds k

/-- Half range of a counter, 2^31 (R190). -/
def halfRange : Count32 := 0x80000000#32

/-- R188, R190: 1 is added to a counter; true when that takes it from 2^31 − 1 to 2^31. -/
def State.bump (s : State) (c : CounterId) : State × Bool :=
  (s.setCounter c (s.counter c + 1), s.counter c + 1 == halfRange)

/-- The COUNTER_HALF notice of a counter, with its audience (R190). -/
def counterHalfNotice (c : CounterId) : Audience × Notice := (.subscribers .counterHalf, .counterHalf c)

/-- R162, R163: one copy joins the port's notice queue, or is discarded, raises the lost count and is counted. The list
holds the COUNTER_HALF that the count of a discard produces. -/
def State.offerCopy (s : State) (n : Notice) (p : Port) : State × List (Audience × Notice) :=
  if (s.noticePort p).queue.length < Config.noticeQueueSize then
    (s.modifyNotices p (fun q => { q with queue := q.queue ++ [n] }), [])
  else
    let s1 := s.modifyNotices p (fun q => { q with lostCount := min Config.lostCountMax (q.lostCount + 1) })
    let r := s1.bump (.port p .noticesLost)
    (r.1, if r.2 then [counterHalfNotice (.port p .noticesLost)] else [])

/-- R160: the copies of one notice, port by port in ascending order. -/
def State.offerCopies (s : State) (a : Audience) (n : Notice) : List Port → State × List (Audience × Notice)
  | [] => (s, [])
  | p :: rest =>
    if s.receives a p then
      let r := s.offerCopy n p
      let r2 := r.1.offerCopies a n rest
      (r2.1, r.2 ++ r2.2)
    else s.offerCopies a n rest

/-- The notices of a list, handed over one after another; what a handover produces goes to the end of the list
(log 16). -/
def State.handOver (s : State) : Nat → List (Audience × Notice) → State
  | 0, _ => s
  | _ + 1, [] => s
  | k + 1, (a, n) :: rest =>
    let r := s.offerCopies a n allPorts
    r.1.handOver k (rest ++ r.2)

/-- R160: a notice handed to the Notice Unit. Each of the four NOTICES_LOST counters passes half range at most once in
one handover (R163), so five notices end the chain. -/
def State.notify (s : State) (a : Audience) (n : Notice) : State := s.handOver 5 [(a, n)]

/-- R188 to R190: one counted event, with the COUNTER_HALF it may produce. -/
def State.count (s : State) (c : CounterId) : State :=
  let r := s.bump c
  if r.2 then r.1.notify (counterHalfNotice c).1 (counterHalfNotice c).2 else r.1

/-! ### Handing over during a grant -/

/-- R15: the operation in the grant produces a report, which waits behind the ones it produced before (log 4). -/
def State.report (s : State) (r : Report) : State :=
  s.withGrant (s.grant.map (fun g => { g with reports := g.reports ++ [r] }))

/-- A notice that an operation hands over during its grant (R15, R160). -/
def State.notifyInGrant (s : State) (a : Audience) (n : Notice) : State := s.report (.notice a n)

/-- A count that an operation hands over during its grant (R15, R189). -/
def State.countInGrant (s : State) (c : CounterId) : State := s.report (.count c)

/-- A report reaches its unit. -/
def State.deliver (s : State) : Report → State
  | .count c => s.count c
  | .notice a n => s.notify a n

end Sys2Proof.Machine
end

