-- ==== Sys2Proof/Machine/JobQueue.lean ====
section
/-! DEFINITION. The job queue and the job history (R91 to R99, R111), and a port's leaving ONLINE, which enqueues its
ORPHAN job (R134). -/

namespace Sys2Proof.Machine

/-- The id counter one further: after 255 comes 1 (R92). -/
def nextJobId (id : Nat) : Nat := if 255 ≤ id then 1 else id + 1

/-- R92: the first id from `id` on that no job in the queue holds. Among nine ids one is free of the queue's eight. -/
def freeJobId (queue : List Job) : Nat → Nat → Nat
  | 0, id => id
  | k + 1, id => if queue.any (fun j => j.id == id) then freeJobId queue k (nextJobId id) else id

/-- The id the next job receives (R92). -/
def Maintenance.newId (m : Maintenance) : Nat := freeJobId m.queue m.queue.length m.nextId

/-- A job joins the tail of the queue with the next id (R91 to R94); the id is the second component. -/
def State.enqueueJob (s : State) (w : JobWork) (requester : Option Port) : State × Nat :=
  let id := s.maintenance.newId
  (s.withMaintenance
    { s.maintenance with
      queue := s.maintenance.queue ++ [⟨id, w, requester, 0, JobCounts.zero⟩], nextId := nextJobId id }, id)

/-- The WAITING SWEEP, if there is one (R93): the head of the queue is RUNNING. -/
def Maintenance.waitingSweep (m : Maintenance) : Option Job :=
  m.queue.tail.find? (fun j => decide (j.work.kind = .sweep))

/-- There is room among the jobs other than ORPHAN jobs (R93). -/
def Maintenance.hasRoom (m : Maintenance) : Bool :=
  m.queue.countP (fun j => decide (j.work.kind ≠ .orphan)) < Config.otherJobsLimit

/-- A CLEAR job is RUNNING (R111, R128). -/
def Maintenance.clearRunning (m : Maintenance) : Bool :=
  match m.queue with
  | j :: _ => decide (j.work.kind = .clear)
  | [] => false

/-- The head job's record, changed. -/
def State.modifyHeadJob (s : State) (f : Job → Job) : State :=
  match s.maintenance.queue with
  | j :: rest => s.withQueue (f j :: rest)
  | [] => s

/-- The head job's counts, changed. -/
def State.modifyCounts (s : State) (f : JobCounts → JobCounts) : State :=
  s.modifyHeadJob (fun j => { j with counts := f j.counts })

/-- R99: a record enters the history; a full history drops its oldest record. -/
def State.recordJob (s : State) (r : JobRecord) : State :=
  s.withMaintenance
    { s.maintenance with
      history :=
        (if s.maintenance.history.length < Config.historySize then s.maintenance.history
          else s.maintenance.history.tail) ++ [r] }

/-- The record of a job that finishes: progress 2048, the cursor, or 0 (R99). -/
def Job.record (j : Job) (o : JobOutcome) : JobRecord :=
  ⟨j.id, j.work, j.requester, o,
    match o with
    | .done => Config.buckets
    | .aborted => j.cursor
    | .cancelled => 0, j.counts⟩

/-- The count that JOB_DONE carries in its key field: expired for a SWEEP, removed for the others (R98). -/
def Job.properCount (j : Job) : Nat := if j.work.kind = .sweep then j.counts.expired else j.counts.removed

/-- R98 step 2: JOB_DONE for the requester, if the requester is a port. -/
def State.notifyJobDone (s : State) (j : Job) (o : JobOutcome) : State :=
  match j.requester with
  | some r => s.notify (.directed r) (.jobDone o r j.id j.work.kind j.counts.examined j.properCount)
  | none => s

/-- R98 steps 1 and 2 for a job that is no longer in the queue: its record and its JOB_DONE. -/
def State.closeJob (s : State) (o : JobOutcome) (j : Job) : State := (s.recordJob (j.record o)).notifyJobDone j o

/-- A job that a CLEAR cancels when it becomes RUNNING (R111). -/
def Job.cancelledByClear (j : Job) : Bool := decide (j.work.kind = .sweep) || decide (j.work.kind = .purge)

/-- R98 step 4 and R111: the new head is RUNNING; if it is a CLEAR, every WAITING SWEEP and PURGE is cancelled, in queue
order. -/
def State.startHead (s : State) : State :=
  match s.maintenance.queue with
  | j :: rest =>
    if j.work.kind = .clear then
      (rest.filter Job.cancelledByClear).foldl (fun t c => t.closeJob .cancelled c)
        (s.withQueue (j :: rest.filter (fun c => !c.cancelledByClear)))
    else s
  | [] => s

/-- R152: the drain of the target port ends. -/
def State.endDrain (s : State) (p : Port) (c : LeaveCause) : State :=
  (s.modifyPort p (fun q => { q with session := .offline })).notify (.subscribersBut .portState p)
    (.portState p .offline (.left c))

/-- R98 step 3: what follows the finish of a job by its kind: SWEEP_DONE and its count (R103), the end of draining
(R152), READY (R24). -/
def State.afterFinish (s : State) (j : Job) (o : JobOutcome) : State :=
  match j.work, o with
  | .sweep, .done =>
    (s.notify (.subscribers .sweepDone) (.sweepDone j.id j.counts.examined j.counts.expired)).count
      (.device .sweepPasses)
  | .orphan p c, .done => s.endDrain p c
  | .clear, .done => if j.id = 0 then s.withReady true else s
  | _, _ => s

/-- R98: the head job finishes, with the four steps in their order. -/
def State.finishHead (s : State) (o : JobOutcome) : State :=
  match s.maintenance.queue with
  | j :: rest => (((s.withQueue rest).closeJob o j).afterFinish j o).startHead
  | [] => s

/-- The Port Controller of a port that leaves ONLINE (R134). -/
def PortController.left (c : PortController) : PortController :=
  { c with session := .draining, keepaliveTimer := none, refillTimer := none, claimCredit := 0,
           keepaliveTimeout := 0, pacingLimit := 0, subscriptions := Subscriptions.empty }

/-- R134: a port leaves ONLINE: session, timers, credit, parameters, notice queue (R169), lease (R173), ORPHAN job
(R143), PORT_STATE (R133). The id of the ORPHAN job is the second component. -/
def State.leaveOnline (s : State) (p : Port) (c : LeaveCause) : State × Nat :=
  let s1 := s.modifyPort p PortController.left
  let s2 := s1.modifyNotices p (fun q => { q with queue := [], lostCount := 0, windowCount := 0 })
  let s3 := if s2.lease.holder = some p then s2.withLease Lease.free else s2
  let r := s3.enqueueJob (.orphan p c) none
  (r.1.notify (.subscribersBut .portState p) (.portState p .draining (.left c)), r.2)

end Sys2Proof.Machine
end

