-- ==== Sys2Proof/Machine/Operands.lean ====
section
/-! DEFINITION. The parameters of requests: what a number names (11.2), which numbers are in range, and which of the
common checks a request kind meets (R13, R26, R128). -/

namespace Sys2Proof.Machine

/-- The port a code names (11.2). -/
def portOfCode : Nat → Option Port
  | 0 => some .p0
  | 1 => some .p1
  | 2 => some .p2
  | 3 => some .p3
  | _ => none

/-- A domain number that has passed the range check (R26). -/
def asDomain (n : Nat) : DomainId := Fin.ofNat 64 n

/-- A transfer index that has passed the range check (R82). -/
def asIndex (n : Nat) : TransferIndex := Fin.ofNat 32 n

/-- A yes/no byte (11.2). -/
def yesNoInRange (n : Nat) : Bool := n ≤ 1

/-- The claim policy a code names (11.2). -/
def claimPolicyOfCode : Nat → Option ClaimPolicy
  | 1 => some .openToAll
  | 2 => some .members
  | 3 => some .closed
  | _ => none

/-- The orphan action a code names (11.2). -/
def orphanActionOfCode : Nat → Option OrphanAction
  | 1 => some .remove
  | 2 => some .hold
  | 3 => some .adopt
  | _ => none

/-- A filter's domain byte: 0..63, or 255 for "any" (11.2). -/
def filterDomainInRange (n : Nat) : Bool := n < 64 || n == 255

/-- The domain of a filter; absent is "any" (R50, R108). -/
def filterDomain (n : Nat) : Option DomainId := if n == 255 then none else some (asDomain n)

/-- The owner field of a filter: a port, NONE 4, or "any" 255 (11.2). -/
def ownerFilterOfCode : Nat → Option OwnerFilter
  | 0 => some (.owned .p0)
  | 1 => some (.owned .p1)
  | 2 => some (.owned .p2)
  | 3 => some (.owned .p3)
  | 4 => some .noOwner
  | 255 => some .any
  | _ => none

/-- The state field of a SCAN_NEXT filter (11.2); the inner absence is "any". -/
def stateFilterOfCode : Nat → Option (Option BindingState)
  | 1 => some (some .bound)
  | 2 => some (some .transfer)
  | 3 => some (some .orphaned)
  | 255 => some none
  | _ => none

/-- The class field of a PURGE filter (11.2); the inner absence is "any". -/
def classFilterOfCode : Nat → Option (Option BindingClass)
  | 1 => some (some .leased)
  | 2 => some (some .pinned)
  | 255 => some none
  | _ => none

/-- The filter of a PURGE, where its three bytes are in range (R107). -/
def purgeFilterOf (domain owner cls : Nat) : Option PurgeFilter :=
  match filterDomainInRange domain, ownerFilterOfCode owner, classFilterOfCode cls with
  | true, some o, some c => some ⟨filterDomain domain, o, c⟩
  | _, _, _ => none

/-- The filter of a SCAN_NEXT, where its three bytes are in range (R26). -/
def scanFilterOf (domain owner state : Nat) : Option ScanFilter :=
  match filterDomainInRange domain, ownerFilterOfCode owner, stateFilterOfCode state with
  | true, some o, some st => some ⟨filterDomain domain, o, st⟩
  | _, _, _ => none

/-- A binding matches the owner field of a filter by its recorded owner (R50, R108). -/
def OwnerFilter.matches (f : OwnerFilter) (t : Tenure) : Bool :=
  match f with
  | .any => true
  | .owned p => decide (t.owner = some p)
  | .noOwner => decide (t = .orphaned)

/-- A field of a filter matches: it is "any", or equal. -/
def fieldMatches {α : Type} [DecidableEq α] (f : Option α) (x : α) : Bool :=
  match f with
  | none => true
  | some y => decide (x = y)

/-- A binding matches a PURGE filter (R108). -/
def PurgeFilter.matches (f : PurgeFilter) (b : Binding) : Bool :=
  fieldMatches f.domain b.domain && f.owner.matches b.tenure && fieldMatches f.cls b.cls

/-- A binding matches a SCAN_NEXT filter (R50). -/
def ScanFilter.matches (f : ScanFilter) (b : Binding) : Bool :=
  fieldMatches f.domain b.domain && f.owner.matches b.tenure && fieldMatches f.state b.tenure.state

/-- The subscription set of an ATTACH byte with bits 5 to 7 clear (11.1, R202). -/
def subscriptionsOf (n : Nat) : Subscriptions :=
  ⟨n.testBit 0, n.testBit 1, n.testBit 2, n.testBit 3, n.testBit 4⟩

/-- The per-port counter a name code names (11.2). -/
def portCounterOfCode : Nat → Option PortCounter
  | 1 => some .requests
  | 2 => some .refusals
  | 3 => some .resolveHits
  | 4 => some .resolveMisses
  | 5 => some .claims
  | 6 => some .throttled
  | 7 => some .overruns
  | 8 => some .frameErrors
  | 9 => some .noticesSent
  | 10 => some .noticesLost
  | _ => none

/-- The device counter a name code names (11.2). -/
def deviceCounterOfCode : Nat → Option DeviceCounter
  | 1 => some .expiries
  | 2 => some .orphansRemoved
  | 3 => some .orphansHeld
  | 4 => some .orphansAdopted
  | 5 => some .transfersGranted
  | 6 => some .transfersEnded
  | 7 => some .slotFaults
  | 8 => some .sweepPasses
  | _ => none

/-- The counter that a scope and a name name together, if any (R188). -/
def counterOf (scope name : Nat) : Option CounterId :=
  match portOfCode scope with
  | some p => (portCounterOfCode name).map (.port p)
  | none => if scope == 4 then (deviceCounterOfCode name).map .device else none

/-- The port whose SESSION reading a scope and a name name, if any (R197). -/
def sessionReadingOf (scope name : Nat) : Option Port := if name == 15 then portOfCode scope else none

/-- The range of a setting's value; false for an id that is not one of the eleven (R179, R181). -/
def settingInRange (id value : Nat) : Bool :=
  match id with
  | 1 => value ≤ 255
  | 2 => 25000 ≤ value && value ≤ 200000
  | 3 => value ≤ 65535
  | 4 => 1 ≤ value && value ≤ 1000
  | 5 => 1 ≤ value && value ≤ 255
  | 6 => 1 ≤ value && value ≤ 255
  | 7 => 1 ≤ value && value ≤ 255
  | 8 | 9 | 10 | 11 => value ≤ 16384
  | _ => false

/-- The port whose quota a setting id names (11.2). -/
def quotaPortOf (id : Nat) : Option Port := if 8 ≤ id then portOfCode (id - 8) else none

/-- R128 step 1: the read-only requests. -/
def Request.readOnly : Request → Bool
  | .readSlot _ | .scanNext _ _ _ _ | .domainGet _ | .settingGet _ | .statRead _ _ | .jobStatus _ => true
  | .attach _ _ _ | .detach | .keepalive | .evict _ | .resolve _ _ _ _ | .claim _ _ _ _ _ | .release _ _ | .touch _ _
  | .handoverAsk _ _ _ | .handoverReply _ _ | .sweep | .purge _ _ _ | .clear | .abortJob _
  | .domainSet _ _ _ _ _ _ _ _ _ _ _ | .settingSet _ _ | .leaseTake _ | .leaseRenew _ | .leaseDrop | .statTake _ _
  | .unknown => false

/-- R128 step 2: the two requests served while READY is low. -/
def Request.servedDuringStartup : Request → Bool
  | .settingGet _ | .statRead _ _ => true
  | .attach _ _ _ | .detach | .keepalive | .evict _ | .resolve _ _ _ _ | .claim _ _ _ _ _ | .release _ _ | .touch _ _
  | .readSlot _ | .scanNext _ _ _ _ | .handoverAsk _ _ _ | .handoverReply _ _ | .sweep | .purge _ _ _ | .clear
  | .abortJob _ | .jobStatus _ | .domainGet _ | .domainSet _ _ _ _ _ _ _ _ _ _ _ | .settingSet _ _ | .leaseTake _
  | .leaseRenew _ | .leaseDrop | .statTake _ _ | .unknown => false

/-- R128 step 3: the requests that need the configuration lease, sent by port `p`. -/
def Request.needsLease (p : Port) : Request → Bool
  | .domainSet _ _ _ _ _ _ _ _ _ _ _ | .settingSet _ _ | .purge _ _ _ | .clear | .abortJob _ | .evict _ => true
  | .statTake scope _ =>
    match portOfCode scope with
    | some q => decide (q ≠ p)
    | none => false
  | .attach _ _ _ | .detach | .keepalive | .resolve _ _ _ _ | .claim _ _ _ _ _ | .release _ _ | .touch _ _
  | .readSlot _ | .scanNext _ _ _ _ | .handoverAsk _ _ _ | .handoverReply _ _ | .sweep | .jobStatus _ | .domainGet _
  | .settingGet _ | .leaseTake _ | .leaseRenew _ | .leaseDrop | .statRead _ _ | .unknown => false

/-- R128 step 4: every parameter is in the range that the request's rule gives (R26, R56, R76, R82, R100, R107, R113,
R132, R138, R174, R175, R180, R181, R196, R198, R202). -/
def Request.inRange : Request → Bool
  | .attach keepaliveTimeout pacingLimit subscriptions =>
    keepaliveTimeout ≤ 60000 && pacingLimit ≤ 63 && subscriptions < 32
  | .evict target => (portOfCode target).isSome
  | .resolve domain _ _ _ => domain < 64
  | .claim domain _ _ _ _ => domain < 64
  | .release domain _ => domain < 64
  | .touch domain _ => domain < 64
  | .readSlot slot => slot < Config.slots
  | .scanNext start domain owner state => start < Config.slots && (scanFilterOf domain owner state).isSome
  | .handoverAsk domain _ _ => domain < 64
  | .handoverReply index decision => index < 32 && (decision == 1 || decision == 2)
  | .purge domain owner cls => (purgeFilterOf domain owner cls).isSome
  | .abortJob id => id ≤ 255
  | .jobStatus id => id ≤ 255
  | .domainGet domain => domain < 64
  | .domainSet domain enabled claimPolicy _ _ _ autoClaim leaseLimit cap orphanAction standby =>
    domain < 64 && yesNoInRange enabled && (claimPolicyOfCode claimPolicy).isSome && yesNoInRange autoClaim
      && (1 ≤ leaseLimit && leaseLimit ≤ 15) && cap ≤ 16384 && (orphanActionOfCode orphanAction).isSome
      && (portOfCode standby).isSome
  | .settingGet id => 1 ≤ id && id ≤ 12
  | .settingSet id value => settingInRange id value
  | .leaseTake duration => 10 ≤ duration && duration ≤ 60000
  | .leaseRenew duration => 10 ≤ duration && duration ≤ 60000
  | .statRead scope name => (counterOf scope name).isSome || (sessionReadingOf scope name).isSome
  | .statTake scope name => (counterOf scope name).isSome
  | .detach | .keepalive | .sweep | .clear | .leaseDrop => true
  | .unknown => false

/-- R128 step 5: the requests answered RETRY while a CLEAR is RUNNING. -/
def Request.heldByClear : Request → Bool
  | .resolve _ _ _ _ | .claim _ _ _ _ _ | .release _ _ | .touch _ _ | .handoverAsk _ _ _ | .handoverReply _ _ => true
  | .attach _ _ _ | .detach | .keepalive | .evict _ | .readSlot _ | .scanNext _ _ _ _ | .sweep | .purge _ _ _ | .clear
  | .abortJob _ | .jobStatus _ | .domainGet _ | .domainSet _ _ _ _ _ _ _ _ _ _ _ | .settingGet _ | .settingSet _ _
  | .leaseTake _ | .leaseRenew _ | .leaseDrop | .statRead _ _ | .statTake _ _ | .unknown => false

/-- R13: the requests that wait for a grant of the directory arbiter. -/
def Request.granted : Request → Bool
  | .resolve _ _ _ _ | .claim _ _ _ _ _ | .release _ _ | .touch _ _ | .readSlot _ | .scanNext _ _ _ _
  | .handoverAsk _ _ _ | .handoverReply _ _ | .domainGet _ | .domainSet _ _ _ _ _ _ _ _ _ _ _ => true
  | .settingSet id _ => id == 1 || (quotaPortOf id).isSome
  | .attach _ _ _ | .detach | .keepalive | .evict _ | .sweep | .purge _ _ _ | .clear | .abortJob _ | .jobStatus _
  | .settingGet _ | .leaseTake _ | .leaseRenew _ | .leaseDrop | .statRead _ _ | .statTake _ _ | .unknown => false

/-- R128 step 1: the status a request is refused with for its port's session state. While READY is low that refusal
reads RETRY (R24, R128; log 20). -/
def portStateCheck (v : View) (p : Port) (r : Request) : Option Status :=
  if r.readOnly then none
  else
    let refusal : Option Status :=
      match v.session.get p, r with
      | .online, _ => none
      | .offline, .attach _ _ _ => none
      | .draining, .attach _ _ _ => some .retry
      | .offline, _ => some .notAttached
      | .draining, _ => some .draining
    if refusal.isSome && !v.ready then some .retry else refusal

/-- The common check order, steps 1 to 5 (R128): the first check that fails gives the status. -/
def commonCheck (v : View) (p : Port) (r : Request) : Option Status :=
  match portStateCheck v p r with
  | some st => some st
  | none =>
    if !v.ready && !r.servedDuringStartup then some .retry
    else if r.needsLease p && decide (v.leaseHolder ≠ some p) then some .noLease
    else if !r.inRange then some .invalid
    else if v.clearRunning && r.heldByClear then some .retry
    else none

end Sys2Proof.Machine
end

