-- ==== Sys2Proof/Machine/Store.lean ====
section
/-! DEFINITION. The slots of the Directory Store: reading and writing one slot, the bucket of an identifier, and the
count movements of R12. -/

namespace Sys2Proof.Machine

/-- The listed slot at an index. -/
def readCells : List (Nat × Slot) → Nat → Option Slot
  | [], _ => none
  | (j, x) :: rest, i => if j = i then some x else readCells rest i

/-- The list with the slot at an index listed as given, or no longer listed; the indices stay rising. -/
def writeCells : List (Nat × Slot) → Nat → Option Slot → List (Nat × Slot)
  | [], i, some x => [(i, x)]
  | [], _, none => []
  | (j, y) :: rest, i, v =>
    if j < i then (j, y) :: writeCells rest i v
    else
      match v with
      | some x => if j = i then (i, x) :: rest else (i, x) :: (j, y) :: rest
      | none => if j = i then rest else (j, y) :: rest

/-- What an unlisted slot reads as: FREE where the start-up clear has passed since RESET_N, undefined elsewhere (R23,
R24; log 8). -/
def Directory.unlisted (d : Directory) (i : Nat) : Slot := if i < Config.ways * d.cleared then .free else .undefined

/-- The slot at an index. -/
def Directory.read (d : Directory) (i : Nat) : Slot := (readCells d.cells i).getD (d.unlisted i)

/-- A slot is listed when it is OCCUPIED or DEFECTIVE. -/
def Slot.listed : Slot → Option Slot
  | .undefined => none
  | .free => none
  | .occupied b => some (.occupied b)
  | .defective => some .defective

/-- The slot at an index, written. -/
def Directory.write (d : Directory) (i : Nat) (x : Slot) : Directory :=
  { d with cells := writeCells d.cells i x.listed }

/-- The indices of a list are strictly rising. -/
def risingCells : List (Nat × Slot) → Bool
  | [] => true
  | [_] => true
  | (i, _) :: (j, y) :: rest => i < j && risingCells ((j, y) :: rest)

/-- The canonical form of the slots (log 8): indices strictly rising and in buckets that the start-up clear has
processed, every listed slot OCCUPIED or DEFECTIVE, and no more buckets than the directory has. -/
def Directory.wf (d : Directory) : Bool :=
  risingCells d.cells && d.cells.all (fun c => c.1 < Config.ways * d.cleared && c.2.listed.isSome)
    && d.cleared ≤ Config.buckets

/-- The slot at an index, of the whole state. -/
def State.slot (s : State) (i : Nat) : Slot := s.directory.read i

/-- The slot at an index, written. -/
def State.writeSlot (s : State) (i : Nat) (x : Slot) : State := s.withDirectory (s.directory.write i x)

/-- The binding at a slot, written. -/
def State.putBinding (s : State) (i : Nat) (b : Binding) : State := s.writeSlot i (.occupied b)

/-- R2: the bucket of an identifier under a hash seed. -/
def bucketIndex (d : DomainId) (k : Key) (seed : Nat) : Nat :=
  (k.toNat % 2039 + 4099 * d.val + 257 * seed) % Config.buckets

/-- R1: the slots of a bucket in way order. -/
def bucketSlots (b : Nat) : List Nat := (List.range Config.ways).map (Config.ways * b + ·)

/-- The slots of the bucket of an identifier, under the hash seed in force (R2). -/
def State.slotsOf (s : State) (d : DomainId) (k : Key) : List Nat := bucketSlots (bucketIndex d k s.settings.hashSeed)

/-- owned_count of a port (R10). -/
def State.owned (s : State) (p : Port) : Nat := s.directory.ownedCount.get p

/-- owned_count of a port, changed. -/
def State.modifyOwned (s : State) (p : Port) (f : Nat → Nat) : State :=
  s.withDirectory { s.directory with ownedCount := s.directory.ownedCount.set p (f (s.directory.ownedCount.get p)) }

/-- orphan_total and orphans[d], changed alike (R12). -/
def State.modifyOrphans (s : State) (d : DomainId) (f : Nat → Nat) : State :=
  (s.withDirectory { s.directory with orphanTotal := f s.directory.orphanTotal }).modifyDomain d
    (fun r => { r with orphans := f r.orphans })

/-- count[d], changed (R12). -/
def State.modifyCount (s : State) (d : DomainId) (f : Nat → Nat) : State :=
  s.modifyDomain d (fun r => { r with count := f r.count })

/-- R12: creation of a binding of domain `d` with owner `q`. -/
def State.countCreation (s : State) (d : DomainId) (q : Port) : State :=
  (s.modifyOwned q (· + 1)).modifyCount d (· + 1)

/-- R12: removal, or loss by check failure, of a binding. -/
def State.countRemoval (s : State) (b : Binding) : State :=
  match b.tenure.owner with
  | some p => (s.modifyOwned p (· - 1)).modifyCount b.domain (· - 1)
  | none => (s.modifyOrphans b.domain (· - 1)).modifyCount b.domain (· - 1)

/-- R12: owner change from `p` to `q`. -/
def State.countOwnerChange (s : State) (p q : Port) : State :=
  (s.modifyOwned p (· - 1)).modifyOwned q (· + 1)

/-- R12: BOUND with owner `p` to ORPHANED. -/
def State.countHold (s : State) (p : Port) (d : DomainId) : State :=
  (s.modifyOwned p (· - 1)).modifyOrphans d (· + 1)

/-- R12: ORPHANED to BOUND with owner `q`. -/
def State.countOrphanAdoption (s : State) (q : Port) (d : DomainId) : State :=
  (s.modifyOwned q (· + 1)).modifyOrphans d (· - 1)

/-- The defective count, changed (R21). -/
def State.modifyDefective (s : State) (f : Nat → Nat) : State :=
  s.withDirectory { s.directory with defectiveCount := f s.directory.defectiveCount }

/-- The FAULT output: high while the defective count is above 0 (R21). -/
def State.faultPin (s : State) : Bool := 0 < s.directory.defectiveCount

/-- R8: the binding at a slot is removed: the slot becomes FREE and the counts move. -/
def State.removeBinding (s : State) (i : Nat) (b : Binding) : State := (s.writeSlot i .free).countRemoval b

end Sys2Proof.Machine
end

