-- ==== Sys2Proof/Machine/Ops.lean ====
section
/-! DEFINITION. The shared operations: the arbiter and the answering of requests (R13 to R16, R124), the ends of
transfers (R73 to R75), slot check failures (R19), lookup and insertion (R6, R7). -/

namespace Sys2Proof.Machine

/-! ### The arbiter -/

/-- What an operation that starts now reads (R16). -/
def State.view (s : State) : View where
  session := s.ports.map PortController.session
  leaseHolder := s.lease.holder
  ready := s.ready
  clearRunning := s.maintenance.clearRunning
  credit := s.ports.map PortController.claimCredit

/-- R13: a client has a waiting operation. -/
def State.waiting (s : State) : Client → Bool
  | .executor p =>
    match (s.port p).executor with
    | .busy r => r.body.granted
    | .idle => false
  | .maintenance => !s.maintenance.queue.isEmpty
  | .transferController => !s.transfers.expiryList.isEmpty

/-- R14: the six clients in the circular order, from the one after the last granted. -/
def clientsAfter : Client → List Client
  | .executor .p0 =>
    [.executor .p1, .executor .p2, .executor .p3, .maintenance, .transferController, .executor .p0]
  | .executor .p1 =>
    [.executor .p2, .executor .p3, .maintenance, .transferController, .executor .p0, .executor .p1]
  | .executor .p2 =>
    [.executor .p3, .maintenance, .transferController, .executor .p0, .executor .p1, .executor .p2]
  | .executor .p3 =>
    [.maintenance, .transferController, .executor .p0, .executor .p1, .executor .p2, .executor .p3]
  | .maintenance =>
    [.transferController, .executor .p0, .executor .p1, .executor .p2, .executor .p3, .maintenance]
  | .transferController =>
    [.executor .p0, .executor .p1, .executor .p2, .executor .p3, .maintenance, .transferController]

/-- R14: while no grant is in progress, the first waiting client after the last granted one is granted and recorded,
and its operation reads what it acts on (R16). Nothing is granted while RESET_N is low (R206). -/
def State.arbitrate (s : State) : State :=
  if s.resetHeld || s.grant.isSome then s
  else
    match (clientsAfter s.lastGranted).find? s.waiting with
    | some c => (s.withGrant (some (.fresh c s.view))).withLastGranted c
    | none => s

/-- The grant ends and the arbiter chooses again (R14, R15). -/
def State.endGrant (s : State) : State := (s.withGrant none).arbitrate

/-- The grant in progress, if this client holds it. -/
def State.grantOf (s : State) (c : Client) : Option Grant :=
  match s.grant with
  | some g => if g.client = c then some g else none
  | none => none

/-- The operation of the grant in progress has acted on the directory: it has no more reports to produce, and its grant
ends so once they are handed over (R15). -/
def State.acted (s : State) (e : Ending) : State := s.withGrant (s.grant.map (fun g => { g with ending := some e }))

/-! ### Requests and responses -/

/-- What carrying out a request gives: the state, and the status and result of its response. -/
structure Reply where
  state : State
  status : Status
  result : Result
  deriving DecidableEq, Repr

/-- A reply with a status alone: no result field and no change of its own. -/
def refuse (s : State) (st : Status) : Reply := ⟨s, st, .none⟩

/-- R125: the RESERVED place takes the response; a DISCARD place is freed. -/
def fillPlace (r : Response) : Place → List Place
  | .reserved => [.written r]
  | .written x => [.written x]
  | .discard => []

/-- The Port Controller after a response is written (R124, R125). -/
def PortController.answered (c : PortController) (r : Response) : PortController :=
  { c with executor := .idle, responseQueue := c.responseQueue.flatMap (fillPlace r) }

/-- R124, R125, R191: the response is written, the executor becomes IDLE, and a refusal is counted. -/
def State.respond (s : State) (p : Port) (rq : RequestFrame) (st : Status) (res : Result) : State :=
  let s1 := s.modifyPort p (fun c => c.answered ⟨rq.kind, rq.tag, st, res⟩)
  if st.isRefusal then s1.count (.port p .refusals) else s1

/-- R128: the common check order against what the operation read, then the request's own rule. -/
def checkedReply (v : View) (p : Port) (rq : RequestFrame) (act : State → Reply) (s : State) : Reply :=
  match commonCheck v p rq.body with
  | some st => refuse s st
  | none => act s

/-- A request carried out and its response written (R124). -/
def State.answer (s : State) (v : View) (p : Port) (rq : RequestFrame) (act : State → Reply) : State :=
  let r := checkedReply v p rq act s
  r.state.respond p rq r.status r.result

/-- A step of the part. No command stops it. -/
abbrev StepOutcome := Host.Outcome State Fault Refusal

/-- R124: a request of any other kind runs at once, against the state as it stands. -/
def runDirect (p : Port) (s : State) (row : RequestFrame → Option (State → Reply)) : StepOutcome :=
  match (s.port p).executor with
  | .busy rq =>
    match row rq with
    | some act => .next (s.answer s.view p rq act).arbitrate
    | none => .next s
  | .idle => .next s

/-! ### Transfers -/

/-- R73 step 2: the entry becomes FREE, its timer stops and it leaves the expiry list. -/
def State.freeEntry (s : State) (i : TransferIndex) : State :=
  let s1 := s.setEntry i none
  s1.withTransfers { s1.transfers with expiryList := s1.transfers.expiryList.filter (fun j => decide (j ≠ i)) }

/-- R73 step 4: the counter of an outcome. -/
def TransferOutcome.counter : TransferOutcome → CounterId
  | .granted | .giverGone => .device .transfersGranted
  | .refused | .timeout | .takerGone | .quota | .removed => .device .transfersEnded

/-- R73 steps 2 to 4: the entry is freed, TRANSFER_DONE goes to giver and taker, the ending is counted. -/
def State.endTransfer (s : State) (i : TransferIndex) (t : Transfer) (o : TransferOutcome) (d : DomainId) (k : Key) :
    State :=
  (((s.freeEntry i).notifyInGrant (.directed t.giver) (.transferDone o d k t.taker t.handle i t.tag)).notifyInGrant
    (.directed t.taker) (.transferDone o d k t.giver t.handle i t.tag)).countInGrant o.counter

/-- The ending of the transfer of a binding that is removed or lost, if it is in TRANSFER (R8, R19). -/
def State.endTransferOf (s : State) (b : Binding) (o : TransferOutcome) : State :=
  match b.tenure with
  | .transfer _ i =>
    match s.entry i with
    | some t => s.endTransfer i t o b.domain b.key
    | none => s
  | .bound _ => s
  | .orphaned => s

/-- R74: the binding is granted to the taker, and the counts move from the giver. -/
def State.grantToTaker (s : State) (slot : Nat) (b : Binding) (t : Transfer) : State :=
  (s.putBinding slot { b with tenure := .bound t.taker, handle := t.handle, touched := true, idle := 0 }).countOwnerChange
    t.giver t.taker

/-- R75: the binding is returned to its giver. -/
def State.returnToGiver (s : State) (slot : Nat) (b : Binding) (giver : Port) : State :=
  s.putBinding slot { b with tenure := .bound giver }

/-- The quota check for the port that would own a binding (R38, R39). -/
def State.quotaAllows (s : State) (p : Port) : Bool := s.owned p < s.settings.quota.get p

/-- Whether a transfer is granted to its taker (R74), with the session states the operation read, and with which
outcome it ends when it is not: TAKER_GONE or QUOTA (R73; log 18). -/
def State.takerRefusal (s : State) (v : View) (t : Transfer) : Option TransferOutcome :=
  if v.session.get t.taker ≠ .online then some .takerGone
  else if !s.quotaAllows t.taker then some .quota
  else none

/-! ### Slot check failures -/

/-- The audience of BINDING_GONE reason FAULT (R19 step 4). -/
def faultAudience : Option Port → Audience
  | some o => .ownerAndSubscribers o .bindingGone
  | none => .subscribers .bindingGone

/-- R19 steps 2 to 4 for the binding that a failed slot held. -/
def State.loseBinding (s : State) (i : Nat) (b : Binding) : State :=
  ((s.countRemoval b).endTransferOf b .removed).notifyInGrant (faultAudience b.tenure.owner)
    (.bindingGone .fault b.domain b.key b.tenure.owner b.handle i)

/-- R19 steps 5 and 6, and R22: SLOT_FAULT to subscribers and its count. -/
def State.reportSlotFault (s : State) (i : Nat) : State :=
  (s.notifyInGrant (.subscribers .slotFault) (.slotFault i)).countInGrant (.device .slotFaults)

/-- R19: a slot fails its check. -/
def State.slotFails (s : State) (i : Nat) : State :=
  let s1 := (s.writeSlot i .defective).modifyDefective (· + 1)
  match s.slot i with
  | .occupied b => (s1.loseBinding i b).reportSlotFault i
  | .undefined | .free | .defective => s1.reportSlotFault i

/-! ### Lookup and insertion -/

/-- R6: the OCCUPIED slots of a list are read in order, each checked (R18, R19), up to the first that holds the
identifier. -/
def State.lookupIn (s : State) (failing : List Nat) (d : DomainId) (k : Key) : List Nat → State × Option (Nat × Binding)
  | [] => (s, none)
  | i :: rest =>
    match s.slot i with
    | .occupied b =>
      if failing.contains i then (s.slotFails i).lookupIn failing d k rest
      else if b.domain = d ∧ b.key = k then (s, some (i, b))
      else s.lookupIn failing d k rest
    | .undefined | .free | .defective => s.lookupIn failing d k rest

/-- R6: the lookup of an identifier in its bucket. -/
def State.lookup (s : State) (failing : List Nat) (d : DomainId) (k : Key) : State × Option (Nat × Binding) :=
  s.lookupIn failing d k (s.slotsOf d k)

/-- R7: the lowest FREE slot of a list that passes its check. -/
def State.freeWayIn (s : State) (failing : List Nat) : List Nat → State × Option Nat
  | [] => (s, none)
  | i :: rest =>
    match s.slot i with
    | .free => if failing.contains i then (s.slotFails i).freeWayIn failing rest else (s, some i)
    | .undefined | .occupied _ | .defective => s.freeWayIn failing rest

/-- A fold over the slots of a bucket, in way order. -/
def State.overSlots (s : State) (f : Nat → State → State) (slots : List Nat) : State :=
  slots.foldl (fun t i => f i t) s

/-- A reading of a binding: its slot is checked first, and a failed slot is handled by R19 in place of the action
(R18, R97). FREE and DEFECTIVE slots are passed over. -/
def State.readBinding (s : State) (failing : List Nat) (i : Nat) (f : Binding → State → State) : State :=
  match s.slot i with
  | .occupied b => if failing.contains i then s.slotFails i else f b s
  | .undefined | .free | .defective => s

end Sys2Proof.Machine
end

