-- ==== Sys2Proof/Machine/Grants.lean ====
section
/-! DEFINITION. The course of a grant (R13 to R16): the operation acts on the directory, hands over its counts and notices
one after another, and the grant ends; between two of these, steps of other units may come (R196, R199; log 4). The
runners of the rows that need a grant stand here. -/

namespace Sys2Proof.Machine

/-! ### The end of a bucket grant -/

/-- ABORT_JOB may end the job (R113): it is no ORPHAN job, and not the start-up clear. -/
def Job.abortable (j : Job) : Bool := decide (j.work.kind ≠ .orphan) && decide (j.id ≠ 0)

/-- The response of an ABORT_JOB that waited for the bucket grant to end (R114). -/
def State.answerAbort (s : State) (st : Status) (res : Result) (p : Port) : State :=
  match (s.port p).executor with
  | .busy rq =>
    match rq.body with
    | .abortJob _ => s.respond p rq st res
    | _ => s
  | .idle => s

/-- No ABORT_JOB waits any more. -/
def State.clearAborts (s : State) : State := s.withMaintenance { s.maintenance with abortWaiting := [] }

/-- R114: the job finished DONE in this grant, so every ABORT_JOB that waits answers INVALID. -/
def State.refuseAborts (s : State) : State :=
  s.maintenance.abortWaiting.foldl (fun t q => t.answerAbort .invalid .none q) s.clearAborts

/-- R114: if an ABORT_JOB waits, the job stops with its cursor past the bucket, and the ABORT_JOB is answered; further
ones find the job in the history (log 19). An ABORT_JOB waits only for a job that it may end (log 23). -/
def State.stopIfAborted (s : State) : State :=
  match s.maintenance.queue, s.maintenance.abortWaiting with
  | j :: _, p :: rest =>
    if j.abortable then
      rest.foldl (fun t q => t.answerAbort .invalid .none q)
        ((s.clearAborts.finishHead .aborted).answerAbort .ok (.stopped j.id j.cursor j.counts) p)
    else s.refuseAborts
  | _, _ => s

/-- R95, R98: the cursor advances; after bucket 2047 the job finishes DONE. -/
def State.endBucket (s : State) : State :=
  match s.maintenance.queue with
  | j :: _ =>
    if Config.buckets ≤ j.cursor + 1 then (s.finishHead .done).refuseAborts
    else (s.modifyHeadJob (fun h => { h with cursor := h.cursor + 1 })).stopIfAborted
  | [] => s

/-! ### The end of a grant -/

/-- R124: the response of the request in the executor is written. -/
def State.endRequest (s : State) (p : Port) (st : Status) (res : Result) : State :=
  match (s.port p).executor with
  | .busy rq => s.respond p rq st res
  | .idle => s

/-- What the end of a client's grant does besides freeing the directory. -/
def State.conclude (s : State) : Client → Ending → State
  | .executor p, .response st res => s.endRequest p st res
  | .maintenance, .bucket k => (s.modifyCounts (fun _ => k)).endBucket
  | .executor _, .bucket _ | .executor _, .resolution | .maintenance, .response _ _ | .maintenance, .resolution
  | .transferController, _ => s

/-- The operation of a grant has acted on the directory. -/
def Grant.begun (g : Grant) : Bool := g.ending.isSome

/-- R15: the grant in progress ends, if its operation has acted. -/
def State.finishGrant (s : State) : State :=
  match s.grant with
  | some g =>
    match g.ending with
    | some e => (s.conclude g.client e).endGrant
    | none => s
  | none => s

/-- R15, R160, R189: the grant in progress goes on: all that is left of it, or the next `n` reports, and its end if there
are fewer than `n`. -/
def State.advance (s : State) (upTo : Option Nat) : State :=
  match s.grant with
  | some g =>
    let n := upTo.getD (g.reports.length + 1)
    let s1 := (g.reports.take n).foldl State.deliver (s.withGrant (some { g with reports := g.reports.drop n }))
    if g.reports.length < n then s1.finishGrant else s1
  | none => s

/-! ### The runners of the rows -/

/-- A request acts on the directory in its grant, with what the grant read at its start (R16, R128). -/
def State.actRequest (s : State) (v : View) (p : Port) (rq : RequestFrame) (act : State → Reply) : State :=
  let r := checkedReply v p rq act s
  r.state.acted (.response r.status r.result)

/-- R124: a request of a kind that R13 lists runs in its port's grant. `row` answers none for a request that is not the
row's; then, and while the port does not hold the grant, the event does not occur (log 3). -/
def runGranted (p : Port) (s : State) (upTo : Option Nat) (row : View → RequestFrame → Option (State → Reply)) :
    StepOutcome :=
  match s.grantOf (.executor p), (s.port p).executor with
  | some g, .busy rq =>
    match row g.view rq with
    | some act => .next ((if g.begun then s else s.actRequest g.view p rq act).advance upTo)
    | none => .next s
  | _, _ => .next s

/-- The counts of the head job. -/
def Maintenance.headCounts (m : Maintenance) : JobCounts :=
  match m.queue with
  | j :: _ => j.counts
  | [] => JobCounts.zero

/-- R95: the slots of the bucket at the head job's cursor are processed in way order. The job shows its counts of the
grant's start until the grant ends (R100). -/
def State.actBucket (s : State) (j : Job) (f : Nat → State → State) : State :=
  let t := s.overSlots f (bucketSlots j.cursor)
  (t.modifyCounts (fun _ => j.counts)).acted (.bucket t.maintenance.headCounts)

/-- R95: one bucket grant. `row` answers none for a job that is not the row's; then, and while the Maintenance Engine does
not hold the grant, the event does not occur (log 3). -/
def runBucket (s : State) (upTo : Option Nat) (row : View → Job → Option (Nat → State → State)) : StepOutcome :=
  match s.grantOf .maintenance, s.maintenance.queue with
  | some g, j :: _ =>
    match row g.view j with
    | some f => .next ((if g.begun then s else s.actBucket j f).advance upTo)
    | none => .next s
  | _, _ => .next s

/-- R86: one expiry resolution, of the entry at the head of the expiry list. -/
def runResolution (s : State) (upTo : Option Nat) (row : View → TransferIndex → State → State) : StepOutcome :=
  match s.grantOf .transferController with
  | some g =>
    if g.begun then .next (s.advance upTo)
    else
      match s.transfers.expiryList with
      | x :: _ => .next (((row g.view x s).acted .resolution).advance upTo)
      | [] => .next s
  | none => .next s

end Sys2Proof.Machine
end

