-- ==== Sys2Proof/Machine/Bindings.lean ====
section
/-! DEFINITION. The binding requests: RESOLVE, CLAIM, RELEASE, TOUCH, READ_SLOT, SCAN_NEXT (chapter 02). -/

namespace Sys2Proof.Machine

/-- R31 step 1, R62: the status with which a domain's claim policy refuses a port. -/
def Policy.refusalFor (pol : Policy) (p : Port) : Option Status :=
  match pol.claimPolicy with
  | .openToAll => none
  | .members => if pol.memberSet.get p then none else some .notMember
  | .closed => some .closed

/-- The class after a claim: PINNED if it carries PIN, otherwise kept (R32, R35, R36). -/
def classAfter (pin : Bool) (cls : BindingClass) : BindingClass := if pin then .pinned else cls

/-- R43: one unit of claim credit is taken. -/
def State.takeCredit (s : State) (p : Port) : State :=
  s.modifyPort p (fun c => { c with claimCredit := c.claimCredit - 1 })

/-- R43, R192: a claim refused at its credit check. -/
def throttle (s : State) (p : Port) : Reply := refuse (s.countInGrant (.port p .throttled)) .throttled

/-- A claim of port `p` by CLAIM or by RESOLVE going on as a claim: what the creation, preempt and adoption need. -/
structure ClaimArgs where
  domain : DomainId
  key : Key
  handle : Handle
  pin : Bool
  force : Bool
  deriving DecidableEq, Repr

/-- R37: creation after a miss, answered with `success`. -/
def createBinding (v : View) (p : Port) (a : ClaimArgs) (success : Status) (failing : List Nat) (s : State) : Reply :=
  if ¬ (s.domain a.domain).count < (s.domain a.domain).policy.cap then refuse s .cap
  else if !s.quotaAllows p then refuse s .quota
  else if v.credit.get p = 0 then throttle s p
  else
    match s.freeWayIn failing (s.slotsOf a.domain a.key) with
    | (s1, none) => refuse s1 .full
    | (s1, some i) =>
      let b : Binding := ⟨a.domain, a.key, .bound p, a.handle, classAfter a.pin .leased, true, 0⟩
      ⟨((((s1.putBinding i b).countCreation a.domain p).takeCredit p).countInGrant (.port p .claims)), success,
        .claimed i p b.cls a.handle⟩

/-- R32: refresh by the owner of a BOUND binding. -/
def refreshBinding (p : Port) (a : ClaimArgs) (i : Nat) (b : Binding) (s : State) : Reply :=
  let b' : Binding := { b with handle := a.handle, touched := true, idle := 0, cls := classAfter a.pin b.cls }
  ⟨s.putBinding i b', .already, .claimed i p b'.cls a.handle⟩

/-- The binding after a preempt or an adoption by `p` (R35, R36). -/
def takenBinding (p : Port) (a : ClaimArgs) (b : Binding) : Binding :=
  { b with tenure := .bound p, handle := a.handle, touched := true, idle := 0, cls := classAfter a.pin b.cls }

/-- R35: preempt of a live binding of `o`. -/
def preemptBinding (v : View) (p : Port) (a : ClaimArgs) (i : Nat) (b : Binding) (o : Port) (s : State) : Reply :=
  if !s.quotaAllows p then refuse s .quota
  else if v.credit.get p = 0 then throttle s p
  else
    let b' := takenBinding p a b
    ⟨((((s.putBinding i b').countOwnerChange o p).takeCredit p).notifyInGrant (.directed o)
      (.preempted b.domain b.key p b.handle i)).countInGrant (.port p .claims), .ok, .claimed i p b'.cls a.handle⟩

/-- R36: adoption of a binding that is orphaned in effect. -/
def adoptBinding (v : View) (p : Port) (a : ClaimArgs) (i : Nat) (b : Binding) (s : State) : Reply :=
  if !s.quotaAllows p then refuse s .quota
  else if v.credit.get p = 0 then throttle s p
  else
    let b' := takenBinding p a b
    let s1 := s.putBinding i b'
    let s2 :=
      match b.tenure with
      | .bound o => s1.countOwnerChange o p
      | .transfer g _ => s1.countOwnerChange g p
      | .orphaned => s1.countOrphanAdoption p b.domain
    ⟨(s2.takeCredit p).countInGrant (.port p .claims), .ok, .claimed i p b'.cls a.handle⟩

/-- R31 step 3: the branch of a CLAIM whose lookup hits. -/
def claimHit (v : View) (p : Port) (a : ClaimArgs) (i : Nat) (b : Binding) (s : State) : Reply :=
  match b.tenure with
  | .transfer _ _ => refuse s .busy
  | .orphaned => adoptBinding v p a i b s
  | .bound o =>
    if o = p then refreshBinding p a i b s
    else if v.session.get o ≠ .online then adoptBinding v p a i b s
    else if a.force && (s.domain b.domain).policy.preemptSet.get p then preemptBinding v p a i b o s
    else ⟨s, .owned, .ownedBy o⟩

/-- R25, R27 to R30: RESOLVE after the common checks. -/
def resolveReply (v : View) (p : Port) (a : ClaimArgs) (claimIfAbsent : Bool) (failing : List Nat) (s : State) : Reply :=
  let pol := (s.domain a.domain).policy
  if !pol.enabled then refuse s .domainOff
  else
    match s.lookup failing a.domain a.key with
    | (s1, some (i, b)) =>
      let s2 := s1.countInGrant (.port p .resolveHits)
      let s3 := if b.tenure.owner = some p then s2.putBinding i { b with touched := true, idle := 0 } else s2
      ⟨s3, .ok, .hit i b.tenure b.cls b.handle (hitFlags v.session p b.tenure)⟩
    | (s1, none) =>
      let s2 := s1.countInGrant (.port p .resolveMisses)
      if claimIfAbsent && pol.autoClaim then
        match pol.refusalFor p with
        | some st => refuse s2 st
        | none => createBinding v p a .claimed failing s2
      else refuse s2 .miss

/-- R25, R31: CLAIM after the common checks. -/
def claimReply (v : View) (p : Port) (a : ClaimArgs) (failing : List Nat) (s : State) : Reply :=
  let pol := (s.domain a.domain).policy
  if !pol.enabled then refuse s .domainOff
  else
    match pol.refusalFor p with
    | some st => refuse s st
    | none =>
      if a.pin && !pol.pinSet.get p then refuse s .notPermitted
      else
        match s.lookup failing a.domain a.key with
        | (s1, some (i, b)) => claimHit v p a i b s1
        | (s1, none) => createBinding v p a .ok failing s1

/-- BINDING_GONE reason RELEASED for a binding that `p` released (R44, R46). -/
def State.notifyReleased (s : State) (p : Port) (i : Nat) (b : Binding) : State :=
  s.notifyInGrant (.subscribers .bindingGone) (.bindingGone .released b.domain b.key (some p) b.handle i)

/-- R45, R46: RELEASE by the giver of a binding in TRANSFER. -/
def releaseTransfer (v : View) (p : Port) (i : Nat) (b : Binding) (x : TransferIndex) (t : Transfer) (s : State) : Reply :=
  match s.takerRefusal v t with
  | none => ⟨(s.grantToTaker i b t).endTransfer x t .granted b.domain b.key, .handed, .handed i t.taker⟩
  | some o => ⟨((s.removeBinding i b).endTransfer x t o b.domain b.key).notifyReleased p i b, .ok, .slot i⟩

/-- R25, R44: RELEASE after the common checks. -/
def releaseReply (v : View) (p : Port) (d : DomainId) (k : Key) (failing : List Nat) (s : State) : Reply :=
  if !(s.domain d).policy.enabled then refuse s .domainOff
  else
    match s.lookup failing d k with
    | (s1, none) => refuse s1 .miss
    | (s1, some (i, b)) =>
      match b.tenure with
      | .orphaned => refuse s1 .notOwner
      | .bound o => if o = p then ⟨(s1.removeBinding i b).notifyReleased p i b, .ok, .slot i⟩ else refuse s1 .notOwner
      | .transfer g x =>
        if g = p then
          match s1.entry x with
          | some t => releaseTransfer v p i b x t s1
          | none => refuse s1 .notOwner
        else refuse s1 .notOwner

/-- R25, R47: TOUCH after the common checks. -/
def touchReply (p : Port) (d : DomainId) (k : Key) (failing : List Nat) (s : State) : Reply :=
  if !(s.domain d).policy.enabled then refuse s .domainOff
  else
    match s.lookup failing d k with
    | (s1, none) => refuse s1 .miss
    | (s1, some (i, b)) =>
      if b.tenure.owner = some p then ⟨s1.putBinding i { b with touched := true, idle := 0 }, .ok, .slot i⟩
      else refuse s1 .notOwner

/-- R48: READ_SLOT after the common checks. A DEFECTIVE slot is reported without a read; a slot that fails its check
is reported DEFECTIVE. -/
def readSlotReply (i : Nat) (failing : List Nat) (s : State) : Reply :=
  match s.slot i with
  | .defective => ⟨s, .ok, .slotRecord i .defective⟩
  | .undefined => ⟨s, .ok, .slotRecord i .undefined⟩
  | .free => if failing.contains i then ⟨s.slotFails i, .ok, .slotRecord i .defective⟩ else ⟨s, .ok, .slotRecord i .free⟩
  | .occupied b =>
    if failing.contains i then ⟨s.slotFails i, .ok, .slotRecord i .defective⟩ else ⟨s, .ok, .slotRecord i (.occupied b)⟩

/-- R49: the first OCCUPIED slot of a list that passes its check and matches the filter. -/
def State.scanIn (s : State) (failing : List Nat) (f : ScanFilter) : List Nat → State × Option (Nat × Binding)
  | [] => (s, none)
  | i :: rest =>
    match s.slot i with
    | .occupied b =>
      if failing.contains i then (s.slotFails i).scanIn failing f rest
      else if f.matches b then (s, some (i, b))
      else s.scanIn failing f rest
    | .undefined | .free | .defective => s.scanIn failing f rest

/-- The start of the window after the one a slot stands in (R51). -/
def nextWindow (start : Nat) : Nat := 64 * (start / 64) + 64

/-- The slots from a start index to the end of its window (R49). -/
def windowSlots (start : Nat) : List Nat := List.range' start (nextWindow start - start)

/-- R49 to R51: SCAN_NEXT after the common checks. -/
def scanReply (start : Nat) (f : ScanFilter) (failing : List Nat) (s : State) : Reply :=
  match s.scanIn failing f (windowSlots start) with
  | (s1, some (i, b)) => ⟨s1, .ok, .slotRecord i (.occupied b)⟩
  | (s1, none) =>
    if start / 64 = 255 then ⟨s1, .endOfScan, .none⟩ else ⟨s1, .continueScan, .nextStart (nextWindow start)⟩

/-! ### The rows -/

/-- RESOLVE (R27). -/
def execResolve (p : Port) (g : GrantStep) (s : State) : StepOutcome :=
  runGranted p s g.upTo (fun v rq =>
    match rq.body with
    | .resolve d k c h => some (resolveReply v p ⟨asDomain d, k, h, false, false⟩ c g.failing)
    | _ => none)

/-- CLAIM (R31). -/
def execClaim (p : Port) (g : GrantStep) (s : State) : StepOutcome :=
  runGranted p s g.upTo (fun v rq =>
    match rq.body with
    | .claim d k h pin force => some (claimReply v p ⟨asDomain d, k, h, pin, force⟩ g.failing)
    | _ => none)

/-- RELEASE (R44). -/
def execRelease (p : Port) (g : GrantStep) (s : State) : StepOutcome :=
  runGranted p s g.upTo (fun v rq =>
    match rq.body with
    | .release d k => some (releaseReply v p (asDomain d) k g.failing)
    | _ => none)

/-- TOUCH (R47). -/
def execTouch (p : Port) (g : GrantStep) (s : State) : StepOutcome :=
  runGranted p s g.upTo (fun _ rq =>
    match rq.body with
    | .touch d k => some (touchReply p (asDomain d) k g.failing)
    | _ => none)

/-- READ_SLOT (R48). -/
def execReadSlot (p : Port) (g : GrantStep) (s : State) : StepOutcome :=
  runGranted p s g.upTo (fun _ rq =>
    match rq.body with
    | .readSlot i => some (readSlotReply i g.failing)
    | _ => none)

/-- SCAN_NEXT (R49). -/
def execScanNext (p : Port) (g : GrantStep) (s : State) : StepOutcome :=
  runGranted p s g.upTo (fun _ rq =>
    match rq.body with
    | .scanNext start d o st =>
      some (fun t =>
        match scanFilterOf d o st with
        | some f => scanReply start f g.failing t
        | none => refuse t .invalid)
    | _ => none)

end Sys2Proof.Machine
end

