-- ==== Sys2Proof/Machine/ConfigUnit.lean ====
section
/-! DEFINITION. The settings and the configuration lease: SETTING_GET, the SETTING_SET rows, LEASE_TAKE, LEASE_RENEW,
LEASE_DROP (chapter 09). -/

namespace Sys2Proof.Machine

/-! ### Settings -/

/-- The value of the setting an id names (R179, 11.2). -/
def Settings.value (x : Settings) : Nat → Option Nat
  | 1 => some x.hashSeed
  | 2 => some x.timebaseDivider
  | 3 => some x.sweepInterval
  | 4 => some x.transferTimeout
  | 5 => some x.creditCapacity
  | 6 => some x.refillAmount
  | 7 => some x.refillInterval
  | 8 => some x.quota.p0
  | 9 => some x.quota.p1
  | 10 => some x.quota.p2
  | 11 => some x.quota.p3
  | _ => none

/-- R180: SETTING_GET after the common checks. -/
def settingGetReply (id : Nat) (s : State) : Reply :=
  match s.settings.value id with
  | some v => ⟨s, .ok, .setting id v⟩
  | none => if id = 12 then ⟨s, .ok, .leaseReading s.lease.holder s.lease.remaining⟩ else refuse s .invalid

/-- The sum that R182 tests: owned_count over the four ports plus orphan_total. -/
def Directory.occupied (d : Directory) : Nat :=
  d.ownedCount.p0 + d.ownedCount.p1 + d.ownedCount.p2 + d.ownedCount.p3 + d.orphanTotal

/-- R182. -/
def setHashSeed (value : Nat) (s : State) : Reply :=
  if s.directory.occupied ≠ 0 then refuse s .notEmpty
  else ⟨s.withSettings { s.settings with hashSeed := value }, .ok, .setting 1 value⟩

/-- R186: the period in progress goes on to the divider in force. -/
def setTimebaseDivider (value : Nat) (s : State) : Reply :=
  ⟨s.withSettings { s.settings with timebaseDivider := value }, .ok, .setting 2 value⟩

/-- R105: the sweep timer started with an interval; 0 leaves it stopped. -/
def sweepStart (interval : Nat) : Option Nat := if interval = 0 then none else some interval

/-- R106. -/
def setSweepInterval (value : Nat) (s : State) : Reply :=
  let s1 := s.withSettings { s.settings with sweepInterval := value }
  ⟨s1.withMaintenance { s1.maintenance with sweepTimer := sweepStart value }, .ok, .setting 3 value⟩

/-- R71. -/
def setTransferTimeout (value : Nat) (s : State) : Reply :=
  ⟨s.withSettings { s.settings with transferTimeout := value }, .ok, .setting 4 value⟩

/-- R42: each port's credit is capped at the new capacity. -/
def setCreditCapacity (value : Nat) (s : State) : Reply :=
  let s1 := s.withSettings { s.settings with creditCapacity := value }
  ⟨s1.withPorts (s1.ports.map (fun c => { c with claimCredit := min c.claimCredit value })), .ok, .setting 5 value⟩

/-- R42. -/
def setRefillAmount (value : Nat) (s : State) : Reply :=
  ⟨s.withSettings { s.settings with refillAmount := value }, .ok, .setting 6 value⟩

/-- R42: the refill timer of an ONLINE port started again. -/
def PortController.restartRefill (c : PortController) (interval : Nat) : PortController :=
  if c.session = .online then { c with refillTimer := some interval } else c

/-- R42: the refill timer of each ONLINE port starts again with the new interval. -/
def setRefillInterval (value : Nat) (s : State) : Reply :=
  let s1 := s.withSettings { s.settings with refillInterval := value }
  ⟨s1.withPorts (s1.ports.map (fun c => c.restartRefill value)), .ok, .setting 7 value⟩

/-- R183, for the port whose quota the id names. -/
def setQuota (id value : Nat) (q : Port) (s : State) : Reply :=
  if value < s.owned q then refuse s .invalid
  else ⟨s.withSettings { s.settings with quota := s.settings.quota.set q value }, .ok, .setting id value⟩

/-! ### The lease -/

/-- R174: LEASE_TAKE after the common checks. -/
def leaseTakeReply (p : Port) (duration : Nat) (s : State) : Reply :=
  match s.lease.holder with
  | none => ⟨s.withLease ⟨some p, duration⟩, .ok, .lease (some p) duration⟩
  | some h =>
    if h = p then ⟨s.withLease ⟨some p, duration⟩, .already, .lease (some p) duration⟩
    else ⟨s, .held, .lease (some h) s.lease.remaining⟩

/-- R175: LEASE_RENEW after the common checks. -/
def leaseRenewReply (p : Port) (duration : Nat) (s : State) : Reply :=
  if s.lease.holder = some p then ⟨s.withLease ⟨some p, duration⟩, .ok, .remaining duration⟩ else refuse s .notOwner

/-- R176: LEASE_DROP after the common checks. -/
def leaseDropReply (p : Port) (s : State) : Reply :=
  if s.lease.holder = some p then ⟨s.withLease Lease.free, .ok, .none⟩ else refuse s .notOwner

/-! ### The rows -/

/-- SETTING_GET (R180). -/
def execSettingGet (p : Port) (s : State) : StepOutcome :=
  runDirect p s (fun rq =>
    match rq.body with
    | .settingGet id => some (settingGetReply id)
    | _ => none)

/-- SETTING_SET of HASH_SEED (R182), in a grant. -/
def execSettingSetHashSeed (p : Port) (s : State) : StepOutcome :=
  runGranted p s none (fun _ rq =>
    match rq.body with
    | .settingSet id value => if id = 1 then some (setHashSeed value) else none
    | _ => none)

/-- SETTING_SET of TIMEBASE_DIVIDER (R186); the row also runs a SETTING_SET whose id is none of the eleven, which is
answered INVALID at step 4 at the latest (log 15). -/
def execSettingSetTimebaseDivider (p : Port) (s : State) : StepOutcome :=
  runDirect p s (fun rq =>
    match rq.body with
    | .settingSet id value =>
      if id = 2 then some (setTimebaseDivider value)
      else if (s.settings.value id).isNone then some (fun t => refuse t .invalid)
      else none
    | _ => none)

/-- SETTING_SET of SWEEP_INTERVAL (R106). -/
def execSettingSetSweepInterval (p : Port) (s : State) : StepOutcome :=
  runDirect p s (fun rq =>
    match rq.body with
    | .settingSet id value => if id = 3 then some (setSweepInterval value) else none
    | _ => none)

/-- SETTING_SET of TRANSFER_TIMEOUT (R71). -/
def execSettingSetTransferTimeout (p : Port) (s : State) : StepOutcome :=
  runDirect p s (fun rq =>
    match rq.body with
    | .settingSet id value => if id = 4 then some (setTransferTimeout value) else none
    | _ => none)

/-- SETTING_SET of CREDIT_CAPACITY (R42). -/
def execSettingSetCreditCapacity (p : Port) (s : State) : StepOutcome :=
  runDirect p s (fun rq =>
    match rq.body with
    | .settingSet id value => if id = 5 then some (setCreditCapacity value) else none
    | _ => none)

/-- SETTING_SET of REFILL_AMOUNT (R42). -/
def execSettingSetRefillAmount (p : Port) (s : State) : StepOutcome :=
  runDirect p s (fun rq =>
    match rq.body with
    | .settingSet id value => if id = 6 then some (setRefillAmount value) else none
    | _ => none)

/-- SETTING_SET of REFILL_INTERVAL (R42). -/
def execSettingSetRefillInterval (p : Port) (s : State) : StepOutcome :=
  runDirect p s (fun rq =>
    match rq.body with
    | .settingSet id value => if id = 7 then some (setRefillInterval value) else none
    | _ => none)

/-- SETTING_SET of QUOTA_Pn (R183), in a grant. -/
def execSettingSetQuota (p : Port) (s : State) : StepOutcome :=
  runGranted p s none (fun _ rq =>
    match rq.body with
    | .settingSet id value => (quotaPortOf id).map (fun q => setQuota id value q)
    | _ => none)

/-- LEASE_TAKE (R174). -/
def execLeaseTake (p : Port) (s : State) : StepOutcome :=
  runDirect p s (fun rq =>
    match rq.body with
    | .leaseTake duration => some (leaseTakeReply p duration)
    | _ => none)

/-- LEASE_RENEW (R175). -/
def execLeaseRenew (p : Port) (s : State) : StepOutcome :=
  runDirect p s (fun rq =>
    match rq.body with
    | .leaseRenew duration => some (leaseRenewReply p duration)
    | _ => none)

/-- LEASE_DROP (R176). -/
def execLeaseDrop (p : Port) (s : State) : StepOutcome :=
  runDirect p s (fun rq =>
    match rq.body with
    | .leaseDrop => some (leaseDropReply p)
    | _ => none)

end Sys2Proof.Machine
end

