-- ==== Sys2Proof/Machine/DomainTable.lean ====
section
/-! DEFINITION. The domain requests: DOMAIN_GET and DOMAIN_SET (chapter 03). -/

namespace Sys2Proof.Machine

/-- R55: DOMAIN_GET after the common checks. -/
def domainGetReply (d : DomainId) (s : State) : Reply := ⟨s, .ok, .domain (s.domain d)⟩

/-- The ten writable fields a DOMAIN_SET asks for, where its codes name values (R56). -/
def policyOf (enabled claimPolicy : Nat) (members preempt pins : PortSet)
    (autoClaim leaseLimit cap orphanAction standby : Nat) : Option Policy :=
  match claimPolicyOfCode claimPolicy, orphanActionOfCode orphanAction, portOfCode standby with
  | some c, some a, some q =>
    some ⟨enabled == 1, c, members, preempt, pins, autoClaim == 1, leaseLimit, cap, a, q⟩
  | _, _, _ => none

/-- R57: DOMAIN_SET after the checks of R56. -/
def domainSetReply (d : DomainId) (pol : Policy) (s : State) : Reply :=
  if pol.cap < (s.domain d).count then refuse s .invalid
  else ⟨s.modifyDomain d (fun r => { r with policy := pol }), .ok, .counts (s.domain d).count (s.domain d).orphans⟩

/-! ### The rows -/

/-- DOMAIN_GET (R55). -/
def execDomainGet (p : Port) (s : State) : StepOutcome :=
  runGranted p s none (fun _ rq =>
    match rq.body with
    | .domainGet d => some (domainGetReply (asDomain d))
    | _ => none)

/-- DOMAIN_SET (R57). -/
def execDomainSet (p : Port) (s : State) : StepOutcome :=
  runGranted p s none (fun _ rq =>
    match rq.body with
    | .domainSet d en cp ms ps ns ac ll cap oa sb =>
      some (fun t =>
        match policyOf en cp ms ps ns ac ll cap oa sb with
        | some pol => domainSetReply (asDomain d) pol t
        | none => refuse t .invalid)
    | _ => none)

end Sys2Proof.Machine
end

