-- ==== Sys2Proof/Machine/Handover.lean ====
section
/-! DEFINITION. The handover: HANDOVER_ASK, HANDOVER_REPLY GRANT and REFUSE, and the expiry resolution (chapter 04). -/

namespace Sys2Proof.Machine

/-- R70: the indices upward from the one after the last allocated, wrapping from 31 to 0. -/
def indicesAfter (last : TransferIndex) : List TransferIndex := (List.range 32).map (fun n => last + 1 + Fin.ofNat 32 n)

/-- R70: the first FREE entry of the rotating search. -/
def State.freeIndex (s : State) : Option TransferIndex :=
  (indicesAfter s.transfers.lastAllocated).find? (fun i => (s.entry i).isNone)

/-- R78, R79: the entry is created, the binding put in TRANSFER, and the offer queued for the giver. -/
def offerTransfer (p : Port) (h : Handle) (tag : Byte) (i : Nat) (b : Binding) (giver : Port) (x : TransferIndex)
    (s : State) : Reply :=
  let s1 := s.setEntry x (some ⟨.pending, i, giver, p, s.settings.transferTimeout, tag, h⟩)
  let s2 := (s1.withTransfers { s1.transfers with lastAllocated := x }).putBinding i { b with tenure := .transfer giver x }
  ⟨s2.notifyInGrant (.directed giver) (.transferOffer b.domain b.key p h x tag), .pending, .offered i x giver⟩

/-- R76, R77: HANDOVER_ASK after the common checks. -/
def askReply (v : View) (p : Port) (tag : Byte) (d : DomainId) (k : Key) (h : Handle) (failing : List Nat) (s : State) :
    Reply :=
  let pol := (s.domain d).policy
  if !pol.enabled then refuse s .domainOff
  else
    match s.lookup failing d k with
    | (s1, none) => refuse s1 .miss
    | (s1, some (i, b)) =>
      if b.tenure.owner = some p then ⟨s1, .already, .ownSlot i b.handle⟩
      else
        match b.tenure with
        | .transfer _ _ => refuse s1 .busy
        | .orphaned => refuse s1 .orphaned
        | .bound g =>
          if v.session.get g ≠ .online then refuse s1 .orphaned
          else
            match pol.refusalFor p with
            | some st => refuse s1 st
            | none =>
              if !s1.quotaAllows p then refuse s1 .quota
              else
                match s1.freeIndex with
                | none => refuse s1 .busy
                | some x => offerTransfer p h tag i b g x s1

/-- R82: the entry a HANDOVER_REPLY names is in use, the requester is its giver, and its slot passes its check; then the
reply settles it. -/
def replyToTransfer (p : Port) (x : TransferIndex) (failing : List Nat) (s : State)
    (settle : Transfer → Binding → State → Reply) : Reply :=
  match s.entry x with
  | none => refuse s .invalid
  | some t =>
    if t.giver ≠ p then refuse s .notOwner
    else
      match s.slot t.slot with
      | .occupied b =>
        if failing.contains t.slot then refuse (s.slotFails t.slot) .invalid else settle t b s
      | .undefined | .free | .defective => refuse s .invalid

/-- R83: the giver's GRANT. -/
def settleGrant (v : View) (x : TransferIndex) (t : Transfer) (b : Binding) (s : State) : Reply :=
  match s.takerRefusal v t with
  | none =>
    ⟨(s.grantToTaker t.slot b t).endTransfer x t .granted b.domain b.key, .ok, .replied t.slot x t.taker .granted⟩
  | some o =>
    ⟨(s.returnToGiver t.slot b t.giver).endTransfer x t o b.domain b.key, .cancelled, .replied t.slot x t.giver o⟩

/-- R84: the giver's REFUSE. The owner after is the giver (R203; log 14). -/
def settleRefuse (x : TransferIndex) (t : Transfer) (b : Binding) (s : State) : Reply :=
  ⟨(s.returnToGiver t.slot b t.giver).endTransfer x t .refused b.domain b.key, .ok, .replied t.slot x t.giver .refused⟩

/-- R86: how an expired transfer ends: its outcome, and whether the binding goes to the taker. -/
def State.expiryOutcome (s : State) (v : View) (t : Transfer) : TransferOutcome :=
  if v.session.get t.giver = .online then .timeout
  else
    match s.takerRefusal v t with
    | some o => o
    | none => .giverGone

/-- R86: the expired transfer of a slot that passed its check ends. -/
def settleExpiry (v : View) (x : TransferIndex) (t : Transfer) (b : Binding) (s : State) : State :=
  match s.expiryOutcome v t with
  | .giverGone => (s.grantToTaker t.slot b t).endTransfer x t .giverGone b.domain b.key
  | o => (s.returnToGiver t.slot b t.giver).endTransfer x t o b.domain b.key

/-- R72, R86: the resolution of the entry at the head of the expiry list. -/
def resolveExpiry (v : View) (x : TransferIndex) (failing : List Nat) (s : State) : State :=
  match s.entry x with
  | none => s.freeEntry x
  | some t =>
    match s.slot t.slot with
    | .occupied b => if failing.contains t.slot then s.slotFails t.slot else settleExpiry v x t b s
    | .undefined | .free | .defective => s.freeEntry x

/-! ### The rows -/

/-- HANDOVER_ASK (R77). -/
def execHandoverAsk (p : Port) (g : GrantStep) (s : State) : StepOutcome :=
  runGranted p s g.upTo (fun v rq =>
    match rq.body with
    | .handoverAsk d k h => some (askReply v p rq.tag (asDomain d) k h g.failing)
    | _ => none)

/-- HANDOVER_REPLY with decision GRANT (R83); the row also runs a reply whose decision is neither GRANT nor REFUSE, which
is answered INVALID at step 4 at the latest (log 15). -/
def execHandoverReplyGrant (p : Port) (g : GrantStep) (s : State) : StepOutcome :=
  runGranted p s g.upTo (fun v rq =>
    match rq.body with
    | .handoverReply x decision =>
      if decision = 2 then none
      else some (fun t => replyToTransfer p (asIndex x) g.failing t (settleGrant v (asIndex x)))
    | _ => none)

/-- HANDOVER_REPLY with decision REFUSE (R84). -/
def execHandoverReplyRefuse (p : Port) (g : GrantStep) (s : State) : StepOutcome :=
  runGranted p s g.upTo (fun _ rq =>
    match rq.body with
    | .handoverReply x decision =>
      if decision = 2 then some (fun t => replyToTransfer p (asIndex x) g.failing t (settleRefuse (asIndex x))) else none
    | _ => none)

/-- EXPIRY_RESOLUTION (R86), in the Transfer Controller's grant. -/
def execExpiryResolution (g : GrantStep) (s : State) : StepOutcome :=
  runResolution s g.upTo (fun v x => resolveExpiry v x g.failing)

end Sys2Proof.Machine
end

