-- ==== Sys2Proof/Machine/Jobs.lean ====
section
/-! DEFINITION. The bucket grants of the Maintenance Engine: SWEEP_BUCKET, PURGE_BUCKET, BUCKET_REWRITE, ORPHAN_BUCKET
and STARTUP_CLEAR_BUCKET (chapters 01, 05, 07). -/

namespace Sys2Proof.Machine

/-! ### SWEEP -/

/-- R102: a binding expires. -/
def State.expireBinding (s : State) (i : Nat) (b : Binding) : State :=
  let s1 :=
    ((s.removeBinding i b).modifyCounts (fun c => { c with expired := c.expired + 1 })).countInGrant (.device .expiries)
  let s2 :=
    match b.tenure.owner with
    | some o => s1.notifyInGrant (.directed o) (.expired b.domain b.key o b.handle i)
    | none => s1
  s2.notifyInGrant (.subscribers .bindingGone) (.bindingGone .expired b.domain b.key b.tenure.owner b.handle i)

/-- R101: the treatment of an examined binding by class and touched mark. -/
def State.ageBinding (s : State) (i : Nat) (b : Binding) : State :=
  match b.cls, b.touched with
  | .pinned, _ => s.putBinding i { b with touched := false }
  | .leased, true => s.putBinding i { b with touched := false, idle := 0 }
  | .leased, false =>
    if (s.domain b.domain).policy.leaseLimit ≤ b.idle + 1 then s.expireBinding i b
    else s.putBinding i { b with idle := b.idle + 1 }

/-- The head job's examined count, one up (R101, R108, R112, R144). -/
def State.examine (s : State) : State := s.modifyCounts (fun c => { c with examined := c.examined + 1 })

/-- R101: a SWEEP at one slot. -/
def sweepSlot (failing : List Nat) (i : Nat) (s : State) : State :=
  s.readBinding failing i (fun b t =>
    match b.tenure with
    | .transfer _ _ => t
    | .bound _ => t.examine.ageBinding i b
    | .orphaned => t.examine.ageBinding i b)

/-! ### PURGE -/

/-- The removal of a binding by a job, with the ending of its transfer as REMOVED (R8, R88, R108, R112). -/
def State.removeByJob (s : State) (i : Nat) (b : Binding) : State :=
  (((s.removeBinding i b).modifyCounts (fun c => { c with removed := c.removed + 1 }))).endTransferOf b .removed

/-- R108: a PURGE at one slot. -/
def purgeSlot (f : PurgeFilter) (failing : List Nat) (i : Nat) (s : State) : State :=
  s.readBinding failing i (fun b t => if f.matches b then t.examine.removeByJob i b else t.examine)

/-! ### CLEAR and start-up clear -/

/-- R22, R24: a slot is written FREE and retested; `was` is its state before. -/
def retestSlot (failing : List Nat) (i : Nat) (was : Slot) (s : State) : State :=
  if failing.contains i then
    match was with
    | .defective => s
    | .undefined | .free | .occupied _ => ((s.writeSlot i .defective).modifyDefective (· + 1)).reportSlotFault i
  else
    match was with
    | .defective => (s.writeSlot i .free).modifyDefective (· - 1)
    | .undefined | .free | .occupied _ => s.writeSlot i .free

/-- R22, R112: a CLEAR at one slot: the binding is removed, then the slot rewritten and retested. No CLEAR but the
start-up clear meets an undefined slot (R23; log 23). -/
def rewriteSlot (failing : List Nat) (i : Nat) (s : State) : State :=
  match s.slot i with
  | .occupied b => retestSlot failing i (.occupied b) (s.examine.removeByJob i b)
  | .undefined => s
  | .free => retestSlot failing i .free s
  | .defective => retestSlot failing i .defective s

/-- R24: the start-up clear has reached the bucket, whose slots are then no longer undefined. -/
def State.reachBucket (s : State) (bucket : Nat) : State :=
  s.withDirectory { s.directory with cleared := max s.directory.cleared (bucket + 1) }

/-- R24: the start-up clear at one slot of a bucket. A slot of the bucket is undefined, or reads FREE once the bucket is
reached; an OCCUPIED or DEFECTIVE slot, which the start-up clear never meets, is passed over (log 23). -/
def startupSlot (bucket : Nat) (failing : List Nat) (i : Nat) (s : State) : State :=
  match s.slot i with
  | .undefined | .free => retestSlot failing i .undefined (s.reachBucket bucket)
  | .occupied _ => s
  | .defective => s

/-! ### ORPHAN -/

/-- R145: REMOVE of a LEASED binding of the lost port. -/
def State.orphanRemove (s : State) (p : Port) (i : Nat) (b : Binding) : State :=
  (((s.removeBinding i b).modifyCounts (fun c => { c with removed := c.removed + 1 })).countInGrant
    (.device .orphansRemoved)).notifyInGrant (.subscribers .bindingGone)
      (.bindingGone .orphanRemoved b.domain b.key (some p) b.handle i)

/-- R146: a hold. -/
def State.orphanHold (s : State) (p : Port) (i : Nat) (b : Binding) : State :=
  (((s.putBinding i { b with tenure := .orphaned }).countHold p b.domain).modifyCounts
    (fun c => { c with held := c.held + 1 })).countInGrant (.device .orphansHeld)

/-- R147: the standby port may adopt, by the session states read at the start of the grant. -/
def State.standbyMayAdopt (s : State) (v : View) (p : Port) (pol : Policy) : Bool :=
  decide (v.session.get pol.standby = .online) && decide (pol.standby ≠ p) && s.quotaAllows pol.standby
    && (pol.refusalFor pol.standby).isNone

/-- R148: adoption by the standby port `q`. -/
def State.orphanAdopt (s : State) (p q : Port) (i : Nat) (b : Binding) : State :=
  ((((s.putBinding i { b with tenure := .bound q, touched := true, idle := 0 }).countOwnerChange p q).modifyCounts
    (fun c => { c with adopted := c.adopted + 1 })).countInGrant (.device .orphansAdopted)).notifyInGrant (.directed q)
      (.adopted b.domain b.key p b.handle i)

/-- R68: the orphan action of the domain on a binding that is BOUND with the lost port (R145 to R148). -/
def State.orphanAction (s : State) (v : View) (p : Port) (i : Nat) (b : Binding) : State :=
  let pol := (s.domain b.domain).policy
  match pol.orphanAction, b.cls with
  | .remove, .leased => s.orphanRemove p i b
  | .remove, .pinned => s.orphanHold p i b
  | .hold, _ => s.orphanHold p i b
  | .adopt, _ => if s.standbyMayAdopt v p pol then s.orphanAdopt p pol.standby i b else s.orphanHold p i b

/-- R149: a binding in TRANSFER whose giver is the lost port. -/
def State.settleLostGiver (s : State) (v : View) (p : Port) (i : Nat) (b : Binding) (x : TransferIndex) (t : Transfer) :
    State :=
  match s.takerRefusal v t with
  | none => (s.grantToTaker i b t).endTransfer x t .giverGone b.domain b.key
  | some o =>
    ((s.returnToGiver i b p).endTransfer x t o b.domain b.key).orphanAction v p i { b with tenure := .bound p }

/-- R150: a binding in TRANSFER whose taker is the lost port. -/
def State.settleLostTaker (s : State) (i : Nat) (b : Binding) (x : TransferIndex) (t : Transfer) : State :=
  (s.returnToGiver i b t.giver).endTransfer x t .takerGone b.domain b.key

/-- R144: an ORPHAN job for `p` at one slot: a binding that names `p` is examined and settled, any other passed over. -/
def orphanSlot (v : View) (p : Port) (failing : List Nat) (i : Nat) (s : State) : State :=
  s.readBinding failing i (fun b t =>
    match b.tenure with
    | .orphaned => t
    | .bound o => if o = p then t.examine.orphanAction v p i b else t
    | .transfer g x =>
      match t.entry x with
      | none => t
      | some e =>
        if g = p then t.examine.settleLostGiver v p i b x e
        else if e.taker = p then t.examine.settleLostTaker i b x e
        else t)

/-! ### The rows -/

/-- SWEEP_BUCKET (R101). -/
def execSweepBucket (g : GrantStep) (s : State) : StepOutcome :=
  runBucket s g.upTo (fun _ j =>
    match j.work with
    | .sweep => some (sweepSlot g.failing)
    | _ => none)

/-- PURGE_BUCKET (R108). -/
def execPurgeBucket (g : GrantStep) (s : State) : StepOutcome :=
  runBucket s g.upTo (fun _ j =>
    match j.work with
    | .purge f => some (purgeSlot f g.failing)
    | _ => none)

/-- BUCKET_REWRITE (R22), of a CLEAR job other than the start-up clear. -/
def execBucketRewrite (g : GrantStep) (s : State) : StepOutcome :=
  runBucket s g.upTo (fun _ j =>
    match j.work with
    | .clear => if j.id = 0 then none else some (rewriteSlot g.failing)
    | _ => none)

/-- ORPHAN_BUCKET (R144). -/
def execOrphanBucket (g : GrantStep) (s : State) : StepOutcome :=
  runBucket s g.upTo (fun v j =>
    match j.work with
    | .orphan p _ => some (orphanSlot v p g.failing)
    | _ => none)

/-- STARTUP_CLEAR_BUCKET (R24): the CLEAR job with id 0. -/
def execStartupClearBucket (g : GrantStep) (s : State) : StepOutcome :=
  runBucket s g.upTo (fun _ j =>
    match j.work with
    | .clear => if j.id = 0 then some (startupSlot j.cursor g.failing) else none
    | _ => none)

end Sys2Proof.Machine
end

