-- ==== Sys2Proof/Machine/Frames.lean ====
section
/-! DEFINITION. The bytes of the frames the part sends: responses (R203) and notices (R158, R204). -/

namespace Sys2Proof.Machine

/-- A number as one byte. -/
def byteOf (n : Nat) : Byte := BitVec.ofNat 8 n

/-- A yes/no code (11.2). -/
def yesNo (b : Bool) : Nat := if b then 1 else 0

/-- A bit of a byte, as a number. -/
def bitAt (b : Bool) (n : Nat) : Nat := if b then 2 ^ n else 0

/-! ### Responses -/

/-- The result area of the central responses (R203). -/
def centralArea (slot state owner cls flags : Nat) (h : Handle) : ResultArea :=
  #v[byteOf (slot / 256), byteOf slot, byteOf state, byteOf owner, byteOf cls, byteOf flags,
     h.extractLsb' 24 8, h.extractLsb' 16 8, h.extractLsb' 8 8, h.extractLsb' 0 8, 0#8]

/-- A result area that carries no field (R203). -/
def emptyArea : ResultArea := Vector.replicate 11 0#8

/-- Byte 9 of a RESOLVE hit (R203). -/
def HitFlags.code (f : HitFlags) : Nat :=
  bitAt f.self 0 + bitAt f.ownerLost 1 + bitAt f.inTransfer 2 + bitAt f.orphaned 3

/-- A port set as its byte (11.1). -/
def PerPort.setCode (v : PortSet) : Nat := bitAt v.p0 0 + bitAt v.p1 1 + bitAt v.p2 2 + bitAt v.p3 3

/-- A field of a result area whose layout R203 does not give: how many bits its range of values needs (log 13), and its
value. -/
structure AreaField where
  bits : Nat
  value : Nat
  deriving DecidableEq, Repr

/-- The five counts of a job (R91). -/
def JobCounts.fields (c : JobCounts) : List AreaField :=
  [⟨15, c.examined⟩, ⟨15, c.removed⟩, ⟨15, c.expired⟩, ⟨15, c.held⟩, ⟨15, c.adopted⟩]

/-- Code of a filter field that may be "any" (11.2). -/
def anyCode {α : Type} (code : α → Nat) : Option α → Nat
  | none => 255
  | some x => code x

/-- Code of the owner field of a filter (11.2). -/
def OwnerFilter.code : OwnerFilter → Nat
  | .any => 255
  | .owned p => portCode p
  | .noOwner => 4

/-- The filter, or the target port and cause, of a job whose kind has them (R100). -/
def JobWork.fields : JobWork → List AreaField
  | .sweep => []
  | .clear => []
  | .purge f => [⟨8, anyCode (fun d => d.val) f.domain⟩, ⟨8, f.owner.code⟩, ⟨8, anyCode BindingClass.code f.cls⟩]
  | .orphan t c => [⟨2, portCode t⟩, ⟨3, c.code⟩]

/-- What JOB_STATUS carries (R100): id, kind, requester, state, progress, counts, and what the kind has. -/
def JobReport.fields : JobReport → List AreaField
  | .queued running progress j =>
    [⟨8, j.id⟩, ⟨3, j.work.kind.code⟩, ⟨3, portOrNoneCode j.requester⟩, ⟨3, if running then 2 else 1⟩, ⟨12, progress⟩]
      ++ j.counts.fields ++ j.work.fields
  | .finished r =>
    [⟨8, r.id⟩, ⟨3, r.work.kind.code⟩, ⟨3, portOrNoneCode r.requester⟩, ⟨3, r.outcome.stateCode⟩, ⟨12, r.progress⟩]
      ++ r.counts.fields ++ r.work.fields
  | .unknown => [⟨3, 6⟩]

/-- The code of a binding's transfer index, absent but in TRANSFER (R4, R203; log 27). -/
def Tenure.indexCode (t : Tenure) : Nat :=
  match t.index with
  | some x => x.val
  | none => Config.absentTransferIndex.toNat

/-- The state of a slot, with its binding record if it has one (R4, R48). The OK of a SCAN_NEXT carries these too, the slot
state among them, which R51 does not name (DESIGN CHOICE, log 28). -/
def Slot.fields : Slot → List AreaField
  | .occupied b =>
    [⟨2, (Slot.occupied b).code⟩, ⟨6, b.domain.val⟩, ⟨48, b.key.toNat⟩, ⟨2, b.tenure.state.code⟩,
      ⟨3, portOrNoneCode b.tenure.owner⟩, ⟨32, b.handle.toNat⟩, ⟨2, b.cls.code⟩, ⟨1, yesNo b.touched⟩, ⟨4, b.idle⟩,
      ⟨8, b.tenure.indexCode⟩]
  | .free => [⟨2, Slot.free.code⟩]
  | .defective => [⟨2, Slot.defective.code⟩]
  | .undefined => [⟨2, Slot.undefined.code⟩]

/-- The fields of a domain record (R53, R55). -/
def Domain.fields (d : Domain) : List AreaField :=
  [⟨1, yesNo d.policy.enabled⟩, ⟨2, d.policy.claimPolicy.code⟩, ⟨4, d.policy.memberSet.setCode⟩,
    ⟨4, d.policy.preemptSet.setCode⟩, ⟨4, d.policy.pinSet.setCode⟩, ⟨1, yesNo d.policy.autoClaim⟩,
    ⟨4, d.policy.leaseLimit⟩, ⟨15, d.policy.cap⟩, ⟨2, d.policy.orphanAction.code⟩, ⟨2, portCode d.policy.standby⟩,
    ⟨15, d.count⟩, ⟨15, d.orphans⟩]

/-- The code of a link state in a SESSION reading, a free value (log 27). -/
def Link.code : Link → Nat
  | .down => (Config.linkCode false).toNat
  | .up => (Config.linkCode true).toNat

/-- The id and cause of an ORPHAN job that a SESSION reading may carry (R197). -/
def orphanFields : Option (Nat × LeaveCause) → List AreaField
  | some (id, c) => [⟨8, id⟩, ⟨3, c.code⟩]
  | none => []

/-- The fields of a response that R203 does not lay out, in the order of the rule that names them (log 13). A SESSION
reading carries the port that it reads first, which R197 does not name (DESIGN CHOICE, log 26). -/
def Result.fields : Result → List AreaField
  | .session p credit => [⟨2, portCode p⟩, ⟨8, credit⟩]
  | .orphanJob id => [⟨8, id⟩]
  | .evicted q id => [⟨2, portCode q⟩, ⟨8, id⟩]
  | .slot i => [⟨14, i⟩]
  | .handed i q => [⟨14, i⟩, ⟨2, portCode q⟩]
  | .slotRecord i x => ⟨14, i⟩ :: x.fields
  | .nextStart i => [⟨14, i⟩]
  | .ownSlot i h => [⟨14, i⟩, ⟨32, h.toNat⟩]
  | .job id => [⟨8, id⟩]
  | .stopped id progress c => [⟨8, id⟩, ⟨3, JobOutcome.aborted.stateCode⟩, ⟨12, progress⟩] ++ c.fields
  | .cancelled id => [⟨8, id⟩, ⟨3, JobOutcome.cancelled.stateCode⟩]
  | .report r => r.fields
  | .domain d => d.fields
  | .counts c o => [⟨15, c⟩, ⟨15, o⟩]
  | .setting id v => [⟨4, id⟩, ⟨18, v⟩]
  | .lease h r => [⟨3, portOrNoneCode h⟩, ⟨16, r⟩]
  | .leaseReading h r => [⟨4, 12⟩, ⟨3, portOrNoneCode h⟩, ⟨16, r⟩]
  | .remaining r => [⟨16, r⟩]
  | .counter c v => [⟨3, c.codes.1⟩, ⟨4, c.codes.2⟩, ⟨32, v.toNat⟩]
  | .sessionReading p st l j => [⟨2, portCode p⟩, ⟨2, st.code⟩, ⟨8, l.code⟩] ++ orphanFields j
  | .none | .hit _ _ _ _ _ | .claimed _ _ _ _ | .ownedBy _ | .offered _ _ _ | .replied _ _ _ _ => []

/-! ### Where the fields of the other responses stand -/

/-- Bytes of a field in a layout of whole bytes: the fewest that hold it. -/
def AreaField.bytes (f : AreaField) : Nat := (f.bits + 7) / 8

/-- Bits that a field takes in a layout of whole bytes. -/
def AreaField.wholeWidth (f : AreaField) : Nat := 8 * f.bytes

/-- Bits that a field takes where fields share bytes: one of several bytes keeps them to itself. -/
def AreaField.sharedWidth (f : AreaField) : Nat := if f.bits ≤ 8 then f.bits else f.wholeWidth

/-- A field of this width that starts at this bit, counted in the order of sending, stays in one byte or begins one. -/
def startsWell (start width : Nat) : Bool := decide (start % 8 = 0) || decide (start % 8 + width ≤ 8)

/-- Fields of these widths that start at these bits start well and stand in the result area, and no two of them share a
bit. -/
def placesFitArea (place : Nat → Nat) (widths : List Nat) : Bool :=
  (List.range widths.length).all (fun i =>
    startsWell (place i) (widths.getD i 0) && place i + widths.getD i 0 ≤ Config.areaBits
      && (List.range i).all (fun j =>
        place j + widths.getD j 0 ≤ place i || place i + widths.getD i 0 ≤ place j))

/-- The first bit from `start` on at which a field of this width starts well. -/
def wellFrom (start width : Nat) : Nat := if startsWell start width then start else 8 * (start / 8 + 1)

/-- Where fields that follow one another start, the first from bit `start` on; the end of the last comes after them. -/
def packedPlaces (start : Nat) : List Nat → List Nat
  | [] => [start]
  | w :: rest => wellFrom start w :: packedPlaces (wellFrom start w + w) rest

/-- The place of a field of a packed layout. -/
def packedPlace (widths : List Nat) (i : Nat) : Nat := (packedPlaces 0 widths).getD i 0

/-- Fields of these widths have room in a result area. -/
def widthsFit (widths : List Nat) : Bool := packedPlace widths widths.length ≤ Config.areaBits

/-- Where a field of a response stands: at its free place, where those places fit the result area (log 13). -/
def fieldStart (kind status : Nat) (widths : List Nat) (i : Nat) : Nat :=
  if placesFitArea (Config.fieldPlace kind status widths) widths then Config.fieldPlace kind status widths i
  else packedPlace widths i

/-- The bits of a result area in which the fields stand at their places, in the order of sending, the most significant bit
of each field first; every other bit is 0 (R201, R203). -/
def areaWord (place : Nat → Nat) (width : AreaField → Nat) : List AreaField → Nat → BitVec Config.areaBits
  | [], _ => 0
  | f :: rest, i =>
    BitVec.ofNat Config.areaBits (f.value % 2 ^ width f * 2 ^ (Config.areaBits - place i - width f))
      ||| areaWord place width rest (i + 1)

/-- The bytes of a result area: byte 4 of the frame is sent first. -/
def areaOfWord (w : BitVec Config.areaBits) : ResultArea :=
  Vector.ofFn (fun k : Fin 11 => w.extractLsb' (8 * (10 - k.val)) 8)

/-- The result area that carries fields at their places (R201, R203; log 13). -/
def fieldArea (kind status : Nat) (width : AreaField → Nat) (fields : List AreaField) : ResultArea :=
  areaOfWord (areaWord (fieldStart kind status (fields.map width)) width fields 0)

/-- The result area of a response that R203 does not lay out (log 13): fields of whole bytes if they have room so, or else
fields that share bytes, or else, where the fields have no room at all, a free value. -/
def carriedArea (kind status : Nat) (fields : List AreaField) : ResultArea :=
  if widthsFit (fields.map AreaField.wholeWidth) then fieldArea kind status AreaField.wholeWidth fields
  else if widthsFit (fields.map AreaField.sharedWidth) then fieldArea kind status AreaField.sharedWidth fields
  else Config.resultArea kind status (fields.map AreaField.value)

/-- The result area of a response (R203): status only is all 0, the central responses as the table lays them out; the
fields of the others stand most significant byte first, each at a free place, among zeros (log 13). -/
def Response.area (r : Response) : ResultArea :=
  match r.result with
  | .none => emptyArea
  | .hit i t c h f => centralArea i t.state.code (portOrNoneCode t.owner) c.code f.code h
  | .claimed i o c h => centralArea i BindingState.bound.code (portCode o) c.code 0 h
  | .ownedBy o => centralArea 0 0 (portCode o) 0 0 0
  | .offered i x g => centralArea i x.val (portCode g) 0 0 0
  | .replied i x o out => centralArea i x.val (portCode o) out.code 0 0
  | res => carriedArea r.kind.toNat r.status.code res.fields

/-- Byte 3 of a response frame (11.1). -/
def responseByte3 (credits : Nat) (overrun : Bool) : Byte := byteOf (credits % 32 + bitAt overrun 7)

/-- Fifteen bytes followed by their check sequence (R205). -/
def withCheck (v : Vector Byte 15) : Frame := v.push (crc8 v.toList)

/-- The bytes of a response frame (R203). -/
def responseFrame (r : Response) (credits : Nat) (overrun : Bool) : Frame :=
  withCheck ((#v[r.kind &&& 0x7F#8, r.tag, byteOf r.status.code, responseByte3 credits overrun] ++ r.area).cast rfl)

/-! ### Notices -/

/-- The fields of a notice (R158), by number. -/
structure NoticeFields where
  kind : Nat
  reason : Nat
  domain : Nat
  key : Key
  port : Nat
  handle : Handle
  value : Nat
  deriving DecidableEq, Repr

/-- A value field of two bytes (11.1 note 2). -/
def twoBytes (a b : Nat) : Nat := 256 * a + b

/-- The fields of a notice by its kind (R158; codes of 11.2). -/
def Notice.fields : Notice → NoticeFields
  | .transferOffer d k taker h x tag => ⟨1, 0, d.val, k, portCode taker, h, twoBytes x.val tag.toNat⟩
  | .transferDone o d k other h x tag => ⟨2, o.code, d.val, k, portCode other, h, twoBytes x.val tag.toNat⟩
  | .preempted d k q h i => ⟨3, 0, d.val, k, portCode q, h, i⟩
  | .adopted d k q h i => ⟨4, 0, d.val, k, portCode q, h, i⟩
  | .expired d k q h i => ⟨5, 0, d.val, k, portCode q, h, i⟩
  | .jobDone o r id kind examined count =>
    ⟨6, o.noticeCode, 0, BitVec.ofNat 48 count, portCode r, BitVec.ofNat 32 examined, twoBytes id kind.code⟩
  | .leaseLost h => ⟨7, 0, 0, 0, portCode h, 0, 0⟩
  | .noticesLost p n => ⟨8, 0, 0, 0, portCode p, 0, n⟩
  | .bindingGone r d k o h i => ⟨9, r.code, d.val, k, portOrNoneCode o, h, i⟩
  | .portState p st c => ⟨10, 0, 0, 0, portCode p, 0, twoBytes st.code c.code⟩
  | .slotFault i => ⟨11, 0, 0, 0, portOrNoneCode none, 0, i⟩
  | .sweepDone id examined count =>
    ⟨12, 0, 0, BitVec.ofNat 48 count, portOrNoneCode none, BitVec.ofNat 32 examined, id⟩
  | .counterHalf c =>
    ⟨13, 0, 0, 0, portOrNoneCode (match c with | .port p _ => some p | .device _ => none), 0x80000000#32,
      twoBytes c.codes.1 c.codes.2⟩

/-- The bytes of a notice frame (R204). -/
def noticeFrame (n : Notice) (credits : Nat) : Frame :=
  let f := n.fields
  withCheck
    #v[byteOf (128 + 8 * f.kind + f.reason), byteOf (credits % 32 + 32 * f.port), byteOf f.domain,
       f.key.extractLsb' 40 8, f.key.extractLsb' 32 8, f.key.extractLsb' 24 8, f.key.extractLsb' 16 8,
       f.key.extractLsb' 8 8, f.key.extractLsb' 0 8,
       f.handle.extractLsb' 24 8, f.handle.extractLsb' 16 8, f.handle.extractLsb' 8 8, f.handle.extractLsb' 0 8,
       byteOf (f.value / 256), byteOf f.value]

/-- The bytes of a frame in transmission, as it was filled when its transmission began (R203, R204). -/
def OutFrame.bytes : OutFrame → Frame
  | .response r credits overrun => responseFrame r credits overrun
  | .notice n credits => noticeFrame n credits

/-- The credits a frame carries (R122). -/
def OutFrame.credits : OutFrame → Nat
  | .response _ credits _ => credits
  | .notice _ credits => credits

end Sys2Proof.Machine
end

