-- ==== Sys2Proof/Machine/Links.lean ====
section
/-! DEFINITION. The link of a port: LINK_UP, LINK_LOST, FRAME_ARRIVAL, REQUEST_TAKE, RESPONSE_TRANSMIT, NOTICE_TRANSMIT,
FRAME_TRANSMIT_END (chapters 06 and 08). A command whose event cannot occur leaves the state as it was (log 3). -/

namespace Sys2Proof.Machine

/-! ### LINK_UP and LINK_LOST -/

/-- R118: the link of a port comes UP, and its master holds 16 request credits. -/
def State.linkComesUp (s : State) (p : Port) : State :=
  s.modifyPort p (fun c => { c with link := .up, creditReturn := 0, overrun := false, masterCredits := 16 })

/-- R127: what LINK_LOST leaves of a place of the response queue. -/
def Place.afterLinkLost : Place → List Place
  | .written _ => []
  | .reserved => [.discard]
  | .discard => [.discard]

/-- R127: LINK_LOST acts on the queues of a Port Controller. -/
def PortController.loseLink (c : PortController) : PortController :=
  { c with link := .down, requestQueue := [], responseQueue := c.responseQueue.flatMap Place.afterLinkLost,
           transmitter := none, creditReturn := 0, overrun := false }

/-- R127, R170: the queue effects of LINK_LOST. -/
def State.loseLink (s : State) (p : Port) : State :=
  (s.modifyPort p PortController.loseLink).modifyNotices p
    (fun n => { n with queue := [], lostCount := 0, windowCount := 0 })

/-- R139: LINK_LOST in ONLINE takes the port out of ONLINE with cause LINK; in DRAINING and OFFLINE it has the queue
effects only. -/
def State.linkIsLost (s : State) (p : Port) : State :=
  if s.online p then ((s.loseLink p).leaveOnline p .link).1 else s.loseLink p

/-! ### Arrival and take -/

/-- R120, R137: a request arrival restarts a keepalive timer that runs. -/
def PortController.restartKeepalive (c : PortController) : PortController :=
  if c.session = .online ∧ c.keepaliveTimer.isSome then { c with keepaliveTimer := some c.keepaliveTimeout } else c

/-- R120: a request arrival joins the request queue, or is an overrun. -/
def State.requestArrives (s : State) (p : Port) (rq : RequestFrame) : State :=
  let s1 := s.modifyPort p PortController.restartKeepalive
  if (s1.port p).requestQueue.length < Config.requestQueueSize then
    s1.modifyPort p (fun c => { c with requestQueue := c.requestQueue ++ [rq] })
  else (s1.modifyPort p (fun c => { c with overrun := true })).count (.port p .overruns)

/-- R118, R119: the master has spent a credit; the frame is checked. -/
def State.frameArrives (s : State) (p : Port) (f : Frame) : State :=
  let s1 := s.modifyPort p (fun c => { c with masterCredits := c.masterCredits - 1 })
  if frameChecks f then s1.requestArrives p (decodeRequest f) else s1.count (.port p .frameErrors)

/-- R123: the oldest request is taken, a place is reserved, and the take is counted (R191). -/
def State.takeRequest (s : State) (p : Port) (rq : RequestFrame) (rest : List RequestFrame) : State :=
  (s.modifyPort p (fun c =>
    { c with requestQueue := rest, responseQueue := c.responseQueue ++ [.reserved],
             creditReturn := c.creditReturn + 1, executor := .busy rq })).count (.port p .requests)

/-! ### The transmitter -/

/-- R126: the oldest place of the response queue is WRITTEN, with this response. -/
def PortController.readyResponse (c : PortController) : Option Response :=
  match c.responseQueue with
  | .written r :: _ => some r
  | _ => none

/-- The link is UP and no frame is in transmission (R126). -/
def PortController.canTransmit (c : PortController) : Bool := decide (c.link = .up) && c.transmitter.isNone

/-- R121, R122: the transmission of a response begins with the count and the flag, which are then reset. -/
def PortController.beginResponse (c : PortController) (r : Response) : PortController :=
  { c with transmitter := some (.response r c.creditReturn c.overrun), creditReturn := 0, overrun := false }

/-- R122, R167: the transmission of a notice begins with the count, which is then reset. -/
def PortController.beginNotice (c : PortController) (n : Notice) : PortController :=
  { c with transmitter := some (.notice n c.creditReturn), creditReturn := 0 }

/-- R166, R167: the pacing window allows a notice to begin. -/
def NoticePort.windowAllows (n : NoticePort) : Bool := n.windowLimit == 0 || n.windowCount < n.windowLimit

/-- R164, R166: the head notice leaves; NOTICES_LOST takes the freed place if copies were lost; the window count
rises. -/
def NoticePort.headLeaves (n : NoticePort) (p : Port) : NoticePort :=
  { n with
    queue := n.queue.tail ++ (if 0 < n.lostCount then [.noticesLost p n.lostCount] else [])
    lostCount := 0
    windowCount := min Config.windowCountMax (n.windowCount + 1) }

/-- R167: a notice begins transmission. -/
def State.sendNotice (s : State) (p : Port) (n : Notice) : State :=
  ((s.modifyNotices p (fun x => x.headLeaves p)).modifyPort p (fun c => c.beginNotice n)).count (.port p .noticesSent)

/-- R125: the end of a response frame frees its place, the oldest. -/
def OutFrame.placesAfter (f : OutFrame) (places : List Place) : List Place :=
  match f with
  | .response _ _ _ => places.tail
  | .notice _ _ => places

/-- R122, R125: a frame has been sent: the transmitter is idle and the master adds the credits it received. -/
def State.frameSent (s : State) (p : Port) (f : OutFrame) : State :=
  s.modifyPort p (fun c =>
    { c with transmitter := none, responseQueue := f.placesAfter c.responseQueue,
             masterCredits := c.masterCredits + f.credits })

/-! ### The rows -/

/-- LINK_UP (R118), reported only in DOWN, and not while RESET_N is low (R206). -/
def execLinkUp (p : Port) (s : State) : StepOutcome :=
  if (s.port p).link = .down ∧ s.resetHeld = false then .next (s.linkComesUp p) else .next s

/-- LINK_LOST (R127, R139), reported only in UP. -/
def execLinkLost (p : Port) (s : State) : StepOutcome :=
  if (s.port p).link = .up then .next (s.linkIsLost p).arbitrate else .next s

/-- FRAME_ARRIVAL (R119, R120), while the link is UP. -/
def execFrameArrival (p : Port) (frame : Frame) (s : State) : StepOutcome :=
  if (s.port p).link = .up then .next (s.frameArrives p frame) else .next s

/-- REQUEST_TAKE (R123): executor IDLE, a request queued, a response place free. -/
def execRequestTake (p : Port) (s : State) : StepOutcome :=
  match (s.port p).executor, (s.port p).requestQueue with
  | .idle, rq :: rest =>
    if (s.port p).responseQueue.length < Config.responseQueueSize then .next (s.takeRequest p rq rest).arbitrate
    else .next s
  | _, _ => .next s

/-- RESPONSE_TRANSMIT (R126): transmitter idle, link UP, oldest place WRITTEN. -/
def execResponseTransmit (p : Port) (s : State) : StepOutcome :=
  match (s.port p).canTransmit, (s.port p).readyResponse with
  | true, some r => .next (s.modifyPort p (fun c => c.beginResponse r))
  | _, _ => .next s

/-- NOTICE_TRANSMIT (R167): transmitter idle, link UP, no WRITTEN place at the head, a notice queued, pacing allows. -/
def execNoticeTransmit (p : Port) (s : State) : StepOutcome :=
  match (s.port p).canTransmit, (s.port p).readyResponse, (s.noticePort p).windowAllows, (s.noticePort p).queue with
  | true, none, true, n :: _ => .next (s.sendNotice p n)
  | _, _, _, _ => .next s

/-- FRAME_TRANSMIT_END (R125). -/
def execFrameTransmitEnd (p : Port) (s : State) : StepOutcome :=
  match (s.port p).transmitter with
  | some f => .next (s.frameSent p f)
  | none => .next s

end Sys2Proof.Machine
end

