-- ==== Sys2Proof/Machine/Maintenance.lean ====
section
/-! DEFINITION. The maintenance requests: SWEEP, PURGE, CLEAR, ABORT_JOB, JOB_STATUS (chapter 05). -/

namespace Sys2Proof.Machine

/-- R94: a job other than an ORPHAN job is enqueued for a requester, or refused BUSY. -/
def enqueueReply (p : Port) (w : JobWork) (s : State) : Reply :=
  if s.maintenance.hasRoom then
    let r := s.enqueueJob w (some p)
    ⟨r.1, .ok, .job r.2⟩
  else refuse s .busy

/-- R94, R104: SWEEP after the common checks. -/
def sweepReply (p : Port) (s : State) : Reply :=
  match s.maintenance.waitingSweep with
  | some j => ⟨s, .merged, .job j.id⟩
  | none => enqueueReply p .sweep s

/-- R107: PURGE after the common checks. -/
def purgeReply (p : Port) (domain owner cls : Nat) (s : State) : Reply :=
  match purgeFilterOf domain owner cls with
  | some f => enqueueReply p (.purge f) s
  | none => refuse s .invalid

/-- R113, R114: ABORT_JOB after the common checks, when no bucket grant of the job it names is in progress. -/
def abortReply (id : Nat) (s : State) : Reply :=
  match s.maintenance.queue with
  | [] => refuse s .invalid
  | j :: rest =>
    if j.id = id then
      if j.abortable then ⟨s.finishHead .aborted, .ok, .stopped id j.cursor j.counts⟩ else refuse s .invalid
    else
      match rest.find? (fun w => decide (w.id = id)) with
      | some w =>
        if w.abortable then
          ⟨(s.withQueue (j :: rest.erase w)).closeJob .cancelled w, .ok, .cancelled id⟩
        else refuse s .invalid
      | none => refuse s .invalid

/-- R114: an ABORT_JOB that names the RUNNING job while a bucket grant of it is in progress waits for the grant's end. -/
def State.abortWaits (s : State) (p : Port) (rq : RequestFrame) (id : Nat) : Bool :=
  (commonCheck s.view p rq.body).isNone && (s.grantOf .maintenance).isSome &&
    match s.maintenance.queue with
    | j :: _ => decide (j.id = id) && j.abortable
    | [] => false

/-- The port's ABORT_JOB waits (R114). -/
def State.addAbort (s : State) (p : Port) : State :=
  s.withMaintenance { s.maintenance with abortWaiting := s.maintenance.abortWaiting ++ [p] }

/-- The first job of a list with an id. -/
def findJob (jobs : List Job) (id : Nat) : Option Job := jobs.find? (fun j => decide (j.id = id))

/-- R100: the newest record of the history that carries an id. -/
def Maintenance.reportHistory (m : Maintenance) (id : Nat) : JobReport :=
  match m.history.reverse.find? (fun r => decide (r.id = id)) with
  | some r => .finished r
  | none => .unknown

/-- R100: what JOB_STATUS reports: the queue first, then the history from newest to oldest. -/
def Maintenance.report (m : Maintenance) (id : Nat) : JobReport :=
  match m.queue with
  | [] => m.reportHistory id
  | j :: rest =>
    if j.id = id then .queued true j.cursor j
    else
      match findJob rest id with
      | some w => .queued false 0 w
      | none => m.reportHistory id

/-! ### The rows -/

/-- SWEEP (R104). -/
def execSweep (p : Port) (s : State) : StepOutcome :=
  runDirect p s (fun rq =>
    match rq.body with
    | .sweep => some (sweepReply p)
    | _ => none)

/-- PURGE (R107). -/
def execPurge (p : Port) (s : State) : StepOutcome :=
  runDirect p s (fun rq =>
    match rq.body with
    | .purge d o c => some (purgeReply p d o c)
    | _ => none)

/-- CLEAR (R110). -/
def execClear (p : Port) (s : State) : StepOutcome :=
  runDirect p s (fun rq =>
    match rq.body with
    | .clear => some (enqueueReply p .clear)
    | _ => none)

/-- ABORT_JOB (R113). While it waits for a bucket grant to end (R114), its executor stays BUSY and the row does nothing
more; the bucket's own row writes the response. -/
def execAbortJob (p : Port) (s : State) : StepOutcome :=
  if s.maintenance.abortWaiting.contains p then .next s
  else
    match (s.port p).executor with
    | .busy rq =>
      match rq.body with
      | .abortJob id =>
        if s.abortWaits p rq id then .next (s.addAbort p)
        else .next (s.answer s.view p rq (abortReply id)).arbitrate
      | _ => .next s
    | .idle => .next s

/-- JOB_STATUS (R100). -/
def execJobStatus (p : Port) (s : State) : StepOutcome :=
  runDirect p s (fun rq =>
    match rq.body with
    | .jobStatus id => some (fun t => ⟨t, .ok, .report (t.maintenance.report id)⟩)
    | _ => none)

end Sys2Proof.Machine
end

