-- ==== Sys2Proof/Machine/Sessions.lean ====
section
/-! DEFINITION. The session requests: ATTACH, DETACH, KEEPALIVE, EVICT, and a frame whose kind names no request
(chapter 06). -/

namespace Sys2Proof.Machine

/-- R137: the keepalive timer started with a timeout; 0 leaves it stopped. -/
def keepaliveStart (timeout : Nat) : Option Nat := if timeout = 0 then none else some timeout

/-- R131, R40, R166: a port that was OFFLINE comes ONLINE. -/
def State.comeOnline (s : State) (p : Port) (timeout pacing : Nat) (subs : Subscriptions) : State :=
  let s1 := s.modifyPort p (fun c =>
    { c with session := .online, keepaliveTimeout := timeout, pacingLimit := pacing, subscriptions := subs,
             claimCredit := s.settings.creditCapacity, refillTimer := some s.settings.refillInterval,
             keepaliveTimer := keepaliveStart timeout })
  let s2 := s1.modifyNotices p (fun n => { n with windowCount := 0, windowLimit := pacing })
  s2.notify (.subscribersBut .portState p) (.portState p .online .attach)

/-- R132: an ONLINE port's session parameters are replaced. -/
def State.replaceParameters (s : State) (p : Port) (timeout pacing : Nat) (subs : Subscriptions) : State :=
  s.modifyPort p (fun c =>
    { c with keepaliveTimeout := timeout, pacingLimit := pacing, subscriptions := subs,
             keepaliveTimer := keepaliveStart timeout })

/-- R131 for a port whose link has gone DOWN since its ATTACH was taken: an ONLINE port always has its link UP (R118),
so the port leaves ONLINE again with cause LINK, as when the LINK_LOST comes just after the ATTACH (R139, R140;
log 25). -/
def State.comeOnlineLinked (s : State) (p : Port) (timeout pacing : Nat) (subs : Subscriptions) : State :=
  if (s.port p).link = .up then s.comeOnline p timeout pacing subs
  else ((s.comeOnline p timeout pacing subs).leaveOnline p .link).1

/-- R131, R132: ATTACH after the common checks; a DRAINING port has been answered RETRY there (R128). -/
def attachReply (p : Port) (timeout pacing : Nat) (subs : Subscriptions) (s : State) : Reply :=
  match (s.port p).session with
  | .offline => ⟨s.comeOnlineLinked p timeout pacing subs, .ok, .session p s.settings.creditCapacity⟩
  | .online => ⟨s.replaceParameters p timeout pacing subs, .already, .session p (s.port p).claimCredit⟩
  | .draining => refuse s .retry

/-- R135: DETACH after the common checks. -/
def detachReply (p : Port) (s : State) : Reply :=
  let r := s.leaveOnline p .detach
  ⟨r.1, .ok, .orphanJob r.2⟩

/-- R138: EVICT after the common checks. -/
def evictReply (p : Port) (target : Nat) (s : State) : Reply :=
  match portOfCode target with
  | some q =>
    if s.online q && decide (q ≠ p) then
      let r := s.leaveOnline q .evicted
      ⟨r.1, .ok, .evicted q r.2⟩
    else refuse s .invalid
  | none => refuse s .invalid

/-! ### The rows -/

/-- ATTACH (R131). -/
def execAttach (p : Port) (s : State) : StepOutcome :=
  runDirect p s (fun rq =>
    match rq.body with
    | .attach timeout pacing subs => some (attachReply p timeout pacing (subscriptionsOf subs))
    | _ => none)

/-- DETACH (R135). -/
def execDetach (p : Port) (s : State) : StepOutcome :=
  runDirect p s (fun rq =>
    match rq.body with
    | .detach => some (detachReply p)
    | _ => none)

/-- KEEPALIVE (R136). -/
def execKeepalive (p : Port) (s : State) : StepOutcome :=
  runDirect p s (fun rq =>
    match rq.body with
    | .keepalive => some (fun t => ⟨t, .ok, .none⟩)
    | _ => none)

/-- EVICT (R138). -/
def execEvict (p : Port) (s : State) : StepOutcome :=
  runDirect p s (fun rq =>
    match rq.body with
    | .evict target => some (evictReply p target)
    | _ => none)

/-- UNKNOWN_REQUEST_KIND (R202): answered by the common check order, INVALID at step 4 at the latest. -/
def execUnknownRequestKind (p : Port) (s : State) : StepOutcome :=
  runDirect p s (fun rq =>
    match rq.body with
    | .unknown => some (fun t => refuse t .invalid)
    | _ => none)

end Sys2Proof.Machine
end

