-- ==== Sys2Proof/Machine/Statistics.lean ====
section
/-! DEFINITION. The statistics requests: STAT_READ of a counter, STAT_READ of a SESSION reading, STAT_TAKE
(chapter 10). -/

namespace Sys2Proof.Machine

/-- R196: STAT_READ of a counter after the common checks. -/
def statReadReply (scope name : Nat) (s : State) : Reply :=
  match counterOf scope name with
  | some c => ⟨s, .ok, .counter c (s.counter c)⟩
  | none => refuse s .invalid

/-- R197: the id and the cause of a port's ORPHAN job, found in the job queue. -/
def orphanJobOf (q : Port) : List Job → Option (Nat × LeaveCause)
  | [] => none
  | j :: rest =>
    match j.work with
    | .orphan t c => if t = q then some (j.id, c) else orphanJobOf q rest
    | .sweep | .purge _ | .clear => orphanJobOf q rest

/-- R197: STAT_READ of the SESSION reading of port `q`. -/
def sessionReply (q : Port) (s : State) : Reply :=
  let c := s.port q
  ⟨s, .ok, .sessionReading q c.session c.link
    (if c.session = .draining then orphanJobOf q s.maintenance.queue else none)⟩

/-- R198: STAT_TAKE after the common checks: the value read is subtracted. -/
def statTakeReply (scope name : Nat) (s : State) : Reply :=
  match counterOf scope name with
  | some c => ⟨s.setCounter c (s.counter c - s.counter c), .ok, .counter c (s.counter c)⟩
  | none => refuse s .invalid

/-! ### The rows -/

/-- STAT_READ of anything but a SESSION reading (R196; log 15). -/
def execStatRead (p : Port) (s : State) : StepOutcome :=
  runDirect p s (fun rq =>
    match rq.body with
    | .statRead scope name =>
      match sessionReadingOf scope name with
      | some _ => none
      | none => some (statReadReply scope name)
    | _ => none)

/-- STAT_READ of a SESSION reading (R197). -/
def execStatReadSession (p : Port) (s : State) : StepOutcome :=
  runDirect p s (fun rq =>
    match rq.body with
    | .statRead scope name => (sessionReadingOf scope name).map (fun q => sessionReply q)
    | _ => none)

/-- STAT_TAKE (R198). -/
def execStatTake (p : Port) (s : State) : StepOutcome :=
  runDirect p s (fun rq =>
    match rq.body with
    | .statTake scope name => some (statTakeReply scope name)
    | _ => none)

end Sys2Proof.Machine
end

