-- ==== Sys2Proof/Machine/Time.lean ====
section
/-! DEFINITION. Reset and time: RESET_N, RESET_N_RELEASE, MILLITICK, the start of the pacing windows, the five timer
expiries, and what a step does on an empty queue (chapter 09; log 2, log 10). -/

namespace Sys2Proof.Machine

/-! ### The expiries -/

/-- A timer has run out and its expiry is still to come (log 10). -/
def timerDue (t : Option Nat) : Bool := decide (t = some 0)

/-- R137: the keepalive timer of a port expires. -/
def State.expireKeepalive (s : State) (p : Port) : State :=
  if timerDue (s.port p).keepaliveTimer then (s.leaveOnline p .keepalive).1 else s

/-- R41: a refill. -/
def PortController.refill (c : PortController) (x : Settings) : PortController :=
  { c with claimCredit := min x.creditCapacity (c.claimCredit + x.refillAmount), refillTimer := some x.refillInterval }

/-- R41: the refill timer of a port expires. -/
def State.expireRefill (s : State) (p : Port) : State :=
  if timerDue (s.port p).refillTimer then s.modifyPort p (fun c => c.refill s.settings) else s

/-- The transfer's timer has run out and it is still PENDING (R71). -/
def Transfer.due (t : Transfer) : Bool := decide (t.phase = .pending) && t.remaining == 0

/-- The entry of an index has run out (R71). -/
def State.entryDue (s : State) (i : TransferIndex) : Bool :=
  match s.entry i with
  | some t => t.due
  | none => false

/-- The transfer indices in ascending order. -/
def allIndices : List TransferIndex := (List.range 32).map (Fin.ofNat 32)

/-- R72: the lowest index whose transfer timer has run out. -/
def State.dueIndex (s : State) : Option TransferIndex := allIndices.find? s.entryDue

/-- R71, R72: an entry becomes EXPIRED and joins the tail of the expiry list. -/
def State.expireEntry (s : State) (i : TransferIndex) : State :=
  let s1 := s.setEntry i ((s.entry i).map (fun t => { t with phase := .expired }))
  s1.withTransfers { s1.transfers with expiryList := s1.transfers.expiryList ++ [i] }

/-- R71, R72: the lowest transfer timer that has run out expires (log 11). -/
def State.expireNextTransfer (s : State) : State :=
  match s.dueIndex with
  | some i => s.expireEntry i
  | none => s

/-- The lease timer has run out (R177). -/
def Lease.due (l : Lease) : Bool := l.holder.isSome && l.remaining == 0

/-- R177: the lease timer expires. -/
def State.expireLease (s : State) : State :=
  match s.lease.holder with
  | some h => if s.lease.due then (s.withLease Lease.free).notify (.directed h) (.leaseLost h) else s
  | none => s

/-- R94, R105: the enqueue attempt of the sweep timer. -/
def State.sweepAttempt (s : State) : State :=
  if s.maintenance.waitingSweep.isSome || !s.maintenance.hasRoom then s else (s.enqueueJob .sweep none).1

/-- R105: the sweep timer expires, and starts again with the interval in force. -/
def State.expireSweep (s : State) : State :=
  if timerDue s.maintenance.sweepTimer then
    let s1 := s.sweepAttempt
    s1.withMaintenance { s1.maintenance with sweepTimer := sweepStart s1.settings.sweepInterval }
  else s

/-- R166: the pacing window of a port starts anew, at the millitick that owes it. -/
def State.startWindow (s : State) (p : Port) : State :=
  if (s.noticePort p).windowDue then
    s.modifyNotices p (fun n =>
      { n with windowCount := 0, windowLimit := (s.port p).pacingLimit, windowDue := false })
  else s

/-! ### The millitick -/

/-- A millitick owes something that has not come yet (log 10). -/
def State.anyDue (s : State) : Bool :=
  allPorts.any (fun p =>
    timerDue (s.port p).keepaliveTimer || timerDue (s.port p).refillTimer || (s.noticePort p).windowDue)
    || s.dueIndex.isSome || s.lease.due || timerDue s.maintenance.sweepTimer

/-- A fold over the ports in ascending order. -/
def State.eachPort (s : State) (f : State → Port → State) : State := allPorts.foldl f s

/-- Every transfer timer that has run out expires; there are 32 entries. -/
def State.expireTransfers (s : State) : State := (List.range 32).foldl (fun t _ => t.expireNextTransfer) s

/-- Everything that the last millitick still owes, in one fixed order (log 10). -/
def State.deliverDue (s : State) : State :=
  ((((s.eachPort State.expireKeepalive).eachPort State.expireRefill).expireTransfers.expireLease.expireSweep).eachPort
    State.startWindow)

/-- R187: a timer that runs counts one millitick. -/
def countDown (t : Option Nat) : Option Nat := t.map (· - 1)

/-- R71: a PENDING entry's remaining time falls by 1. -/
def Transfer.countDown (t : Transfer) : Transfer :=
  match t.phase with
  | .pending => { t with remaining := t.remaining - 1 }
  | .expired => t

/-- R177: the remaining time of a HELD lease falls by 1. -/
def Lease.countDown (l : Lease) : Lease := if l.holder.isSome then { l with remaining := l.remaining - 1 } else l

/-- R185, R187: the period count returns to 0, the divider in force is taken afresh, every timer counts down, and every
port's pacing window is owed its start. -/
def State.tick (s : State) : State :=
  let s1 := s.withTimebase ⟨0, s.settings.timebaseDivider⟩
  let s2 := s1.withPorts (s1.ports.map (fun c =>
    { c with keepaliveTimer := countDown c.keepaliveTimer, refillTimer := countDown c.refillTimer }))
  let s3 := s2.withTransfers { s2.transfers with entries := s2.transfers.entries.map (Option.map Transfer.countDown) }
  let s4 := s3.withLease s3.lease.countDown
  let s5 := s4.withMaintenance { s4.maintenance with sweepTimer := countDown s4.maintenance.sweepTimer }
  s5.withNotices (s5.notices.map (fun n => { n with windowDue := true }))

/-- A millitick occurs; what the one before still owed comes first, since a timer expires at its own millitick (R187,
log 10). -/
def State.milliTick (s : State) : State := s.deliverDue.tick.arbitrate

/-- A REFCLK period passes (R185). -/
def State.refclkPeriod (s : State) : State :=
  if s.timebase.dividerInForce ≤ s.timebase.periodCount + 1 then s.milliTick
  else s.withTimebase { s.timebase with periodCount := s.timebase.periodCount + 1 }

/-- The operation of the grant in progress has acted and has more to hand over, or its grant to end. -/
def State.midGrant (s : State) : Bool := s.grant.any Grant.begun

/-- What a step does while no command waits: it takes the grant in progress to its end, delivers what the last millitick
owes, or else lets one REFCLK period pass; nothing while RESET_N is low (R206; log 2). -/
def State.idle (s : State) : State :=
  if s.resetHeld then s
  else if s.midGrant then s.advance none
  else if s.anyDue then s.deliverDue.arbitrate
  else s.refclkPeriod

/-! ### The rows -/

/-- RESET_N (R206): every block takes its values after RESET_N (R23, R53, R70, R115, R142, R172, R173, R179, R185,
R200). -/
def execResetN (s : State) : StepOutcome := .next (State.reset.withPending s.pending)

/-- RESET_N_RELEASE (R206): the generator and the start-up clear may run. -/
def execResetNRelease (s : State) : StepOutcome :=
  if s.resetHeld then .next (s.withResetHeld false).arbitrate else .next s

/-- MILLITICK (R185); none while RESET_N is low (R206). -/
def execMillitick (s : State) : StepOutcome := if s.resetHeld then .next s else .next s.milliTick

/-- PACING_WINDOW_START (R166). -/
def execPacingWindowStart (p : Port) (s : State) : StepOutcome := .next (s.startWindow p)

/-- KEEPALIVE_TIMER_EXPIRY (R137). -/
def execKeepaliveTimerExpiry (p : Port) (s : State) : StepOutcome := .next (s.expireKeepalive p).arbitrate

/-- REFILL_TIMER_EXPIRY (R41). -/
def execRefillTimerExpiry (p : Port) (s : State) : StepOutcome := .next (s.expireRefill p)

/-- TRANSFER_TIMER_EXPIRY (R71). -/
def execTransferTimerExpiry (s : State) : StepOutcome := .next s.expireNextTransfer.arbitrate

/-- LEASE_TIMER_EXPIRY (R177). -/
def execLeaseTimerExpiry (s : State) : StepOutcome := .next s.expireLease

/-- SWEEP_TIMER_EXPIRY (R105). -/
def execSweepTimerExpiry (s : State) : StepOutcome := .next s.expireSweep.arbitrate

end Sys2Proof.Machine
end

