-- ==== Sys2Proof/Machine/Dispatch.lean ====
section
/-! DEFINITION. Every command and its meaning. -/

namespace Sys2Proof.Machine

/-- The effect of a command on everything but the queue of waiting commands. -/
def exec (i : Instr) (s : State) : Host.Outcome State Fault Refusal :=
  match i with
  | .resetN => Sys2Proof.Machine.execResetN s
  | .resetNRelease => Sys2Proof.Machine.execResetNRelease s
  | .millitick => Sys2Proof.Machine.execMillitick s
  | .pacingWindowStart p => Sys2Proof.Machine.execPacingWindowStart p s
  | .linkUp p => Sys2Proof.Machine.execLinkUp p s
  | .linkLost p => Sys2Proof.Machine.execLinkLost p s
  | .frameArrival p frame => Sys2Proof.Machine.execFrameArrival p frame s
  | .requestTake p => Sys2Proof.Machine.execRequestTake p s
  | .responseTransmit p => Sys2Proof.Machine.execResponseTransmit p s
  | .noticeTransmit p => Sys2Proof.Machine.execNoticeTransmit p s
  | .frameTransmitEnd p => Sys2Proof.Machine.execFrameTransmitEnd p s
  | .attach p => Sys2Proof.Machine.execAttach p s
  | .detach p => Sys2Proof.Machine.execDetach p s
  | .keepalive p => Sys2Proof.Machine.execKeepalive p s
  | .evict p => Sys2Proof.Machine.execEvict p s
  | .resolve p g => Sys2Proof.Machine.execResolve p g s
  | .claim p g => Sys2Proof.Machine.execClaim p g s
  | .release p g => Sys2Proof.Machine.execRelease p g s
  | .touch p g => Sys2Proof.Machine.execTouch p g s
  | .readSlot p g => Sys2Proof.Machine.execReadSlot p g s
  | .scanNext p g => Sys2Proof.Machine.execScanNext p g s
  | .handoverAsk p g => Sys2Proof.Machine.execHandoverAsk p g s
  | .handoverReplyGrant p g => Sys2Proof.Machine.execHandoverReplyGrant p g s
  | .handoverReplyRefuse p g => Sys2Proof.Machine.execHandoverReplyRefuse p g s
  | .sweep p => Sys2Proof.Machine.execSweep p s
  | .purge p => Sys2Proof.Machine.execPurge p s
  | .clear p => Sys2Proof.Machine.execClear p s
  | .abortJob p => Sys2Proof.Machine.execAbortJob p s
  | .jobStatus p => Sys2Proof.Machine.execJobStatus p s
  | .domainGet p => Sys2Proof.Machine.execDomainGet p s
  | .domainSet p => Sys2Proof.Machine.execDomainSet p s
  | .settingGet p => Sys2Proof.Machine.execSettingGet p s
  | .settingSetHashSeed p => Sys2Proof.Machine.execSettingSetHashSeed p s
  | .settingSetTimebaseDivider p => Sys2Proof.Machine.execSettingSetTimebaseDivider p s
  | .settingSetSweepInterval p => Sys2Proof.Machine.execSettingSetSweepInterval p s
  | .settingSetTransferTimeout p => Sys2Proof.Machine.execSettingSetTransferTimeout p s
  | .settingSetCreditCapacity p => Sys2Proof.Machine.execSettingSetCreditCapacity p s
  | .settingSetRefillAmount p => Sys2Proof.Machine.execSettingSetRefillAmount p s
  | .settingSetRefillInterval p => Sys2Proof.Machine.execSettingSetRefillInterval p s
  | .settingSetQuota p => Sys2Proof.Machine.execSettingSetQuota p s
  | .leaseTake p => Sys2Proof.Machine.execLeaseTake p s
  | .leaseRenew p => Sys2Proof.Machine.execLeaseRenew p s
  | .leaseDrop p => Sys2Proof.Machine.execLeaseDrop p s
  | .statRead p => Sys2Proof.Machine.execStatRead p s
  | .statReadSession p => Sys2Proof.Machine.execStatReadSession p s
  | .statTake p => Sys2Proof.Machine.execStatTake p s
  | .unknownRequestKind p => Sys2Proof.Machine.execUnknownRequestKind p s
  | .keepaliveTimerExpiry p => Sys2Proof.Machine.execKeepaliveTimerExpiry p s
  | .refillTimerExpiry p => Sys2Proof.Machine.execRefillTimerExpiry p s
  | .transferTimerExpiry => Sys2Proof.Machine.execTransferTimerExpiry s
  | .expiryResolution g => Sys2Proof.Machine.execExpiryResolution g s
  | .leaseTimerExpiry => Sys2Proof.Machine.execLeaseTimerExpiry s
  | .sweepTimerExpiry => Sys2Proof.Machine.execSweepTimerExpiry s
  | .sweepBucket g => Sys2Proof.Machine.execSweepBucket g s
  | .purgeBucket g => Sys2Proof.Machine.execPurgeBucket g s
  | .bucketRewrite g => Sys2Proof.Machine.execBucketRewrite g s
  | .orphanBucket g => Sys2Proof.Machine.execOrphanBucket g s
  | .startupClearBucket g => Sys2Proof.Machine.execStartupClearBucket g s

end Sys2Proof.Machine
end

