-- ==== Sys2Proof/Safety.lean ====
section
/-! DEFINITION. The laws of the part that the spec states of every moment, as predicates of State: what a safe run
keeps. Each names the rule that states it. -/

namespace Sys2Proof.Machine

/-! ### The directory -/

/-- The binding of a slot, if it is OCCUPIED. -/
def Slot.binding? : Slot → Option Binding
  | .occupied b => some b
  | .undefined => none
  | .free => none
  | .defective => none

/-- The bindings of the directory, by rising slot index. -/
def Directory.bindings (d : Directory) : List Binding := d.cells.filterMap (fun c => c.2.binding?)

/-- The canonical form of the slots, and every job's cursor in 0..2047 (R91, R95). -/
structure State.StoreLaw (s : State) : Prop where
  form : s.directory.wf = true
  cursors : ∀ j ∈ s.maintenance.queue, j.cursor < Config.buckets

/-- R10, R11, R21: each count equals what it counts. -/
structure State.CountsLaw (s : State) : Prop where
  owned : ∀ p, s.owned p = s.directory.bindings.countP (fun b => decide (b.tenure.owner = some p))
  orphanTotal : s.directory.orphanTotal = s.directory.bindings.countP (fun b => decide (b.tenure = .orphaned))
  defective : s.directory.defectiveCount = s.directory.cells.countP (fun c => decide (c.2 = .defective))
  count : ∀ d, (s.domain d).count = s.directory.bindings.countP (fun b => decide (b.domain = d))
  orphans : ∀ d,
    (s.domain d).orphans = s.directory.bindings.countP (fun b => decide (b.domain = d ∧ b.tenure = .orphaned))

/-- R69: a binding is in TRANSFER exactly when one entry names its slot; that entry's giver is the binding's owner, and
its taker is a different port. -/
structure State.TransferLaw (s : State) : Prop where
  ofBinding : ∀ i b g x, s.slot i = .occupied b → b.tenure = .transfer g x → ∃ t, s.entry x = some t ∧ t.slot = i
  ofEntry : ∀ x t, s.entry x = some t →
    t.giver ≠ t.taker ∧ ∃ b, s.slot t.slot = .occupied b ∧ b.tenure = .transfer t.giver x

/-- R1, R2: a binding stands in a slot of the bucket of its identifier under the seed in force. -/
def State.PlaceLaw (s : State) : Prop := ∀ i b, s.slot i = .occupied b → i ∈ s.slotsOf b.domain b.key

/-- R7: no two OCCUPIED slots hold bindings with the same domain and key. -/
def State.UniqueLaw (s : State) : Prop :=
  ∀ i j b c, s.slot i = .occupied b → s.slot j = .occupied c → b.domain = c.domain → b.key = c.key → i = j

/-- The laws of the directory together. -/
structure State.DirectoryLaw (s : State) : Prop where
  store : s.StoreLaw
  counts : s.CountsLaw
  transfers : s.TransferLaw
  place : s.PlaceLaw
  unique : s.UniqueLaw

/-- R10, R11: no count passes its bound. -/
structure State.BoundsLaw (s : State) : Prop where
  quota : ∀ p, s.owned p ≤ s.settings.quota.get p
  cap : ∀ d, (s.domain d).count ≤ (s.domain d).policy.cap

/-- R66, R101: idle stays within 0..15, and a PINNED binding has idle 0; the lease limit stays within 1..15 (R53). -/
structure State.IdleLaw (s : State) : Prop where
  limits : ∀ d, 1 ≤ (s.domain d).policy.leaseLimit ∧ (s.domain d).policy.leaseLimit ≤ 15
  idle : ∀ i b, s.slot i = .occupied b → b.idle ≤ 15 ∧ (b.cls = .pinned → b.idle = 0)

/-! ### The arbiter -/

/-- R14: a free directory has no waiting client, and a grant in progress is the last granted client's; until its operation
has acted, the client waits with it (R13) and nothing has been handed over. Nothing is granted while RESET_N is low
(R206). -/
structure State.ArbiterLaw (s : State) : Prop where
  held : s.resetHeld = true → s.grant = none
  free : s.resetHeld = false → s.grant = none → ∀ c, s.waiting c = false
  inProgress : ∀ g, s.grant = some g →
    s.lastGranted = g.client ∧ (g.ending = none → g.reports = [] ∧ s.waiting g.client = true)

/-! ### Sessions, jobs and the lease -/

/-- The ORPHAN jobs for a port in the job queue. -/
def Maintenance.orphanJobs (m : Maintenance) (p : Port) : Nat :=
  m.queue.countP (fun j =>
    match j.work with
    | .orphan t _ => decide (t = p)
    | .sweep | .purge _ | .clear => false)

/-- R118, R130, R137, R40, R169: what holds of a port by its session state. -/
structure State.PortSessionLaw (s : State) (p : Port) : Prop where
  link : (s.port p).session = .online → (s.port p).link = .up
  offline : (s.port p).session ≠ .online →
    (s.port p).keepaliveTimer = none ∧ (s.port p).refillTimer = none ∧ (s.port p).claimCredit = 0
      ∧ (s.port p).keepaliveTimeout = 0 ∧ (s.port p).pacingLimit = 0
      ∧ (s.port p).subscriptions = Subscriptions.empty ∧ (s.noticePort p).queue = []
      ∧ (s.noticePort p).lostCount = 0
  draining : s.maintenance.orphanJobs p = if (s.port p).session = .draining then 1 else 0

/-- R93, R118, R130, R173: a port is DRAINING exactly when an ORPHAN job for it is in the job queue, a port that is not
ONLINE holds nothing of a session, and the lease holder is ONLINE. -/
structure State.SessionLaw (s : State) : Prop where
  port : ∀ p, s.PortSessionLaw p
  holder : ∀ p, s.lease.holder = some p → (s.port p).session = .online
  free : s.lease.holder = none → s.lease.remaining = 0

/-- R92, R93, R99: the ids in the queue differ and are in range, and each class of job keeps its limit. -/
structure State.JobsLaw (s : State) : Prop where
  ids : (s.maintenance.queue.map Job.id).Nodup
  idRange : ∀ j ∈ s.maintenance.queue, j.id ≤ 255
  nextId : 1 ≤ s.maintenance.nextId ∧ s.maintenance.nextId ≤ 255
  others : s.maintenance.queue.countP (fun j => decide (j.work.kind ≠ .orphan)) ≤ Config.otherJobsLimit
  sweeps : s.maintenance.queue.tail.countP (fun j => decide (j.work.kind = .sweep)) ≤ 1
  history : s.maintenance.history.length ≤ Config.historySize

/-! ### Queues -/

/-- R125: with an IDLE executor every place is WRITTEN; with a BUSY one the youngest is RESERVED or DISCARD and every
other is WRITTEN. -/
def placesFit : Executor → List Place → Bool
  | .idle, [] => true
  | .idle, .written _ :: rest => placesFit .idle rest
  | .busy _, [.reserved] => true
  | .busy _, [.discard] => true
  | .busy rq, .written _ :: rest => placesFit (.busy rq) rest
  | _, _ => false

/-- The places whose frame has not begun to go out (R122). -/
def PortController.unsent (c : PortController) : Nat :=
  match c.transmitter with
  | some (.response _ _ _) => c.responseQueue.length - 1
  | _ => c.responseQueue.length

/-- R120, R122, R125, R127: the queues of a Port Controller keep their bounds and their order. -/
structure PortController.QueueLaw (c : PortController) : Prop where
  requests : c.requestQueue.length ≤ Config.requestQueueSize
  places : c.responseQueue.length ≤ Config.responseQueueSize
  order : placesFit c.executor c.responseQueue = true
  credits : c.creditReturn ≤ c.unsent
  discard : .discard ∈ c.responseQueue → c.responseQueue = [.discard] ∧ c.creditReturn = 0
  sending : ∀ r n o, c.transmitter = some (.response r n o) → c.readyResponse.isSome
  down : c.link = .down →
    c.requestQueue = [] ∧ c.transmitter = none ∧ c.creditReturn = 0 ∧ c.overrun = false
      ∧ ∀ x ∈ c.responseQueue, x = .discard

/-- R162, R163, R166: the bounds of the Notice Unit. -/
structure NoticePort.BoundsLaw (n : NoticePort) : Prop where
  queue : n.queue.length ≤ Config.noticeQueueSize
  lost : n.lostCount ≤ Config.lostCountMax
  window : n.windowCount ≤ Config.windowCountMax

/-- The queues of every port keep their bounds. -/
structure State.QueuesLaw (s : State) : Prop where
  port : ∀ p, (s.port p).QueueLaw
  notices : ∀ p, (s.noticePort p).BoundsLaw

/-! ### Settings -/

/-- R179, R40: every setting is in its range, and no credit passes the capacity. -/
structure State.SettingsLaw (s : State) : Prop where
  range : ∀ id v, s.settings.value id = some v → settingInRange id v = true
  credit : ∀ p, (s.port p).claimCredit ≤ s.settings.creditCapacity

/-! ### The words of the statements -/

/-- The parts of State, for frames: what a command leaves as it was. -/
inductive Part where
  | resetHeld | ready | directory | arbiter | domains | transfers | maintenance | ports | notices | lease | settings
  | timebase | portCounters | deviceCounters | pending
  deriving DecidableEq, Repr

/-- A part of `t` is as it is in `s`. -/
def State.Same (s t : State) : Part → Prop
  | .resetHeld => t.resetHeld = s.resetHeld
  | .ready => t.ready = s.ready
  | .directory => t.directory = s.directory
  | .arbiter => t.grant = s.grant ∧ t.lastGranted = s.lastGranted
  | .domains => t.domains = s.domains
  | .transfers => t.transfers = s.transfers
  | .maintenance => t.maintenance = s.maintenance
  | .ports => t.ports = s.ports
  | .notices => t.notices = s.notices
  | .lease => t.lease = s.lease
  | .settings => t.settings = s.settings
  | .timebase => t.timebase = s.timebase
  | .portCounters => t.portCounters = s.portCounters
  | .deviceCounters => t.deviceCounters = s.deviceCounters
  | .pending => t.pending = s.pending

/-- Every part but the listed ones is as it was. -/
def State.ChangesOnly (s t : State) (parts : List Part) : Prop := ∀ x, x ∉ parts → s.Same t x

/-- Every port but one has the Port Controller it had. -/
def State.OtherPorts (s t : State) (p : Port) : Prop := ∀ q, q ≠ p → t.port q = s.port q

/-- The Port Controllers change by the answer to port `p`'s request alone (R124, R125). -/
def State.Answers (s t : State) (p : Port) (rq : RequestFrame) (st : Status) (res : Result) : Prop :=
  t.port p = (s.port p).answered ⟨rq.kind, rq.tag, st, res⟩ ∧ s.OtherPorts t p

/-- Every slot but one is as it was. -/
def State.OtherSlots (s t : State) (i : Nat) : Prop := ∀ j, j ≠ i → t.slot j = s.slot j

/-- The counts of the Directory Store and of the domains are as they were (R10, R11). -/
def State.SameCounts (s t : State) : Prop :=
  (∀ q, t.owned q = s.owned q) ∧ t.directory.orphanTotal = s.directory.orphanTotal ∧ t.domains = s.domains

/-- The domain records are as they were but for the two counts of one domain. -/
def State.DomainCounts (s t : State) (d : DomainId) (count orphans : Nat) : Prop :=
  t.domain d = { s.domain d with count := count, orphans := orphans } ∧ ∀ e, e ≠ d → t.domain e = s.domain e

/-- A request of a kind that R13 lists is in its grant, has not acted yet, and passes the common checks against what it
read (R16, R128). -/
structure State.InGrant (s : State) (p : Port) (v : View) (rq : RequestFrame) : Prop where
  grant : s.grant = some (.fresh (.executor p) v)
  executor : (s.port p).executor = .busy rq
  passes : commonCheck v p rq.body = none

/-- A taken request of any other kind passes the common checks against the state as it stands (R124, R128). -/
structure State.AtOnce (s : State) (p : Port) (rq : RequestFrame) : Prop where
  executor : (s.port p).executor = .busy rq
  passes : commonCheck s.view p rq.body = none

/-- A binding holds an identifier. -/
def Binding.Holds (b : Binding) (d : DomainId) (k : Key) : Prop := b.domain = d ∧ b.key = k

/-- A lookup meets no failing slot and hits the binding at slot `i`, the first of its bucket with the identifier (R6). -/
structure State.Finds (s : State) (failing : List Nat) (d : DomainId) (k : Key) (i : Nat) (b : Binding) : Prop where
  bucket : i ∈ s.slotsOf d k
  slot : s.slot i = .occupied b
  holds : b.Holds d k
  sound : ∀ j ∈ s.slotsOf d k, j ∉ failing
  first : ∀ j ∈ s.slotsOf d k, j < i → ∀ c, s.slot j = .occupied c → ¬ c.Holds d k

/-- A lookup meets no failing slot and misses (R6). -/
structure State.Misses (s : State) (failing : List Nat) (d : DomainId) (k : Key) : Prop where
  sound : ∀ j ∈ s.slotsOf d k, j ∉ failing
  none : ∀ j ∈ s.slotsOf d k, ∀ c, s.slot j = .occupied c → ¬ c.Holds d k

/-- The lowest FREE slot of the bucket of an identifier (R7). -/
structure State.LowestFree (s : State) (d : DomainId) (k : Key) (i : Nat) : Prop where
  bucket : i ∈ s.slotsOf d k
  free : s.slot i = .free
  lowest : ∀ j ∈ s.slotsOf d k, j < i → s.slot j ≠ .free

/-- The row of the table that runs a port's request (R13, R124; log 15). -/
def Request.row (p : Port) (g : GrantStep) : Request → Instr
  | .attach _ _ _ => .attach p
  | .detach => .detach p
  | .keepalive => .keepalive p
  | .evict _ => .evict p
  | .resolve _ _ _ _ => .resolve p g
  | .claim _ _ _ _ _ => .claim p g
  | .release _ _ => .release p g
  | .touch _ _ => .touch p g
  | .readSlot _ => .readSlot p g
  | .scanNext _ _ _ _ => .scanNext p g
  | .handoverAsk _ _ _ => .handoverAsk p g
  | .handoverReply _ decision => if decision = 2 then .handoverReplyRefuse p g else .handoverReplyGrant p g
  | .sweep => .sweep p
  | .purge _ _ _ => .purge p
  | .clear => .clear p
  | .abortJob _ => .abortJob p
  | .jobStatus _ => .jobStatus p
  | .domainGet _ => .domainGet p
  | .domainSet _ _ _ _ _ _ _ _ _ _ _ => .domainSet p
  | .settingGet _ => .settingGet p
  | .settingSet id _ =>
    match id with
    | 1 => .settingSetHashSeed p
    | 3 => .settingSetSweepInterval p
    | 4 => .settingSetTransferTimeout p
    | 5 => .settingSetCreditCapacity p
    | 6 => .settingSetRefillAmount p
    | 7 => .settingSetRefillInterval p
    | 8 | 9 | 10 | 11 => .settingSetQuota p
    | _ => .settingSetTimebaseDivider p
  | .leaseTake _ => .leaseTake p
  | .leaseRenew _ => .leaseRenew p
  | .leaseDrop => .leaseDrop p
  | .statRead scope name => if (sessionReadingOf scope name).isSome then .statReadSession p else .statRead p
  | .statTake _ _ => .statTake p
  | .unknown => .unknownRequestKind p

/-- A request whose row brings a `GrantStep`: its operation reads slots (R18). -/
def Request.readsSlots : Request → Bool
  | .resolve _ _ _ _ | .claim _ _ _ _ _ | .release _ _ | .touch _ _ | .readSlot _ | .scanNext _ _ _ _
  | .handoverAsk _ _ _ | .handoverReply _ _ => true
  | _ => false

/-- The row of the table that processes a bucket of a job (R22, R24, R101, R108, R144). -/
def Job.row (j : Job) : GrantStep → Instr :=
  match j.work with
  | .sweep => .sweepBucket
  | .purge _ => .purgeBucket
  | .clear => if j.id = 0 then .startupClearBucket else .bucketRewrite
  | .orphan _ _ => .orphanBucket

/-- The row that runs the operation with which a client waits (R13). -/
def State.RowOf (s : State) (client : Client) (row : GrantStep → Instr) : Prop :=
  match client with
  | .executor p => ∃ rq, (s.port p).executor = .busy rq ∧ rq.body.readsSlots = true ∧ ∀ g, row g = rq.body.row p g
  | .maintenance => ∃ j rest, s.maintenance.queue = j :: rest ∧ row = j.row
  | .transferController => s.transfers.expiryList ≠ [] ∧ row = .expiryResolution

/-- The claim policy allows a port (R62). -/
def Policy.Allows (pol : Policy) (p : Port) : Prop :=
  pol.claimPolicy = .openToAll ∨ (pol.claimPolicy = .members ∧ pol.memberSet.get p = true)

/-- A claim of a port passes the domain's enabled check, its policy and its pin permission (R25, R31). -/
structure State.ClaimAllowed (s : State) (p : Port) (d : DomainId) (pin : Bool) : Prop where
  enabled : (s.domain d).policy.enabled = true
  policy : (s.domain d).policy.Allows p
  pin : pin = true → (s.domain d).policy.pinSet.get p = true

/-- The quota check and the credit check pass (R38, R43). -/
structure State.MayOwn (s : State) (v : View) (p : Port) : Prop where
  quota : s.owned p < s.settings.quota.get p
  credit : 1 ≤ v.credit.get p

/-- A claim comes to the quota and credit checks of a creation, a preempt or an adoption (R35, R36, R37). -/
def State.WouldOwn (s : State) (p : Port) (v : View) (failing : List Nat) (d : DomainId) (k : Key) (force : Bool) :
    Prop :=
  (s.Misses failing d k ∧ (s.domain d).count < (s.domain d).policy.cap)
    ∨ ∃ i b, s.Finds failing d k i b
        ∧ (b.tenure = .orphaned
          ∨ ∃ o, b.tenure = .bound o ∧ o ≠ p
              ∧ (v.session.get o ≠ .online ∨ (force = true ∧ (s.domain d).policy.preemptSet.get p = true)))

/-- A claim in an enabled domain is refused, with this status and result (R31, R33 to R38, R43). The credit is the one at
the start of the grant (log 9). -/
inductive State.ClaimRefused (s : State) (p : Port) (v : View) (failing : List Nat) (d : DomainId) (k : Key)
    (pin force : Bool) : Status → Result → Prop where
  | closed : (s.domain d).policy.claimPolicy = .closed → s.ClaimRefused p v failing d k pin force .closed .none
  | notMember : (s.domain d).policy.claimPolicy = .members → (s.domain d).policy.memberSet.get p = false →
      s.ClaimRefused p v failing d k pin force .notMember .none
  | notPermitted : (s.domain d).policy.Allows p → pin = true → (s.domain d).policy.pinSet.get p = false →
      s.ClaimRefused p v failing d k pin force .notPermitted .none
  | busy (i : Nat) (b : Binding) (g : Port) (x : TransferIndex) : s.ClaimAllowed p d pin → s.Finds failing d k i b →
      b.tenure = .transfer g x → s.ClaimRefused p v failing d k pin force .busy .none
  | owned (i : Nat) (b : Binding) (o : Port) : s.ClaimAllowed p d pin → s.Finds failing d k i b → b.tenure = .bound o →
      o ≠ p → v.session.get o = .online → ¬ (force = true ∧ (s.domain d).policy.preemptSet.get p = true) →
      s.ClaimRefused p v failing d k pin force .owned (.ownedBy o)
  | cap : s.ClaimAllowed p d pin → s.Misses failing d k → (s.domain d).policy.cap ≤ (s.domain d).count →
      s.ClaimRefused p v failing d k pin force .cap .none
  | quota : s.ClaimAllowed p d pin → s.WouldOwn p v failing d k force → s.settings.quota.get p ≤ s.owned p →
      s.ClaimRefused p v failing d k pin force .quota .none
  | throttled : s.ClaimAllowed p d pin → s.WouldOwn p v failing d k force → s.owned p < s.settings.quota.get p →
      v.credit.get p = 0 → s.ClaimRefused p v failing d k pin force .throttled .none
  | full : s.ClaimAllowed p d pin → s.Misses failing d k → (s.domain d).count < (s.domain d).policy.cap → s.MayOwn v p →
      (∀ j ∈ s.slotsOf d k, s.slot j ≠ .free) → s.ClaimRefused p v failing d k pin force .full .none

/-- The request looks up an identifier in an enabled domain (R6, R25), a CLAIM after the checks of R31 that come before. -/
inductive State.LooksUp (s : State) (p : Port) (d : DomainId) (k : Key) : Request → Prop where
  | resolve (n : Nat) (cl : Bool) (h : Handle) : asDomain n = d → (s.domain d).policy.enabled = true →
      s.LooksUp p d k (.resolve n k cl h)
  | claim (n : Nat) (h : Handle) (pin force : Bool) : asDomain n = d → s.ClaimAllowed p d pin →
      s.LooksUp p d k (.claim n k h pin force)
  | release (n : Nat) : asDomain n = d → (s.domain d).policy.enabled = true → s.LooksUp p d k (.release n k)
  | touch (n : Nat) : asDomain n = d → (s.domain d).policy.enabled = true → s.LooksUp p d k (.touch n k)
  | ask (n : Nat) (h : Handle) : asDomain n = d → (s.domain d).policy.enabled = true →
      s.LooksUp p d k (.handoverAsk n k h)

/-- R18: slot `i` is the first slot that a request reads and that fails its check: an OCCUPIED slot that its lookup or its
scan reads, or the FREE slot that its insertion would take. A RESOLVE whose miss takes its count to half range is left
out of the last, since its COUNTER_HALF stands before the notices of the failure (R190; log 17). -/
inductive State.ReadsFailing (s : State) (p : Port) (v : View) (failing : List Nat) (i : Nat) : Request → Prop where
  | lookup (d : DomainId) (k : Key) (b : Binding) (r : Request) : s.LooksUp p d k r → i ∈ s.slotsOf d k →
      s.slot i = .occupied b → i ∈ failing →
      (∀ j ∈ s.slotsOf d k, j < i → ∀ c, s.slot j = .occupied c → j ∉ failing ∧ ¬ c.Holds d k) →
      s.ReadsFailing p v failing i r
  | insertion (d : DomainId) (k : Key) (pin : Bool) (r : Request) :
      (∃ n h force, r = .claim n k h pin force ∧ asDomain n = d)
        ∨ (∃ n h, r = .resolve n k true h ∧ asDomain n = d ∧ pin = false ∧ (s.domain d).policy.autoClaim = true
            ∧ s.counter (.port p .resolveMisses) + 1 ≠ halfRange) →
      s.ClaimAllowed p d pin → (s.domain d).count < (s.domain d).policy.cap → s.MayOwn v p →
      (∀ j ∈ s.slotsOf d k, ∀ c, s.slot j = .occupied c → j ∉ failing ∧ ¬ c.Holds d k) →
      s.LowestFree d k i → i ∈ failing → s.ReadsFailing p v failing i r
  | scan (start fd fo fs : Nat) (f : ScanFilter) (b : Binding) : scanFilterOf fd fo fs = some f → start ≤ i →
      i ≤ 64 * (start / 64) + 63 → s.slot i = .occupied b → i ∈ failing →
      (∀ j, start ≤ j → j < i → ∀ c, s.slot j = .occupied c → j ∉ failing ∧ f.matches c = false) →
      s.ReadsFailing p v failing i (.scanNext start fd fo fs)

/-- A notice handed over to a port that is ONLINE: its queue keeps what it held and gains the notice behind it, or is full,
and its lost count has risen or stands at its limit (R160, R162, R163). -/
def State.Queues (s t : State) (p : Port) (n : Notice) : Prop :=
  (s.port p).session = .online →
    (∃ l m, (t.noticePort p).queue = (s.noticePort p).queue ++ l ++ n :: m)
    ∨ (32 ≤ (t.noticePort p).queue.length
        ∧ ((s.noticePort p).lostCount < (t.noticePort p).lostCount ∨ (t.noticePort p).lostCount = 65535))

/-- The same for each port that subscribes to a kind (R161). -/
def State.QueuesForSubscribers (s t : State) (kind : SubscribedKind) (n : Notice) : Prop :=
  ∀ p, (s.port p).subscriptions.holds kind = true → s.Queues t p n

/-- R19 steps 3 to 5: the notices of a failed check of slot `i`. A transfer of the binding that it held ends REMOVED for both
its parties, BINDING_GONE with reason FAULT goes to the owner and to subscribers, and SLOT_FAULT to subscribers. -/
structure State.TellsSlotFault (s t : State) (i : Nat) : Prop where
  fault : s.QueuesForSubscribers t .slotFault (.slotFault i)
  owner : ∀ b o, s.slot i = .occupied b → b.tenure.owner = some o →
    s.Queues t o (.bindingGone .fault b.domain b.key (some o) b.handle i)
  subscribers : ∀ b, s.slot i = .occupied b →
    s.QueuesForSubscribers t .bindingGone (.bindingGone .fault b.domain b.key b.tenure.owner b.handle i)
  parties : ∀ b g x e, s.slot i = .occupied b → b.tenure = .transfer g x → s.entry x = some e →
    s.Queues t e.giver (.transferDone .removed b.domain b.key e.taker e.handle x e.tag)
      ∧ s.Queues t e.taker (.transferDone .removed b.domain b.key e.giver e.handle x e.tag)

/-- R12, R19, R21: the failed check of a FREE or OCCUPIED slot `i`, and nothing else done to slots, counts and transfers. The
slot is DEFECTIVE and FAULT is high; a binding is lost with the counts of its state, and its transfer ends, its entry
freed; SLOT_FAULTS counts the failure. -/
structure State.LosesSlot (s t : State) (i : Nat) : Prop where
  slot : t.slot i = .defective
  others : s.OtherSlots t i
  faultPin : t.faultPin = true
  defective : t.directory.defectiveCount = s.directory.defectiveCount + 1
  counted : t.counter (.device .slotFaults) = s.counter (.device .slotFaults) + 1
  told : s.TellsSlotFault t i
  free : s.slot i = .free → s.SameCounts t
  owned : ∀ b, s.slot i = .occupied b →
    ∀ q, t.owned q = if b.tenure.owner = some q then s.owned q - 1 else s.owned q
  orphaned : ∀ b, s.slot i = .occupied b → b.tenure = .orphaned →
    t.directory.orphanTotal = s.directory.orphanTotal - 1
      ∧ s.DomainCounts t b.domain ((s.domain b.domain).count - 1) ((s.domain b.domain).orphans - 1)
  ownedCounts : ∀ b, s.slot i = .occupied b → b.tenure ≠ .orphaned →
    t.directory.orphanTotal = s.directory.orphanTotal
      ∧ s.DomainCounts t b.domain ((s.domain b.domain).count - 1) (s.domain b.domain).orphans
  ended : ∀ b g x e, s.slot i = .occupied b → b.tenure = .transfer g x → s.entry x = some e →
    t.entry x = none ∧ (∀ y, y ≠ x → t.entry y = s.entry y) ∧ x ∉ t.transfers.expiryList
      ∧ t.counter (.device .transfersEnded) = s.counter (.device .transfersEnded) + 1
  noTransfer : (∀ b g x, s.slot i = .occupied b → b.tenure ≠ .transfer g x) →
    t.transfers = s.transfers ∧ t.counter (.device .transfersEnded) = s.counter (.device .transfersEnded)

/-- A port has left ONLINE: R134, with the ORPHAN job of R143 at the tail of the queue under the id `id`. -/
structure State.LeftOnline (s t : State) (p : Port) (c : LeaveCause) (id : Nat) : Prop where
  job : t.maintenance.queue = s.maintenance.queue ++ [⟨id, .orphan p c, none, 0, JobCounts.zero⟩]
  fresh : ∀ j ∈ s.maintenance.queue, j.id ≠ id
  next : t.maintenance.nextId = if id = 255 then 1 else id + 1
  history : t.maintenance.history = s.maintenance.history
  lease : t.lease = if s.lease.holder = some p then ⟨none, 0⟩ else s.lease
  notices : (t.noticePort p).queue = [] ∧ (t.noticePort p).lostCount = 0 ∧ (t.noticePort p).windowCount = 0
  told : ∀ q, q ≠ p → (s.port q).subscriptions.portState = true →
    s.Queues t q (.portState p .draining (.left c))

/-- The session part of a Port Controller that has left ONLINE (R134); every other field is `c`'s. -/
def PortController.Left (c d : PortController) : Prop :=
  d = { c with session := .draining, keepaliveTimer := none, refillTimer := none, claimCredit := 0,
               keepaliveTimeout := 0, pacingLimit := 0, subscriptions := ⟨false, false, false, false, false⟩ }

/-- Where a client stands in the circular order of R14. -/
def Client.place : Client → Nat
  | .executor .p0 => 0
  | .executor .p1 => 1
  | .executor .p2 => 2
  | .executor .p3 => 3
  | .maintenance => 4
  | .transferController => 5

/-- How many clients the search that begins after `last` passes before it comes to `c` (R14). -/
def Client.distance (last c : Client) : Nat := (c.place + 5 - last.place) % 6

/-- The arbiter's choice in a state with no grant in progress (R14): nothing while no client waits, else the first
waiting client after the last granted one, which is recorded, with what its operation reads. -/
structure State.Granted (s t : State) : Prop where
  none : (∀ c, s.waiting c = false) → t = s
  first : ∀ d, s.waiting d = true → ∃ c, s.waiting c = true ∧ t.grant = some (.fresh c s.view) ∧ t.lastGranted = c
    ∧ Client.distance s.lastGranted c ≤ Client.distance s.lastGranted d
    ∧ (d ≠ c → Client.distance c d < Client.distance s.lastGranted d)
  frame : s.ChangesOnly t [.arbiter]

/-- R3, R4, R7: how a slot may change in one step that is no reset. -/
def Slot.MayBecome : Slot → Slot → Prop
  | .undefined, y => y = .undefined ∨ y = .free ∨ y = .defective
  | .free, y => y = .free ∨ y = .defective
      ∨ ∃ b p, y = .occupied b ∧ b.tenure = .bound p ∧ b.touched = true ∧ b.idle = 0
  | .occupied b, y => y = .free ∨ y = .defective ∨ ∃ c, y = .occupied c ∧ c.Holds b.domain b.key
  | .defective, y => y = .defective ∨ y = .free

/-- The binding after a SWEEP has examined it, or nothing where it expires (R101). -/
def agedBinding (limit : Nat) (b : Binding) : Option Binding :=
  match b.tenure, b.cls, b.touched with
  | .transfer _ _, _, _ => some b
  | _, .pinned, _ => some { b with touched := false }
  | _, .leased, true => some { b with touched := false, idle := 0 }
  | _, .leased, false => if limit ≤ b.idle + 1 then none else some { b with idle := b.idle + 1 }

/-- A slot that holds a binding, or is FREE. -/
def Slot.ofBinding : Option Binding → Slot
  | some b => .occupied b
  | none => .free

/-! ### Jobs and buckets in the statements -/

/-- The jobs of the queue that are no ORPHAN jobs (R93). -/
def Maintenance.otherJobs (m : Maintenance) : Nat := m.queue.countP (fun j => decide (j.work.kind ≠ .orphan))

/-- The job queue gains a job at its tail, under an id that no job of the queue holds, and the id counter goes past it
(R92, R93); nothing else of the engine changes. -/
def Maintenance.Gains (m n : Maintenance) (j : Job) : Prop :=
  (∀ k ∈ m.queue, k.id ≠ j.id)
    ∧ n = { m with queue := m.queue ++ [j], nextId := if j.id = 255 then 1 else j.id + 1 }

/-- The Maintenance Engine holds the grant for a bucket of its head job, which has not acted yet, and no ABORT_JOB waits
(R95, R114). -/
structure State.InBucket (s : State) (v : View) (j : Job) (rest : List Job) : Prop where
  grant : s.grant = some (.fresh .maintenance v)
  queue : s.maintenance.queue = j :: rest
  aborts : s.maintenance.abortWaiting = []

/-- A job that a CLEAR cancels when it becomes RUNNING: a SWEEP or a PURGE (R111). -/
def JobWork.yieldsToClear (w : JobWork) : Bool := decide (w.kind = .sweep) || decide (w.kind = .purge)

/-- The jobs of a queue that its new head cancels (R111). -/
def cancelledJobs : List Job → List Job
  | k :: l => if k.work = .clear then l.filter (fun c => c.work.yieldsToClear) else []
  | [] => []

/-- The jobs of a queue that stay when its head becomes RUNNING (R111). -/
def keptJobs : List Job → List Job
  | k :: l => k :: if k.work = .clear then l.filter (fun c => !c.work.yieldsToClear) else l
  | [] => []

/-- A history with more records, each of which drops the oldest of a full one (R99). -/
def historyAfter (h : List JobRecord) (rs : List JobRecord) : List JobRecord :=
  rs.foldl (fun l r => (if l.length < 8 then l else l.tail) ++ [r]) h

/-- The JOB_DONE of a job for its requester, if it is a port (R98). -/
def State.QueuesJobDone (s t : State) (o : JobOutcome) (j : Job) (k : JobCounts) : Prop :=
  ∀ r, j.requester = some r →
    s.Queues t r (.jobDone o r j.id j.work.kind k.examined (if j.work = .sweep then k.expired else k.removed))

/-- The head job `j` finishes and `rest` stays behind it (R98, R99): its record enters the history and its JOB_DONE is
queued; and where the next job is a CLEAR, every SWEEP and PURGE that waits is cancelled, in queue order, with its record
and its JOB_DONE (R111). -/
structure State.HeadFinishes (s t : State) (j : Job) (rest : List Job) (o : JobOutcome) (progress : Nat)
    (k : JobCounts) : Prop where
  engine : t.maintenance = { s.maintenance with
    queue := keptJobs rest
    abortWaiting := t.maintenance.abortWaiting
    history := historyAfter s.maintenance.history
      (⟨j.id, j.work, j.requester, o, progress, k⟩
        :: (cancelledJobs rest).map (fun c => ⟨c.id, c.work, c.requester, .cancelled, 0, c.counts⟩)) }
  told : s.QueuesJobDone t o j k
  cancelled : ∀ c ∈ cancelledJobs rest, s.QueuesJobDone t .cancelled c c.counts

/-- The end of a bucket grant of the head job `j`, whose counts are then `k` (R95): the cursor advances, or, after bucket
2047, the job finishes DONE (R98), with SWEEP_DONE and its count for a SWEEP (R103), the end of the drain with its
PORT_STATE for an ORPHAN job (R152), and READY for the start-up clear (R24). -/
structure State.BucketEnds (s t : State) (j : Job) (rest : List Job) (k : JobCounts) : Prop where
  more : j.cursor + 1 < 2048 →
    t.maintenance = { s.maintenance with queue := { j with cursor := j.cursor + 1, counts := k } :: rest }
      ∧ t.ready = s.ready
  last : 2048 ≤ j.cursor + 1 →
    s.HeadFinishes t j rest .done 2048 k ∧ t.maintenance.abortWaiting = []
      ∧ t.ready = (s.ready || (decide (j.work = .clear) && decide (j.id = 0)))
  ports : (j.cursor + 1 < 2048 ∨ ∀ p c, j.work ≠ .orphan p c) → t.ports = s.ports
  drained : 2048 ≤ j.cursor + 1 → ∀ p c, j.work = .orphan p c →
    t.port p = { s.port p with session := .offline } ∧ s.OtherPorts t p
      ∧ ∀ q, q ≠ p → (s.port q).subscriptions.portState = true → s.Queues t q (.portState p .offline (.left c))
  swept : 2048 ≤ j.cursor + 1 → j.work = .sweep →
    s.QueuesForSubscribers t .sweepDone (.sweepDone j.id k.examined k.expired)
      ∧ t.counter (.device .sweepPasses) = s.counter (.device .sweepPasses) + 1
  passes : (j.cursor + 1 < 2048 ∨ j.work ≠ .sweep) →
    t.counter (.device .sweepPasses) = s.counter (.device .sweepPasses)

/-- The bytes of a central response (R203): 4 and 5 the slot, 6 to 9 one field each, 10 to 13 the handle, and 14 no field. -/
structure CentralBytes (a : ResultArea) (slot b6 b7 b8 b9 : Nat) (h : Handle) : Prop where
  slot : 256 * a[0].toNat + a[1].toNat = slot
  byte6 : a[2].toNat = b6
  byte7 : a[3].toNat = b7
  byte8 : a[4].toNat = b8
  byte9 : a[5].toNat = b9
  handle : a[6] ++ a[7] ++ a[8] ++ a[9] = h
  byte14 : a[10] = 0

/-- The layout of R203 of each central response, with the codes of 11.2. -/
def Response.CentralLayout (r : Response) : Prop :=
  match r.result with
  | .hit i t c h f => i < 16384 →
      CentralBytes r.area i t.state.code (portOrNoneCode t.owner) c.code r.area[5].toNat h
        ∧ r.area[5].getLsbD 0 = f.self ∧ r.area[5].getLsbD 1 = f.ownerLost ∧ r.area[5].getLsbD 2 = f.inTransfer
        ∧ r.area[5].getLsbD 3 = f.orphaned ∧ r.area[5].toNat < 16
  | .claimed i o c h => i < 16384 → CentralBytes r.area i 1 (portCode o) c.code 0 h
  | .ownedBy o => CentralBytes r.area 0 0 (portCode o) 0 0 0
  | .offered i x g => i < 16384 → CentralBytes r.area i x.val (portCode g) 0 0 0
  | .replied i x o out => i < 16384 → CentralBytes r.area i x.val (portCode o) out.code 0 0
  | _ => True

/-- The bytes of a notice frame (11.1, R204): kind, reason, port, domain, key, handle and value of the notice in their
places, and the credits. -/
structure NoticeBytes (b : Frame) (x : NoticeFields) (credits : Nat) : Prop where
  byte0 : b[0].toNat = 128 + 8 * x.kind + x.reason
  byte1 : b[1].toNat = 32 * x.port + credits
  domain : b[2].toNat = x.domain
  key : b[3] ++ b[4] ++ b[5] ++ b[6] ++ b[7] ++ b[8] = x.key
  handle : b[9] ++ b[10] ++ b[11] ++ b[12] = x.handle
  value : 256 * b[13].toNat + b[14].toNat = x.value % 65536

/-- The fields of each notice kind (R158), with the kind codes of 11.2 and the value fields of 11.1. -/
structure NoticeTable : Prop where
  transferOffer : ∀ d k p h x tag,
    (Notice.transferOffer d k p h x tag).fields = ⟨1, 0, d.val, k, portCode p, h, 256 * x.val + tag.toNat⟩
  transferDone : ∀ o d k p h x tag,
    (Notice.transferDone o d k p h x tag).fields = ⟨2, o.code, d.val, k, portCode p, h, 256 * x.val + tag.toNat⟩
  preempted : ∀ d k p h i, (Notice.preempted d k p h i).fields = ⟨3, 0, d.val, k, portCode p, h, i⟩
  adopted : ∀ d k p h i, (Notice.adopted d k p h i).fields = ⟨4, 0, d.val, k, portCode p, h, i⟩
  expired : ∀ d k p h i, (Notice.expired d k p h i).fields = ⟨5, 0, d.val, k, portCode p, h, i⟩
  jobDone : ∀ o p id kind n m, (Notice.jobDone o p id kind n m).fields
    = ⟨6, o.noticeCode, 0, BitVec.ofNat 48 m, portCode p, BitVec.ofNat 32 n, 256 * id + kind.code⟩
  leaseLost : ∀ p, (Notice.leaseLost p).fields = ⟨7, 0, 0, 0, portCode p, 0, 0⟩
  noticesLost : ∀ p n, (Notice.noticesLost p n).fields = ⟨8, 0, 0, 0, portCode p, 0, n⟩
  bindingGone : ∀ r d k o h i,
    (Notice.bindingGone r d k o h i).fields = ⟨9, r.code, d.val, k, portOrNoneCode o, h, i⟩
  portState : ∀ p st c, (Notice.portState p st c).fields = ⟨10, 0, 0, 0, portCode p, 0, 256 * st.code + c.code⟩
  slotFault : ∀ i, (Notice.slotFault i).fields = ⟨11, 0, 0, 0, 4, 0, i⟩
  sweepDone : ∀ id n m, (Notice.sweepDone id n m).fields = ⟨12, 0, 0, BitVec.ofNat 48 m, 4, BitVec.ofNat 32 n, id⟩
  portCounterHalf : ∀ p c,
    (Notice.counterHalf (.port p c)).fields = ⟨13, 0, 0, 0, portCode p, 0x80000000#32, 256 * portCode p + c.code⟩
  deviceCounterHalf : ∀ c,
    (Notice.counterHalf (.device c)).fields = ⟨13, 0, 0, 0, 4, 0x80000000#32, 256 * 4 + c.code⟩

/-- The codes of 11.2 that the frames of these layouts carry. -/
structure CodeTable : Prop where
  port : [Port.p0, .p1, .p2, .p3].map portCode = [0, 1, 2, 3]
  somePort : ∀ p, portOrNoneCode (some p) = portCode p
  noPort : portOrNoneCode none = 4
  bindingState : [BindingState.bound, .transfer, .orphaned].map BindingState.code = [1, 2, 3]
  cls : [BindingClass.leased, .pinned].map BindingClass.code = [1, 2]
  outcome : [TransferOutcome.granted, .giverGone, .refused, .timeout, .takerGone, .quota, .removed].map
    TransferOutcome.code = [1, 2, 3, 4, 5, 6, 7]
  goneReason : [GoneReason.released, .expired, .orphanRemoved, .fault].map GoneReason.code = [1, 2, 3, 4]
  jobOutcome : [JobOutcome.done, .aborted, .cancelled].map JobOutcome.noticeCode = [1, 2, 3]
  jobKind : [JobKind.sweep, .purge, .clear, .orphan].map JobKind.code = [1, 2, 3, 4]
  session : [Session.offline, .online, .draining].map Session.code = [1, 2, 3]
  cause : [StateCause.attach, .left .detach, .left .link, .left .keepalive, .left .evicted].map StateCause.code
    = [1, 2, 3, 4, 5]
  success : [Status.ok, .already, .claimed, .pending, .handed, .merged, .continueScan, .endOfScan, .miss].map Status.code
    = [0, 1, 2, 3, 4, 5, 6, 7, 16]
  refusal : [Status.owned, .busy, .full, .quota, .cap, .throttled, .closed, .notMember, .notPermitted, .notOwner,
      .domainOff, .orphaned, .noLease, .held, .invalid, .notAttached, .draining, .retry, .notEmpty, .cancelled].map
    Status.code = [32, 33, 34, 35, 36, 37, 38, 39, 40, 41, 42, 43, 44, 45, 46, 47, 48, 49, 50, 51]

/-- How many bindings of a bucket have a property. -/
def State.bucketCount (s : State) (bucket : Nat) (f : Binding → Bool) : Nat :=
  (bucketSlots bucket).countP (fun i => ((s.slot i).binding?).any f)

/-- A binding that a SWEEP removes (R101). -/
def State.expires (s : State) (b : Binding) : Bool := (agedBinding (s.domain b.domain).policy.leaseLimit b).isNone

/-- The orphan action of its domain on a binding of the lost port `p` (R68, R145 to R148), in a bucket that gives the
standby port at most eight bindings. -/
def State.OrphanTreated (s t : State) (v : View) (p : Port) (i : Nat) (b : Binding) : Prop :=
  ∀ pol, pol = (s.domain b.domain).policy →
    (pol.orphanAction = .remove → b.cls = .leased → t.slot i = .free)
    ∧ (pol.orphanAction = .remove → b.cls = .pinned → t.slot i = .occupied { b with tenure := .orphaned })
    ∧ (pol.orphanAction = .hold → t.slot i = .occupied { b with tenure := .orphaned })
    ∧ (pol.orphanAction = .adopt →
        v.session.get pol.standby ≠ .online ∨ pol.standby = p ∨ ¬ pol.Allows pol.standby
          ∨ s.settings.quota.get pol.standby ≤ s.owned pol.standby →
        t.slot i = .occupied { b with tenure := .orphaned })
    ∧ (pol.orphanAction = .adopt → v.session.get pol.standby = .online → pol.standby ≠ p → pol.Allows pol.standby →
        s.owned pol.standby + 8 ≤ s.settings.quota.get pol.standby →
        t.slot i = .occupied { b with tenure := .bound pol.standby, touched := true, idle := 0 })

end Sys2Proof.Machine
end

