-- ==== Sys2Proof/Certificates/Slice0/Obligations.lean ====
section
/-! DEFINITION. The statements for the provers. Each docstring names the rules of spec/ that it formalises. -/

open Sys2Proof Sys2Proof.Machine

/-! ### The machine -/

/-- A step takes the command at the front of the queue and runs it on the state with the queue's rest (log 1). -/
def Obligations.StepRunsFrontCommand : Prop :=
  ∀ (c : Instr) (rest : List Instr) (s : State), step (s.withPending (c :: rest)) = exec c (s.withPending rest)

/-- With no command waiting, no grant half handed over and nothing owed by the last millitick, a step is one REFCLK period
(R185; log 2): the period count rises, and on reaching the divider in force a millitick occurs. At a millitick the count
returns to 0, the divider in force is taken afresh from the setting, every timer that runs counts one (R71, R177, R187), and
every pacing window is owed its start (R166; log 10). While RESET_N is low nothing happens (R206). -/
def Obligations.MillitickCountsEveryTimer : Prop :=
  ∀ s : State,
    (s.pending = [] → s.resetHeld = true → step s = .next s)
    ∧ (s.pending = [] → s.resetHeld = false → s.midGrant = false → s.anyDue = false → ∃ t, step s = .next t
        ∧ (s.timebase.periodCount + 1 < s.timebase.dividerInForce →
            t.timebase = ⟨s.timebase.periodCount + 1, s.timebase.dividerInForce⟩ ∧ s.ChangesOnly t [.timebase])
        ∧ (s.timebase.dividerInForce ≤ s.timebase.periodCount + 1 → exec .millitick s = .next t))
    ∧ (s.resetHeld = false → s.anyDue = false → ∃ t, exec .millitick s = .next t
        ∧ t.timebase = ⟨0, s.settings.timebaseDivider⟩
        ∧ (∀ p, t.port p = { s.port p with
              keepaliveTimer := (s.port p).keepaliveTimer.map (· - 1), refillTimer := (s.port p).refillTimer.map (· - 1) })
        ∧ (∀ p, t.noticePort p = { s.noticePort p with windowDue := true })
        ∧ (∀ x, t.entry x = (s.entry x).map (fun e =>
              if e.phase = .pending then { e with remaining := e.remaining - 1 } else e))
        ∧ t.transfers.expiryList = s.transfers.expiryList ∧ t.transfers.lastAllocated = s.transfers.lastAllocated
        ∧ (s.lease.holder = none → t.lease = s.lease)
        ∧ (s.lease.holder ≠ none → t.lease = ⟨s.lease.holder, s.lease.remaining - 1⟩)
        ∧ t.maintenance = { s.maintenance with sweepTimer := s.maintenance.sweepTimer.map (· - 1) }
        ∧ (s.grant ≠ none → t.grant = s.grant)
        ∧ s.ChangesOnly t [.timebase, .ports, .notices, .transfers, .lease, .maintenance, .arbiter])

/-- The state after RESET_N meets every law of Safety.lean (R10, R11, R14, R69, R93, R125, R173, R179). -/
def Obligations.ResetMeetsEveryLaw : Prop :=
  State.reset.DirectoryLaw ∧ State.reset.BoundsLaw ∧ State.reset.IdleLaw ∧ State.reset.ArbiterLaw
    ∧ State.reset.SessionLaw ∧ State.reset.JobsLaw ∧ State.reset.QueuesLaw ∧ State.reset.SettingsLaw

/-- R206 with the reset values of R14, R23, R53, R70, R115, R142, R172, R173, R179, R185 and R200: what RESET_N leaves,
from every state; and the rising edge of RESET_N, which lets the part run and changes nothing else but what the
arbiter then grants. That the reset state is the low level, not yet released, is log 21. -/
def Obligations.ResetTakesEffect : Prop :=
  (∀ s : State, ∃ t, exec .resetN s = .next t
    ∧ t.resetHeld = true ∧ t.ready = false ∧ t.faultPin = false ∧ t.grant = none
    ∧ t.lastGranted = .transferController ∧ (∀ i, t.slot i = .undefined) ∧ (∀ p, t.owned p = 0)
    ∧ t.directory.orphanTotal = 0 ∧ t.directory.defectiveCount = 0
    ∧ (∀ d, t.domain d = {
        policy := {
          enabled := false, claimPolicy := .openToAll, memberSet := ⟨true, true, true, true⟩,
          preemptSet := ⟨false, false, false, false⟩, pinSet := ⟨false, false, false, false⟩, autoClaim := false,
          leaseLimit := 4, cap := 16384, orphanAction := .hold, standby := .p0 },
        count := 0, orphans := 0 })
    ∧ t.settings = {
        hashSeed := 0, timebaseDivider := 100000, sweepInterval := 1000, transferTimeout := 50, creditCapacity := 64,
        refillAmount := 8, refillInterval := 1, quota := ⟨4096, 4096, 4096, 4096⟩ }
    ∧ (∀ i, t.entry i = none) ∧ t.transfers.expiryList = [] ∧ t.transfers.lastAllocated = 31
    ∧ t.maintenance.queue = [⟨0, .clear, none, 0, ⟨0, 0, 0, 0, 0⟩⟩] ∧ t.maintenance.history = []
    ∧ t.maintenance.nextId = 1 ∧ t.maintenance.sweepTimer = some 1000
    ∧ (∀ p, (t.port p).link = .down ∧ (t.port p).session = .offline ∧ (t.port p).requestQueue = []
        ∧ (t.port p).executor = .idle ∧ (t.port p).responseQueue = [] ∧ (t.port p).transmitter = none
        ∧ (t.port p).creditReturn = 0 ∧ (t.port p).overrun = false ∧ (t.port p).claimCredit = 0
        ∧ (t.port p).refillTimer = none ∧ (t.port p).keepaliveTimer = none ∧ (t.port p).keepaliveTimeout = 0
        ∧ (t.port p).pacingLimit = 0 ∧ (t.port p).subscriptions = ⟨false, false, false, false, false⟩)
    ∧ (∀ p, (t.noticePort p).queue = [] ∧ (t.noticePort p).lostCount = 0 ∧ (t.noticePort p).windowCount = 0
        ∧ (t.noticePort p).windowLimit = 0)
    ∧ t.lease = ⟨none, 0⟩ ∧ t.timebase = ⟨0, 100000⟩ ∧ (∀ c, t.counter c = 0) ∧ t.pending = s.pending)
  ∧ (∀ s : State, s.resetHeld = true → s.grant = none → ∃ t, exec .resetNRelease s = .next t
    ∧ t.resetHeld = false ∧ (s.withResetHeld false).Granted t)

/-! ### The arbiter -/

/-- R14: in a running part with no grant in progress, and at the end of every grant, the arbiter grants the first
waiting client that follows the last granted one in the circular order P0, P1, P2, P3, Maintenance Engine, Transfer
Controller, and records it; every other waiting client comes nearer in the order, and its distance is at most five. While
a grant is in progress the arbiter does nothing. After RESET_N the last granted client is the Transfer Controller. -/
def Obligations.ArbiterGrantsInCircularOrder : Prop :=
  (∀ s : State, s.resetHeld = false → s.grant = none → s.Granted s.arbitrate)
    ∧ (∀ s : State, s.resetHeld = false → (s.withGrant none).Granted s.endGrant)
    ∧ (∀ s : State, s.grant ≠ none → s.arbitrate = s)
    ∧ (∀ c d : Client, Client.distance c d ≤ 5)
    ∧ State.reset.lastGranted = .transferController

/-- R13, R14: a free directory never leaves a client waiting, and a grant in progress stays its client's, in every
step. That the choice falls inside the step is log 6, the model's inference. -/
def Obligations.StepKeepsArbiterLaw : Prop :=
  ∀ s t : State, s.ArbiterLaw → step s = .next t → t.ArbiterLaw

/-! ### Laws that every step keeps -/

/-- R1, R2, R7, R10, R11, R21, R69: every step keeps the directory's laws: the canonical form of the slots, every count
equal to what it counts, each binding in TRANSFER paired with one entry, each binding in its bucket, and no identifier in
two slots. -/
def Obligations.StepKeepsDirectoryLaw : Prop :=
  ∀ s t : State, s.DirectoryLaw → step s = .next t → t.DirectoryLaw

/-- R91, R95: every step keeps the canonical form of the slots, and every cursor in 0..2047. -/
def Obligations.StepKeepsStoreLaw : Prop :=
  ∀ s t : State, s.StoreLaw → step s = .next t → t.StoreLaw

/-- R10, R11, R39: owned_count never exceeds the quota, nor count[d] the cap, through any step. The quota part rests
on the reading of R74 in log 18, the model's inference. -/
def Obligations.StepKeepsBoundsLaw : Prop :=
  ∀ s t : State, s.BoundsLaw → step s = .next t → t.BoundsLaw

/-- R66, R101: idle stays within 0..15 and a PINNED binding has idle 0, through any step. -/
def Obligations.StepKeepsIdleLaw : Prop :=
  ∀ s t : State, s.StoreLaw → s.IdleLaw → step s = .next t → t.IdleLaw

/-- R93, R118, R130, R137, R173: a port is DRAINING exactly when one ORPHAN job for it is in the queue, an ONLINE
port has its link UP, a port that is not ONLINE holds nothing of a session, and the lease holder is ONLINE, through
any step. That an ONLINE port has its link UP rests on log 25, the model's inference, for an ATTACH executed with
its link DOWN. -/
def Obligations.StepKeepsSessionLaw : Prop :=
  ∀ s t : State, s.SessionLaw → step s = .next t → t.SessionLaw

/-- R92, R93, R99: the ids in the job queue differ, at most four jobs are not ORPHAN jobs, at most one SWEEP waits, and
the history holds at most eight records, through any step. -/
def Obligations.StepKeepsJobsLaw : Prop :=
  ∀ s t : State, s.SessionLaw → s.JobsLaw → step s = .next t → t.JobsLaw

/-- R120, R122, R125, R162, R163, R166: every queue keeps its bound, at most the youngest response place is RESERVED or
DISCARD, and the credit-return count is at most the places whose frame has not begun, through any step. -/
def Obligations.StepKeepsQueuesLaw : Prop :=
  ∀ s t : State, s.QueuesLaw → step s = .next t → t.QueuesLaw

/-- R179, R40: every setting stays in its range and no claim credit passes the capacity, through any step. -/
def Obligations.StepKeepsSettingsLaw : Prop :=
  ∀ s t : State, s.SettingsLaw → step s = .next t → t.SettingsLaw

/-- R3, R4: in one command that is no reset each slot changes only as the table of R3 gives; an OCCUPIED slot that stays
OCCUPIED keeps its binding's domain and key, and a FREE slot becomes OCCUPIED only by a new BOUND binding with touched yes
and idle 0 (R7). -/
def Obligations.SlotsChangeOnlyByTheTable : Prop :=
  ∀ (c : Instr) (s t : State), s.StoreLaw → c ≠ .resetN → exec c s = .next t → ∀ i, (s.slot i).MayBecome (t.slot i)

/-- R24, R206: READY falls only at RESET_N, and it rises only in the start-up clear's grant for bucket 2047. -/
def Obligations.ReadyChangesOnlyByClearAndReset : Prop :=
  ∀ (c : Instr) (s t : State), exec c s = .next t →
    (s.ready = true → t.ready = false → c = .resetN)
    ∧ (s.ready = false → t.ready = true → (∃ g, c = .startupClearBucket g)
        ∧ ∃ j rest, s.maintenance.queue = j :: rest ∧ j.id = 0 ∧ j.work = .clear ∧ 2047 ≤ j.cursor)

/-- R54, R179: a domain's writable fields change only by DOMAIN_SET and the settings only by the SETTING_SET rows, or by
RESET_N. -/
def Obligations.PolicyAndSettingsKeepTheirValues : Prop :=
  ∀ (c : Instr) (s t : State), exec c s = .next t → c ≠ .resetN →
    ((∀ p, c ≠ .domainSet p) → ∀ d, (t.domain d).policy = (s.domain d).policy)
    ∧ ((∀ p, c ≠ .settingSetHashSeed p ∧ c ≠ .settingSetTimebaseDivider p ∧ c ≠ .settingSetSweepInterval p
          ∧ c ≠ .settingSetTransferTimeout p ∧ c ≠ .settingSetCreditCapacity p ∧ c ≠ .settingSetRefillAmount p
          ∧ c ≠ .settingSetRefillInterval p ∧ c ≠ .settingSetQuota p) → t.settings = s.settings)

/-- R173: the lease gains a holder only by that port's LEASE_TAKE finding it FREE, executed while the port is ONLINE. -/
def Obligations.LeaseIsTakenOnlyFree : Prop :=
  ∀ (c : Instr) (s t : State) (p : Port), exec c s = .next t → t.lease.holder = some p → s.lease.holder ≠ some p →
    c = .leaseTake p ∧ s.lease.holder = none ∧ (s.port p).session = .online

/-! ### Identifiers, frames and codes -/

/-- R1, R2: the bucket of an identifier by the formula of R2, in range, and its eight slots 8b to 8b + 7; the second
form of the formula is note 2's. -/
def Obligations.BucketFormula : Prop :=
  ∀ (d : DomainId) (k : Key) (seed : Nat),
    bucketIndex d k seed = (k.toNat % 2039 + 4099 * d.val + 257 * seed) % 2048
      ∧ bucketIndex d k seed = (k.toNat % 2039 + 3 * d.val + 257 * seed) % 2048
      ∧ ∀ i, i ∈ bucketSlots (bucketIndex d k seed) ↔
          8 * bucketIndex d k seed ≤ i ∧ i ≤ 8 * bucketIndex d k seed + 7 ∧ i < 16384

/-- R158, R201, R203, R204, R205: every frame the part sends carries its check sequence. A response has the low seven
bits of the request's kind, its tag, the status, the credits and the overrun flag in bytes 0 to 3; a notice has every
field of its kind in its place, with the credits. Each central response has its result area as the table of R203 lays it
out, byte by byte, and the codes are those of 11.2. The result area of a response of status only is 0; where its fields
have room in whole bytes but R203 gives them no places, they stand at places that do not overlap, each most significant
byte first, and every byte of no field is 0. The fields of a DOMAIN_GET have room only if small ones share bytes: each
stands in one byte or in whole bytes, most significant bit first in the order of sending, no two share a bit, and every
bit of no field, so every byte of none, is 0. Which fields those are, their widths, the sharing and the places are log
13, the model's choice. -/
def Obligations.SentFramesCheck : Prop :=
  (∀ f : OutFrame, frameChecks f.bytes = true
    ∧ (f.credits ≤ 16 →
        match f with
        | .response r n o => f.bytes[0].getLsbD 7 = false ∧ f.bytes[0].toNat = r.kind.toNat % 128 ∧ f.bytes[1] = r.tag
            ∧ f.bytes[2].toNat = r.status.code ∧ f.bytes[3].toNat % 32 = n ∧ f.bytes[3].getLsbD 7 = o
            ∧ f.bytes[3].getLsbD 5 = false ∧ f.bytes[3].getLsbD 6 = false
            ∧ ∀ i : Fin 11, f.bytes[4 + i.val] = r.area[i]
        | .notice m n => f.bytes[0].getLsbD 7 = true ∧ f.bytes[1].toNat % 32 = n ∧ NoticeBytes f.bytes m.fields n))
  ∧ NoticeTable ∧ CodeTable
  ∧ (∀ r : Response, r.CentralLayout)
  ∧ (∀ r : Response, r.result = .none → ∀ i : Fin 11, r.area[i] = 0)
  ∧ (∀ r : Response, r.result.fields ≠ [] → (r.result.fields.map AreaField.bytes).sum ≤ 11 →
      ∃ place : Nat → Nat,
        (∀ i f, r.result.fields[i]? = some f → place i + f.bytes ≤ 11
          ∧ ∀ k (h : place i + k < 11), k < f.bytes →
              (r.area[place i + k]'h).toNat = f.value / 256 ^ (f.bytes - 1 - k) % 256)
        ∧ (∀ i j f g, i ≠ j → r.result.fields[i]? = some f → r.result.fields[j]? = some g →
            place i + f.bytes ≤ place j ∨ place j + g.bytes ≤ place i)
        ∧ (∀ k : Fin 11, (∀ i f, r.result.fields[i]? = some f → k.val < place i ∨ place i + f.bytes ≤ k.val) →
            r.area[k] = 0))
  ∧ (∀ (r : Response) (d : Domain), r.result = .domain d →
      ∃ place : Nat → Nat,
        (∀ i f, d.fields[i]? = some f →
          place i + f.sharedWidth ≤ 88 ∧ (place i % 8 = 0 ∨ place i % 8 + f.sharedWidth ≤ 8)
          ∧ ∀ k (h : (place i + k) / 8 < 11), k < f.sharedWidth →
              (r.area[(place i + k) / 8]'h).getMsbD ((place i + k) % 8) = f.value.testBit (f.sharedWidth - 1 - k))
        ∧ (∀ i j f g, i ≠ j → d.fields[i]? = some f → d.fields[j]? = some g →
            place i + f.sharedWidth ≤ place j ∨ place j + g.sharedWidth ≤ place i)
        ∧ (∀ n : Fin 88, (∀ i f, d.fields[i]? = some f → n.val < place i ∨ place i + f.sharedWidth ≤ n.val) →
            (r.area[n.val / 8]'(by omega)).getMsbD (n.val % 8) = false))

/-- R201, R202, R205: three request frames written out byte by byte from the layouts of 11.1 and the codes of 11.2 (a
RELEASE of domain 3 key 100000 with tag 7, a SETTING_SET of QUOTA_P2 to 4096, an unknown kind) pass their check and read as
what they say. -/
def Obligations.RequestFramesDecode : Prop :=
  let f1 : Frame := #v[7, 7, 3, 0, 0, 0, 0, 1, 0x86, 0xA0, 0, 0, 0, 0, 0, 0x1E]
  let f2 : Frame := #v[21, 9, 10, 0, 0, 0x10, 0, 0, 0, 0, 0, 0, 0, 0, 0, 0x47]
  let f3 : Frame := #v[0xFF, 0, 0, 0, 0, 0, 0, 0, 0, 0, 0, 0, 0, 0, 0, 0]
  (frameChecks f1 = true ∧ decodeRequest f1 = ⟨7, 7, .release 3 100000⟩)
    ∧ (frameChecks f2 = true ∧ decodeRequest f2 = ⟨21, 9, .settingSet 10 4096⟩)
    ∧ (frameChecks f3 = true ∧ decodeRequest f3 = ⟨0xFF, 0, .unknown⟩)

/-! ### Checks and responses -/

/-- R128: the common check order: which status each step gives, for every request of every port, from what was read.
A request that passes is in range and meets no obstacle. That RETRY comes before the other refusals of step 1 while
READY is low is log 20, the model's reading. -/
def Obligations.CommonCheckOrder : Prop :=
  ∀ (v : View) (p : Port) (r : Request),
    ((v.ready = true ∨ (∃ id, r = .settingGet id) ∨ (∃ a b, r = .statRead a b)) → r.readOnly = true →
      commonCheck v p r = if r.inRange then none else some .invalid)
    ∧ (v.session.get p = .draining → (∃ a b c, r = .attach a b c) → commonCheck v p r = some .retry)
    ∧ (v.ready = true → v.session.get p = .offline → (∃ a b c, r = .attach a b c) →
      commonCheck v p r = if r.inRange then none else some .invalid)
    ∧ (v.ready = true → r.readOnly = false → v.session.get p = .draining → (¬ ∃ a b c, r = .attach a b c) →
      commonCheck v p r = some .draining)
    ∧ (v.ready = true → r.readOnly = false → v.session.get p = .offline → (¬ ∃ a b c, r = .attach a b c) →
      commonCheck v p r = some .notAttached)
    ∧ (v.ready = false → (¬ ∃ id, r = .settingGet id) → (¬ ∃ a b, r = .statRead a b) → commonCheck v p r = some .retry)
    ∧ (v.ready = true → v.session.get p = .online → r.needsLease p = true → v.leaseHolder ≠ some p →
      commonCheck v p r = some .noLease)
    ∧ (v.ready = true → v.session.get p = .online → (r.needsLease p = true → v.leaseHolder = some p) →
      r.inRange = false → commonCheck v p r = some .invalid)
    ∧ (v.ready = true → v.session.get p = .online → (r.needsLease p = true → v.leaseHolder = some p) →
      r.inRange = true → v.clearRunning = true → r.heldByClear = true → commonCheck v p r = some .retry)
    ∧ (v.ready = true → v.session.get p = .online → (r.needsLease p = true → v.leaseHolder = some p) →
      r.inRange = true → (v.clearRunning = true → r.heldByClear = false) → commonCheck v p r = none)

/-- R128, R129, R191: a request that fails a common check, in its grant or at once, of every kind, is answered with that
status and no field, is counted in REFUSALS, and changes nothing else than the arbiter's choice and the notices of that
count. An ABORT_JOB that waits for a bucket grant (R114) has passed the common checks and is left out. Which row runs a
request whose decision or id is unknown is log 15. -/
def Obligations.CommonCheckRefusalChangesNothing : Prop :=
  ∀ (s : State) (p : Port) (rq : RequestFrame) (st : Status) (failing : List Nat), (s.port p).executor = .busy rq →
    (rq.body.granted = true → ∀ v, s.grant = some (.fresh (.executor p) v) → commonCheck v p rq.body = some st →
      ∃ t, exec (rq.body.row p ⟨failing, none⟩) s = .next t ∧ s.Answers t p rq st .none
        ∧ t.counter (.port p .refusals) = s.counter (.port p .refusals) + 1
        ∧ s.ChangesOnly t [.ports, .arbiter, .notices, .portCounters])
    ∧ (rq.body.granted = false → p ∉ s.maintenance.abortWaiting → commonCheck s.view p rq.body = some st →
      ∃ t, exec (rq.body.row p ⟨failing, none⟩) s = .next t ∧ s.Answers t p rq st .none
        ∧ t.counter (.port p .refusals) = s.counter (.port p .refusals) + 1
        ∧ s.ChangesOnly t [.ports, .arbiter, .notices, .portCounters])

/-! ### Links -/

/-- R118: LINK_UP in DOWN brings the link UP with a credit-return count of 0, a clear overrun flag and 16 request
credits at the master. R127, R139, R170: LINK_LOST in every session state discards the queued requests, the WRITTEN
responses, the frame in transmission and the queued notices, marks a RESERVED place DISCARD, and lets the request in
execution go on; in ONLINE the port leaves ONLINE with cause LINK, and in OFFLINE and DRAINING the session is
unchanged. The master's ledger is log 22. -/
def Obligations.LinkComesUpAndIsLost : Prop :=
  (∀ (s : State) (p : Port), (s.port p).link = .down → s.resetHeld = false →
    ∃ t, exec (.linkUp p) s = .next t
      ∧ t.port p = { s.port p with link := .up, creditReturn := 0, overrun := false, masterCredits := 16 }
      ∧ s.OtherPorts t p ∧ s.ChangesOnly t [.ports])
  ∧ (∀ (s : State) (p : Port), (s.port p).link = .up → s.JobsLaw → s.maintenance.queue.length ≤ 8 →
    ∃ t d, exec (.linkLost p) s = .next t ∧ s.OtherPorts t p
      ∧ d = { s.port p with
                link := .down, requestQueue := [], transmitter := none, creditReturn := 0, overrun := false,
                responseQueue := (t.port p).responseQueue }
      ∧ (∀ x ∈ (t.port p).responseQueue, x = .discard)
      ∧ (t.port p).responseQueue.length
          = (s.port p).responseQueue.countP (fun x => decide (x = .reserved) || decide (x = .discard))
      ∧ (t.noticePort p).queue = [] ∧ (t.noticePort p).lostCount = 0 ∧ (t.noticePort p).windowCount = 0
      ∧ ((s.port p).session = .online → d.Left (t.port p) ∧ (∃ id, s.LeftOnline t p .link id)
          ∧ s.ChangesOnly t [.ports, .arbiter, .notices, .lease, .maintenance, .portCounters])
      ∧ ((s.port p).session ≠ .online → t.port p = d ∧ s.ChangesOnly t [.ports, .arbiter, .notices]))

/-- R118 to R121, R137: a frame on an UP link. A frame that fails its check is counted in FRAME_ERRORS and changes
nothing else of the port than the master's ledger; a request that finds fewer than 16 joins the tail; one that finds
16 is an overrun; and a request arrival restarts a keepalive timer that runs in ONLINE, counting the timeout in
force. The master's ledger is log 22, the model's own. -/
def Obligations.FrameArrivalJoinsOrIsDiscarded : Prop :=
  ∀ (s : State) (p : Port) (f : Frame), (s.port p).link = .up →
    ∃ t, exec (.frameArrival p f) s = .next t ∧ s.OtherPorts t p ∧ s.ChangesOnly t [.ports, .notices, .portCounters]
      ∧ (t.port p).masterCredits = (s.port p).masterCredits - 1
      ∧ (frameChecks f = false →
          t.port p = { s.port p with masterCredits := (s.port p).masterCredits - 1 }
          ∧ t.counter (.port p .frameErrors) = s.counter (.port p .frameErrors) + 1)
      ∧ (frameChecks f = true →
          ((s.port p).session = .online → (s.port p).keepaliveTimer ≠ none →
            (t.port p).keepaliveTimer = some (s.port p).keepaliveTimeout)
          ∧ ((s.port p).session ≠ .online ∨ (s.port p).keepaliveTimer = none →
            (t.port p).keepaliveTimer = (s.port p).keepaliveTimer)
          ∧ t.port p = { s.port p with
                masterCredits := (s.port p).masterCredits - 1, keepaliveTimer := (t.port p).keepaliveTimer,
                requestQueue := (t.port p).requestQueue, overrun := (t.port p).overrun }
          ∧ ((s.port p).requestQueue.length < 16 →
              (t.port p).requestQueue = (s.port p).requestQueue ++ [decodeRequest f]
              ∧ (t.port p).overrun = (s.port p).overrun ∧ s.ChangesOnly t [.ports])
          ∧ (16 ≤ (s.port p).requestQueue.length →
              (t.port p).requestQueue = (s.port p).requestQueue ∧ (t.port p).overrun = true
              ∧ t.counter (.port p .overruns) = s.counter (.port p .overruns) + 1))

/-- R123, R191: an IDLE executor with a queued request and a free response place takes the oldest request. -/
def Obligations.RequestTakeReservesAPlace : Prop :=
  ∀ (s : State) (p : Port) (rq : RequestFrame) (rest : List RequestFrame),
    (s.port p).executor = .idle → (s.port p).requestQueue = rq :: rest → (s.port p).responseQueue.length < 16 →
    ∃ t, exec (.requestTake p) s = .next t
      ∧ t.port p = { s.port p with
            requestQueue := rest, executor := .busy rq, creditReturn := (s.port p).creditReturn + 1,
            responseQueue := (s.port p).responseQueue ++ [.reserved] }
      ∧ s.OtherPorts t p ∧ t.counter (.port p .requests) = s.counter (.port p .requests) + 1
      ∧ s.ChangesOnly t [.ports, .arbiter, .notices, .portCounters]
      ∧ (s.grant ≠ none → t.grant = s.grant)

/-- R121, R122, R124 to R126: the life of a response's place. Writing a response makes the executor IDLE, turns the
RESERVED place into a WRITTEN one, frees a DISCARD place without sending, and leaves the WRITTEN places before it.
An idle transmitter on an UP link begins the oldest place's response, which carries the credit-return count and the
overrun flag; both are then reset. The end of a frame frees the transmitter, a response's place, and gives the
master its credits. The master's ledger is log 22, the model's own. -/
def Obligations.ResponsePlaceIsWrittenSentAndFreed : Prop :=
  (∀ (c : PortController) (sent : List Response) (r : Response),
    (c.responseQueue = sent.map .written ++ [.reserved] →
      c.answered r = { c with executor := .idle, responseQueue := (sent ++ [r]).map .written })
    ∧ (c.responseQueue = [.discard] → c.answered r = { c with executor := .idle, responseQueue := [] }))
  ∧ (∀ (s : State) (p : Port) (r : Response) (rest : List Place),
    (s.port p).link = .up → (s.port p).transmitter = none → (s.port p).responseQueue = .written r :: rest →
    ∃ t, exec (.responseTransmit p) s = .next t
      ∧ t.port p = { s.port p with
            transmitter := some (.response r (s.port p).creditReturn (s.port p).overrun), creditReturn := 0,
            overrun := false }
      ∧ s.OtherPorts t p ∧ s.ChangesOnly t [.ports])
  ∧ (∀ (s : State) (p : Port) (f : OutFrame), (s.port p).transmitter = some f →
    ∃ t, exec (.frameTransmitEnd p) s = .next t ∧ s.OtherPorts t p ∧ s.ChangesOnly t [.ports]
      ∧ (∀ r n o, f = .response r n o →
          t.port p = { s.port p with
              transmitter := none, responseQueue := (s.port p).responseQueue.tail,
              masterCredits := (s.port p).masterCredits + n })
      ∧ (∀ m n, f = .notice m n →
          t.port p = { s.port p with transmitter := none, masterCredits := (s.port p).masterCredits + n }))

/-- R164, R166, R167: the head notice begins transmission when the link is UP, the transmitter idle, no WRITTEN place at
the head and the window allows it. The notice leaves the queue, NOTICES_LOST takes the freed place at the tail if copies
were lost, the window count rises up to 63, the frame takes the credit-return count, and NOTICES_SENT counts it. The
queue may gain a COUNTER_HALF behind these, when NOTICES_SENT reaches half range. -/
def Obligations.NoticeTransmissionBegins : Prop :=
  ∀ (s : State) (p : Port) (n : Notice) (rest : List Notice),
    (s.port p).link = .up → (s.port p).transmitter = none → (∀ r l, (s.port p).responseQueue ≠ .written r :: l) →
    (s.noticePort p).queue = n :: rest →
    ((s.noticePort p).windowLimit = 0 ∨ (s.noticePort p).windowCount < (s.noticePort p).windowLimit) →
    ∃ t, exec (.noticeTransmit p) s = .next t
      ∧ t.port p = { s.port p with transmitter := some (.notice n (s.port p).creditReturn), creditReturn := 0 }
      ∧ s.OtherPorts t p ∧ t.counter (.port p .noticesSent) = s.counter (.port p .noticesSent) + 1
      ∧ (t.noticePort p).windowCount = min 63 ((s.noticePort p).windowCount + 1)
      ∧ (∃ l, (t.noticePort p).queue
          = rest ++ (if (s.noticePort p).lostCount = 0 then [] else [.noticesLost p (s.noticePort p).lostCount]) ++ l)
      ∧ (s.counter (.port p .noticesSent) + 1 ≠ halfRange →
          (t.noticePort p).queue
            = rest ++ (if (s.noticePort p).lostCount = 0 then [] else [.noticesLost p (s.noticePort p).lostCount])
          ∧ (t.noticePort p).lostCount = 0 ∧ ∀ q, q ≠ p → t.noticePort q = s.noticePort q)
      ∧ s.ChangesOnly t [.ports, .notices, .portCounters]

/-! ### Sessions -/

/-- R131, R40, R166: an ATTACH taken in OFFLINE, its link UP: ONLINE with the requested parameters, full credit, timers
started, the pacing window reset, PORT_STATE for the other subscribers, and OK with the port's number and credit. R132: an
ATTACH in ONLINE replaces the three parameters and restarts or stops the keepalive timer; it answers ALREADY and sends no
PORT_STATE. -/
def Obligations.AttachOpensOrRenewsTheSession : Prop :=
  (∀ (s : State) (p : Port) (rq : RequestFrame) (timeout pacing subs : Nat),
    s.AtOnce p rq → rq.body = .attach timeout pacing subs → (s.port p).session = .offline → (s.port p).link = .up →
    ∃ t, exec (.attach p) s = .next t ∧ s.OtherPorts t p
      ∧ t.port p = PortController.answered
          { s.port p with
            session := .online, keepaliveTimeout := timeout, pacingLimit := pacing,
            subscriptions := ⟨subs.testBit 0, subs.testBit 1, subs.testBit 2, subs.testBit 3, subs.testBit 4⟩,
            claimCredit := s.settings.creditCapacity, refillTimer := some s.settings.refillInterval,
            keepaliveTimer := if timeout = 0 then none else some timeout }
          ⟨rq.kind, rq.tag, .ok, .session p s.settings.creditCapacity⟩
      ∧ (t.noticePort p).windowCount = 0 ∧ (t.noticePort p).windowLimit = pacing
      ∧ (∀ q, q ≠ p → (s.port q).subscriptions.portState = true → s.Queues t q (.portState p .online .attach))
      ∧ s.ChangesOnly t [.ports, .arbiter, .notices, .portCounters])
  ∧ (∀ (s : State) (p : Port) (rq : RequestFrame) (timeout pacing subs : Nat),
    s.AtOnce p rq → rq.body = .attach timeout pacing subs → (s.port p).session = .online →
    ∃ t, exec (.attach p) s = .next t ∧ s.OtherPorts t p
      ∧ t.port p = PortController.answered
          { s.port p with
            keepaliveTimeout := timeout, pacingLimit := pacing,
            subscriptions := ⟨subs.testBit 0, subs.testBit 1, subs.testBit 2, subs.testBit 3, subs.testBit 4⟩,
            keepaliveTimer := if timeout = 0 then none else some timeout }
          ⟨rq.kind, rq.tag, .already, .session p (s.port p).claimCredit⟩
      ∧ s.ChangesOnly t [.ports, .arbiter])

/-- R134, R135, R137, R138, R143, R169: DETACH, EVICT by the lease holder of another ONLINE port, and the expiry of a
keepalive timer each take their port out of ONLINE with their cause; DETACH and EVICT answer OK with the ORPHAN job's
id. -/
def Obligations.PortLeavesOnline : Prop :=
  ∀ s : State, s.JobsLaw → s.maintenance.queue.length ≤ 8 →
    (∀ p rq, s.AtOnce p rq → rq.body = .detach →
      ∃ t id c, exec (.detach p) s = .next t ∧ s.LeftOnline t p .detach id ∧ (s.port p).Left c
        ∧ t.port p = c.answered ⟨rq.kind, rq.tag, .ok, .orphanJob id⟩ ∧ s.OtherPorts t p
        ∧ s.ChangesOnly t [.ports, .arbiter, .notices, .lease, .maintenance, .portCounters])
    ∧ (∀ p q rq, s.AtOnce p rq → rq.body = .evict (portCode q) → (s.port q).session = .online → q ≠ p →
      ∃ t id, exec (.evict p) s = .next t ∧ s.LeftOnline t q .evicted id ∧ (s.port q).Left (t.port q)
        ∧ t.port p = (s.port p).answered ⟨rq.kind, rq.tag, .ok, .evicted q id⟩
        ∧ (∀ r, r ≠ p → r ≠ q → t.port r = s.port r)
        ∧ s.ChangesOnly t [.ports, .arbiter, .notices, .lease, .maintenance, .portCounters])
    ∧ (∀ p, (s.port p).keepaliveTimer = some 0 →
      ∃ t id, exec (.keepaliveTimerExpiry p) s = .next t ∧ s.LeftOnline t p .keepalive id
        ∧ (s.port p).Left (t.port p) ∧ s.OtherPorts t p
        ∧ s.ChangesOnly t [.ports, .arbiter, .notices, .lease, .maintenance, .portCounters])

/-- R136: KEEPALIVE is answered OK in ONLINE and makes no change of its own. R128, R202: a frame whose kind names no request,
in ONLINE with READY high, is answered INVALID and counted in REFUSALS; it changes nothing else. -/
def Obligations.KeepaliveAndUnknownKindChangeNothing : Prop :=
  (∀ (s : State) (p : Port) (rq : RequestFrame), (s.port p).executor = .busy rq → rq.body = .keepalive →
    s.ready = true →
    ∃ t, exec (.keepalive p) s = .next t
      ∧ ((s.port p).session = .online → s.Answers t p rq .ok .none ∧ s.ChangesOnly t [.ports, .arbiter])
      ∧ ((s.port p).session = .offline → s.Answers t p rq .notAttached .none)
      ∧ ((s.port p).session = .draining → s.Answers t p rq .draining .none)
      ∧ s.ChangesOnly t [.ports, .arbiter, .notices, .portCounters])
  ∧ (∀ (s : State) (p : Port) (rq : RequestFrame), (s.port p).executor = .busy rq → rq.body = .unknown →
    s.ready = true → (s.port p).session = .online →
    ∃ t, exec (.unknownRequestKind p) s = .next t ∧ s.Answers t p rq .invalid .none
      ∧ t.counter (.port p .refusals) = s.counter (.port p .refusals) + 1
      ∧ s.ChangesOnly t [.ports, .arbiter, .notices, .portCounters])

/-! ### Bindings -/

/-- R27, R28: a RESOLVE hit describes the binding as it stands, with the four flags, and counts one RESOLVE_HITS; a hit
by the owner sets touched and zeroes idle. No other slot and no count of bindings changes. R29: a RESOLVE that misses
answers MISS when CLAIM_IF_ABSENT is clear or the domain's auto-claim is no, counts one RESOLVE_MISSES, and changes nothing
of the directory. -/
def Obligations.ResolveAnswersHitOrMiss : Prop :=
  (∀ (s : State) (p : Port) (v : View) (rq : RequestFrame) (failing : List Nat) (d : Nat) (k : Key) (cl : Bool)
    (h : Handle) (i : Nat) (b : Binding),
    s.InGrant p v rq → rq.body = .resolve d k cl h → (s.domain (asDomain d)).policy.enabled = true →
    s.directory.wf = true → s.Finds failing (asDomain d) k i b →
    ∃ t f, exec (.resolve p ⟨failing, none⟩) s = .next t ∧ s.Answers t p rq .ok (.hit i b.tenure b.cls b.handle f)
      ∧ (f.self = true ↔ b.tenure.owner = some p)
      ∧ (f.ownerLost = true ↔ ∃ o, b.tenure.owner = some o ∧ v.session.get o ≠ .online)
      ∧ (f.inTransfer = true ↔ b.tenure.state = .transfer) ∧ (f.orphaned = true ↔ b.tenure.state = .orphaned)
      ∧ t.slot i = .occupied (if b.tenure.owner = some p then { b with touched := true, idle := 0 } else b)
      ∧ s.OtherSlots t i ∧ s.SameCounts t
      ∧ t.counter (.port p .resolveHits) = s.counter (.port p .resolveHits) + 1
      ∧ s.ChangesOnly t [.directory, .arbiter, .ports, .notices, .portCounters])
  ∧ (∀ (s : State) (p : Port) (v : View) (rq : RequestFrame) (failing : List Nat) (d : Nat) (k : Key) (cl : Bool)
    (h : Handle),
    s.InGrant p v rq → rq.body = .resolve d k cl h → (s.domain (asDomain d)).policy.enabled = true →
    s.Misses failing (asDomain d) k → (cl = true → (s.domain (asDomain d)).policy.autoClaim = false) →
    ∃ t, exec (.resolve p ⟨failing, none⟩) s = .next t ∧ s.Answers t p rq .miss .none
      ∧ t.counter (.port p .resolveMisses) = s.counter (.port p .resolveMisses) + 1
      ∧ s.ChangesOnly t [.arbiter, .ports, .notices, .portCounters])

/-- R7, R12, R30, R37, R43, R192: a creation, by CLAIM or by a RESOLVE going on as a claim in an auto-claim domain:
the new binding stands in the lowest FREE way, owned_count and count[d] rise by 1, the credit falls by 1, and CLAIMS
counts it. CLAIM answers OK and RESOLVE answers CLAIMED. The credit check uses the credit at the start of the grant
(log 9). -/
def Obligations.ClaimCreates : Prop :=
  ∀ (s : State) (p : Port) (v : View) (rq : RequestFrame) (failing : List Nat) (d : Nat) (k : Key) (h : Handle)
    (pin : Bool) (i : Nat),
    s.InGrant p v rq → s.ClaimAllowed p (asDomain d) pin → s.directory.wf = true → s.Misses failing (asDomain d) k →
    (s.domain (asDomain d)).count < (s.domain (asDomain d)).policy.cap → s.MayOwn v p →
    s.LowestFree (asDomain d) k i →
    ∀ c st, (∃ force, rq.body = .claim d k h pin force ∧ c = .claim p ⟨failing, none⟩ ∧ st = .ok)
        ∨ (rq.body = .resolve d k true h ∧ (s.domain (asDomain d)).policy.autoClaim = true ∧ pin = false
            ∧ c = .resolve p ⟨failing, none⟩ ∧ st = .claimed) →
      ∃ t, exec c s = .next t
        ∧ t.slot i = .occupied ⟨asDomain d, k, .bound p, h, if pin then .pinned else .leased, true, 0⟩
        ∧ s.OtherSlots t i
        ∧ t.port p = PortController.answered { s.port p with claimCredit := (s.port p).claimCredit - 1 }
            ⟨rq.kind, rq.tag, st, .claimed i p (if pin then .pinned else .leased) h⟩
        ∧ s.OtherPorts t p
        ∧ (∀ q, t.owned q = if q = p then s.owned q + 1 else s.owned q)
        ∧ t.directory.orphanTotal = s.directory.orphanTotal
        ∧ s.DomainCounts t (asDomain d) ((s.domain (asDomain d)).count + 1) (s.domain (asDomain d)).orphans
        ∧ t.counter (.port p .claims) = s.counter (.port p .claims) + 1
        ∧ s.ChangesOnly t [.directory, .arbiter, .domains, .ports, .notices, .portCounters]

/-- R32: a refresh by the owner of a BOUND binding: the handle is replaced, touched set, idle zeroed, the class PINNED if
PIN is set and otherwise kept; ALREADY, with no quota, cap or credit check, no count and no notice. -/
def Obligations.ClaimRefreshes : Prop :=
  ∀ (s : State) (p : Port) (v : View) (rq : RequestFrame) (failing : List Nat) (d : Nat) (k : Key) (h : Handle)
    (pin force : Bool) (i : Nat) (b : Binding),
    s.InGrant p v rq → rq.body = .claim d k h pin force → s.ClaimAllowed p (asDomain d) pin →
    s.directory.wf = true → s.Finds failing (asDomain d) k i b → b.tenure = .bound p →
    ∃ t, exec (.claim p ⟨failing, none⟩) s = .next t
      ∧ t.slot i = .occupied { b with
          handle := h, touched := true, idle := 0, cls := if pin then .pinned else b.cls }
      ∧ s.OtherSlots t i ∧ s.SameCounts t
      ∧ s.Answers t p rq .already (.claimed i p (if pin then .pinned else b.cls) h)
      ∧ s.ChangesOnly t [.directory, .arbiter, .ports]

/-- R12, R35: a preempt of a live binding of `o` by a forced claim of a port in the preempt set with quota and credit:
the binding moves, owned_count of `o` falls and of `p` rises, the credit falls, PREEMPTED is queued for `o`, and CLAIMS
counts it. The credit check uses the credit at the start of the grant, which is log 9, the model's choice. -/
def Obligations.ClaimPreempts : Prop :=
  ∀ (s : State) (p o : Port) (v : View) (rq : RequestFrame) (failing : List Nat) (d : Nat) (k : Key) (h : Handle)
    (pin : Bool) (i : Nat) (b : Binding),
    s.InGrant p v rq → rq.body = .claim d k h pin true → s.ClaimAllowed p (asDomain d) pin →
    s.directory.wf = true → s.Finds failing (asDomain d) k i b → b.tenure = .bound o → o ≠ p →
    v.session.get o = .online → (s.domain (asDomain d)).policy.preemptSet.get p = true → s.MayOwn v p →
    ∃ t, exec (.claim p ⟨failing, none⟩) s = .next t
      ∧ t.slot i = .occupied { b with
          tenure := .bound p, handle := h, touched := true, idle := 0, cls := if pin then .pinned else b.cls }
      ∧ s.OtherSlots t i
      ∧ t.port p = PortController.answered { s.port p with claimCredit := (s.port p).claimCredit - 1 }
          ⟨rq.kind, rq.tag, .ok, .claimed i p (if pin then .pinned else b.cls) h⟩
      ∧ s.OtherPorts t p
      ∧ (∀ q, t.owned q = if q = p then s.owned q + 1 else if q = o then s.owned q - 1 else s.owned q)
      ∧ t.directory.orphanTotal = s.directory.orphanTotal
      ∧ s.Queues t o (.preempted b.domain b.key p b.handle i)
      ∧ t.counter (.port p .claims) = s.counter (.port p .claims) + 1
      ∧ s.ChangesOnly t [.directory, .arbiter, .ports, .notices, .portCounters]

/-- R12, R36: an adoption of a binding that is orphaned in effect (R9), with or without FORCE: BOUND with the requester,
the counts by the state the binding had, the credit falls, CLAIMS counts it. The credit check uses the credit at the
start of the grant, which is log 9, the model's choice. -/
def Obligations.ClaimAdopts : Prop :=
  ∀ (s : State) (p : Port) (v : View) (rq : RequestFrame) (failing : List Nat) (d : Nat) (k : Key) (h : Handle)
    (pin force : Bool) (i : Nat) (b : Binding),
    s.InGrant p v rq → rq.body = .claim d k h pin force → s.ClaimAllowed p (asDomain d) pin →
    s.directory.wf = true → s.Finds failing (asDomain d) k i b →
    (b.tenure = .orphaned ∨ ∃ o, b.tenure = .bound o ∧ o ≠ p ∧ v.session.get o ≠ .online) → s.MayOwn v p →
    ∃ t, exec (.claim p ⟨failing, none⟩) s = .next t
      ∧ t.slot i = .occupied { b with
          tenure := .bound p, handle := h, touched := true, idle := 0, cls := if pin then .pinned else b.cls }
      ∧ s.OtherSlots t i
      ∧ t.port p = PortController.answered { s.port p with claimCredit := (s.port p).claimCredit - 1 }
          ⟨rq.kind, rq.tag, .ok, .claimed i p (if pin then .pinned else b.cls) h⟩
      ∧ s.OtherPorts t p
      ∧ (∀ o, b.tenure = .bound o →
          (∀ q, t.owned q = if q = p then s.owned q + 1 else if q = o then s.owned q - 1 else s.owned q)
          ∧ t.directory.orphanTotal = s.directory.orphanTotal ∧ t.domains = s.domains)
      ∧ (b.tenure = .orphaned →
          (∀ q, t.owned q = if q = p then s.owned q + 1 else s.owned q)
          ∧ t.directory.orphanTotal = s.directory.orphanTotal - 1
          ∧ s.DomainCounts t (asDomain d) (s.domain (asDomain d)).count ((s.domain (asDomain d)).orphans - 1))
      ∧ t.counter (.port p .claims) = s.counter (.port p .claims) + 1
      ∧ s.ChangesOnly t [.directory, .arbiter, .domains, .ports, .notices, .portCounters]

/-- R25, R31, R33 to R38, R43, R62: the refusals of a claim, made by CLAIM or by a RESOLVE that misses and goes on as a
claim in an auto-claim domain (R30): CLOSED and NOT_MEMBER by the claim policy, NOT_PERMITTED for a PIN outside the pin
set, BUSY for a binding in TRANSFER whatever the flags, OWNED with the owner for a live binding that is not preempted, CAP
and FULL of a creation, and QUOTA and THROTTLED, in that order, of a creation, a preempt and an adoption. DOMAIN_OFF is the
answer to every request of R25 in a domain that is not enabled. Each is counted in REFUSALS, THROTTLED in its own counter
too, the miss of the RESOLVE in RESOLVE_MISSES, and the directory, the domains, the transfers and the credit stay as they
were. The credit checked is the one at the start of the grant, which is log 9, the model's choice. -/
def Obligations.ClaimRefusals : Prop :=
  (∀ (s : State) (p : Port) (v : View) (rq : RequestFrame) (failing : List Nat) (d : Nat) (k : Key) (h : Handle)
    (pin force : Bool) (c : Instr) (st : Status) (res : Result),
    s.InGrant p v rq → (s.domain (asDomain d)).policy.enabled = true →
    (rq.body = .claim d k h pin force ∧ c = .claim p ⟨failing, none⟩)
      ∨ (rq.body = .resolve d k true h ∧ pin = false ∧ force = false ∧ s.Misses failing (asDomain d) k
          ∧ (s.domain (asDomain d)).policy.autoClaim = true ∧ c = .resolve p ⟨failing, none⟩) →
    s.ClaimRefused p v failing (asDomain d) k pin force st res →
    ∃ t, exec c s = .next t ∧ s.Answers t p rq st res
      ∧ t.counter (.port p .refusals) = s.counter (.port p .refusals) + 1
      ∧ t.counter (.port p .throttled)
          = (if st = .throttled then s.counter (.port p .throttled) + 1 else s.counter (.port p .throttled))
      ∧ t.counter (.port p .resolveMisses)
          = (if c = .resolve p ⟨failing, none⟩ then s.counter (.port p .resolveMisses) + 1
              else s.counter (.port p .resolveMisses))
      ∧ s.ChangesOnly t [.arbiter, .ports, .notices, .portCounters])
  ∧ (∀ (s : State) (p : Port) (v : View) (rq : RequestFrame) (failing : List Nat) (d : Nat) (k : Key),
    s.InGrant p v rq → (s.domain (asDomain d)).policy.enabled = false →
    (∃ cl h, rq.body = .resolve d k cl h) ∨ (∃ h pin force, rq.body = .claim d k h pin force) ∨ rq.body = .release d k
      ∨ rq.body = .touch d k ∨ (∃ h, rq.body = .handoverAsk d k h) →
    ∃ t, exec (rq.body.row p ⟨failing, none⟩) s = .next t ∧ s.Answers t p rq .domainOff .none
      ∧ t.counter (.port p .refusals) = s.counter (.port p .refusals) + 1
      ∧ s.ChangesOnly t [.arbiter, .ports, .notices, .portCounters])

/-- R8, R12, R44: RELEASE of the requester's own BOUND binding removes it; BINDING_GONE goes to subscribers. A binding of
another port, or an ORPHANED one, is answered NOT_OWNER and left; an identifier with no binding is answered MISS. -/
def Obligations.ReleaseRemovesOwnBinding : Prop :=
  ∀ (s : State) (p : Port) (v : View) (rq : RequestFrame) (failing : List Nat) (d : Nat) (k : Key),
    s.InGrant p v rq → rq.body = .release d k → (s.domain (asDomain d)).policy.enabled = true →
    s.directory.wf = true →
    (∀ i b, s.Finds failing (asDomain d) k i b → b.tenure = .bound p →
      ∃ t, exec (.release p ⟨failing, none⟩) s = .next t ∧ s.Answers t p rq .ok (.slot i)
        ∧ t.slot i = .free ∧ s.OtherSlots t i
        ∧ (∀ q, t.owned q = if q = p then s.owned q - 1 else s.owned q)
        ∧ t.directory.orphanTotal = s.directory.orphanTotal
        ∧ s.DomainCounts t (asDomain d) ((s.domain (asDomain d)).count - 1) (s.domain (asDomain d)).orphans
        ∧ s.QueuesForSubscribers t .bindingGone (.bindingGone .released b.domain b.key (some p) b.handle i)
        ∧ s.ChangesOnly t [.directory, .arbiter, .domains, .ports, .notices, .portCounters])
    ∧ (∀ i b, s.Finds failing (asDomain d) k i b → b.tenure.owner ≠ some p →
      ∃ t, exec (.release p ⟨failing, none⟩) s = .next t ∧ s.Answers t p rq .notOwner .none
        ∧ t.counter (.port p .refusals) = s.counter (.port p .refusals) + 1
        ∧ s.ChangesOnly t [.arbiter, .ports, .notices, .portCounters])
    ∧ (s.Misses failing (asDomain d) k →
      ∃ t, exec (.release p ⟨failing, none⟩) s = .next t ∧ s.Answers t p rq .miss .none
        ∧ s.ChangesOnly t [.arbiter, .ports])

/-- R45, R46, R73, R74: RELEASE by the giver of a binding in TRANSFER. With the taker ONLINE and below its quota the
binding is granted to it with outcome GRANTED and answered HANDED; otherwise the binding is removed, the transfer ends
with TAKER_GONE or QUOTA, and the answer is OK. -/
def Obligations.ReleaseSettlesTransfer : Prop :=
  ∀ (s : State) (p : Port) (v : View) (rq : RequestFrame) (failing : List Nat) (d : Nat) (k : Key) (i : Nat)
    (b : Binding) (x : TransferIndex) (e : Transfer),
    s.InGrant p v rq → rq.body = .release d k → (s.domain (asDomain d)).policy.enabled = true →
    s.directory.wf = true → s.Finds failing (asDomain d) k i b → b.tenure = .transfer p x → s.entry x = some e →
    e.giver = p → e.taker ≠ p →
    ∃ t, exec (.release p ⟨failing, none⟩) s = .next t ∧ s.OtherSlots t i ∧ s.OtherPorts t p
      ∧ t.entry x = none ∧ (∀ y, y ≠ x → t.entry y = s.entry y) ∧ x ∉ t.transfers.expiryList
      ∧ s.ChangesOnly t [.directory, .arbiter, .domains, .transfers, .ports, .notices, .portCounters, .deviceCounters]
      ∧ (v.session.get e.taker = .online → s.owned e.taker < s.settings.quota.get e.taker →
          t.slot i = .occupied { b with tenure := .bound e.taker, handle := e.handle, touched := true, idle := 0 }
          ∧ s.Answers t p rq .handed (.handed i e.taker)
          ∧ (∀ q, t.owned q = if q = e.taker then s.owned q + 1 else if q = p then s.owned q - 1 else s.owned q)
          ∧ t.domains = s.domains
          ∧ t.counter (.device .transfersGranted) = s.counter (.device .transfersGranted) + 1
          ∧ s.Queues t p (.transferDone .granted b.domain b.key e.taker e.handle x e.tag)
          ∧ s.Queues t e.taker (.transferDone .granted b.domain b.key p e.handle x e.tag))
      ∧ (v.session.get e.taker ≠ .online ∨ s.settings.quota.get e.taker ≤ s.owned e.taker →
          t.slot i = .free ∧ s.Answers t p rq .ok (.slot i)
          ∧ (∀ q, t.owned q = if q = p then s.owned q - 1 else s.owned q)
          ∧ s.DomainCounts t (asDomain d) ((s.domain (asDomain d)).count - 1) (s.domain (asDomain d)).orphans
          ∧ t.counter (.device .transfersEnded) = s.counter (.device .transfersEnded) + 1
          ∧ s.Queues t p (.transferDone
              (if v.session.get e.taker = .online then .quota else .takerGone) b.domain b.key e.taker e.handle x e.tag))

/-- R47: TOUCH by the owner sets touched and zeroes idle, and answers OK with the slot; a binding of another port, or an
ORPHANED one, answers NOT_OWNER; a miss answers MISS. -/
def Obligations.TouchMarksOwnBinding : Prop :=
  ∀ (s : State) (p : Port) (v : View) (rq : RequestFrame) (failing : List Nat) (d : Nat) (k : Key),
    s.InGrant p v rq → rq.body = .touch d k → (s.domain (asDomain d)).policy.enabled = true → s.directory.wf = true →
    (∀ i b, s.Finds failing (asDomain d) k i b → b.tenure.owner = some p →
      ∃ t, exec (.touch p ⟨failing, none⟩) s = .next t ∧ s.Answers t p rq .ok (.slot i)
        ∧ t.slot i = .occupied { b with touched := true, idle := 0 } ∧ s.OtherSlots t i ∧ s.SameCounts t
        ∧ s.ChangesOnly t [.directory, .arbiter, .ports])
    ∧ (∀ i b, s.Finds failing (asDomain d) k i b → b.tenure.owner ≠ some p →
      ∃ t, exec (.touch p ⟨failing, none⟩) s = .next t ∧ s.Answers t p rq .notOwner .none
        ∧ s.ChangesOnly t [.arbiter, .ports, .notices, .portCounters])
    ∧ (s.Misses failing (asDomain d) k →
      ∃ t, exec (.touch p ⟨failing, none⟩) s = .next t ∧ s.Answers t p rq .miss .none ∧ s.ChangesOnly t [.arbiter, .ports])

/-- R48: READ_SLOT of a slot that passes its check, or that is DEFECTIVE, reports it as it stands and changes nothing. -/
def Obligations.ReadSlotReports : Prop :=
  ∀ (s : State) (p : Port) (v : View) (rq : RequestFrame) (failing : List Nat) (i : Nat),
    s.InGrant p v rq → rq.body = .readSlot i → (i ∉ failing ∨ s.slot i = .defective) →
    ∃ t, exec (.readSlot p ⟨failing, none⟩) s = .next t ∧ s.Answers t p rq .ok (.slotRecord i (s.slot i))
      ∧ s.ChangesOnly t [.arbiter, .ports]

/-- R12, R18 to R21: a slot that fails its check, wherever it is read. READ_SLOT of a FREE or OCCUPIED slot reports it
DEFECTIVE (R48). An operation that meets a failed slot in a lookup, an insertion or a scan goes on, also past further
failed slots, as if the slot had been DEFECTIVE from the start of its grant, from a state `u` in which the effects of
R19 stand; so RESOLVE, RELEASE, TOUCH and HANDOVER_ASK of a binding that is lost answer MISS. A HANDOVER_REPLY answers
INVALID (R82), and an expiry resolution ends with no further effect (R86). A SWEEP, PURGE or ORPHAN bucket goes on with
the other ways and does not count the lost binding (R97), as from `u` but for the order of notices; an ORPHAN bucket is
left out where the lost binding's owner, another port, has no room for eight bindings more (log 18), and a RESOLVE that
inserts where its miss takes the count to half range (log 17). Which slots fail is an operand (log 5). -/
def Obligations.SlotCheckFailureLosesBinding : Prop :=
  ∀ (s : State) (failing : List Nat) (i : Nat), s.directory.wf = true → i ∈ failing →
    (∀ p v rq, s.InGrant p v rq → rq.body = .readSlot i → ((∃ b, s.slot i = .occupied b) ∨ s.slot i = .free) →
      ∃ t, exec (.readSlot p ⟨failing, none⟩) s = .next t ∧ s.Answers t p rq .ok (.slotRecord i .defective)
        ∧ s.LosesSlot t i
        ∧ s.ChangesOnly t
            [.directory, .arbiter, .domains, .transfers, .ports, .notices, .portCounters, .deviceCounters])
    ∧ (∀ p v rq, s.InGrant p v rq → s.ReadsFailing p v failing i rq.body →
      ∃ u, s.LosesSlot u i ∧ u.directory.wf = true
        ∧ s.ChangesOnly u [.directory, .domains, .transfers, .notices, .portCounters, .deviceCounters]
        ∧ exec (rq.body.row p ⟨failing, none⟩) s = exec (rq.body.row p ⟨failing, none⟩) u)
    ∧ (∀ p v rq d k b, s.InGrant p v rq → s.LooksUp p d k rq.body → (∀ n h pin force, rq.body ≠ .claim n k h pin force) →
        (∀ n h, rq.body = .resolve n k true h → (s.domain d).policy.autoClaim = false) → i ∈ s.slotsOf d k →
        s.slot i = .occupied b → b.Holds d k →
        (∀ j ∈ s.slotsOf d k, j ≠ i → j ∉ failing ∧ ∀ c, s.slot j = .occupied c → ¬ c.Holds d k) →
      ∃ t, exec (rq.body.row p ⟨failing, none⟩) s = .next t ∧ s.Answers t p rq .miss .none ∧ s.LosesSlot t i
        ∧ s.ChangesOnly t
            [.directory, .arbiter, .domains, .transfers, .ports, .notices, .portCounters, .deviceCounters])
    ∧ (∀ p v rq x decision e b, s.InGrant p v rq → rq.body = .handoverReply x decision → decision = 1 ∨ decision = 2 →
        s.entry (asIndex x) = some e → e.giver = p → e.slot = i → s.slot i = .occupied b →
      ∃ t, exec (rq.body.row p ⟨failing, none⟩) s = .next t ∧ s.Answers t p rq .invalid .none ∧ s.LosesSlot t i
        ∧ t.counter (.port p .refusals) = s.counter (.port p .refusals) + 1
        ∧ s.ChangesOnly t
            [.directory, .arbiter, .domains, .transfers, .ports, .notices, .portCounters, .deviceCounters])
    ∧ (∀ v x rest e b, s.grant = some (.fresh .transferController v) → s.transfers.expiryList = x :: rest →
        s.entry x = some e → e.slot = i → s.slot i = .occupied b →
      ∃ t, exec (.expiryResolution ⟨failing, none⟩) s = .next t ∧ s.LosesSlot t i
        ∧ s.ChangesOnly t [.directory, .arbiter, .domains, .transfers, .notices, .portCounters, .deviceCounters])
    ∧ (∀ v j rest b, s.InBucket v j rest → s.DirectoryLaw → j.work ≠ .clear → i ∈ bucketSlots j.cursor →
        s.slot i = .occupied b →
        (∀ p c q, j.work = .orphan p c → b.tenure.owner = some q → q = p ∨ s.owned q + 8 ≤ s.settings.quota.get q) →
      ∃ u t w, s.LosesSlot u i ∧ u.directory.wf = true
        ∧ s.ChangesOnly u [.directory, .domains, .transfers, .notices, .portCounters, .deviceCounters]
        ∧ exec (j.row ⟨failing, none⟩) s = .next t ∧ exec (j.row ⟨failing, none⟩) u = .next w
        ∧ w.ChangesOnly t [.notices, .portCounters] ∧ s.TellsSlotFault t i)

/-- R49 to R51: SCAN_NEXT over slots that pass their checks reports the first OCCUPIED slot of the rest of its window
that matches the filter, as READ_SLOT reports it (that it carries the slot state too is log 28, the model's choice), or
CONTINUE with the next window's start, or END in window 255; it changes nothing. -/
def Obligations.ScanReportsFirstMatch : Prop :=
  ∀ (s : State) (p : Port) (v : View) (rq : RequestFrame) (failing : List Nat) (start fd fo fs : Nat)
    (f : ScanFilter),
    s.InGrant p v rq → rq.body = .scanNext start fd fo fs → scanFilterOf fd fo fs = some f →
    (∀ j, start ≤ j → j ≤ 64 * (start / 64) + 63 → j ∉ failing) →
    (∀ i b, start ≤ i → i ≤ 64 * (start / 64) + 63 → s.slot i = .occupied b → f.matches b = true →
        (∀ j c, start ≤ j → j < i → s.slot j = .occupied c → f.matches c = false) →
      ∃ t, exec (.scanNext p ⟨failing, none⟩) s = .next t ∧ s.Answers t p rq .ok (.slotRecord i (.occupied b))
        ∧ s.ChangesOnly t [.arbiter, .ports])
    ∧ ((∀ j c, start ≤ j → j ≤ 64 * (start / 64) + 63 → s.slot j = .occupied c → f.matches c = false) →
      ∃ t, exec (.scanNext p ⟨failing, none⟩) s = .next t ∧ s.ChangesOnly t [.arbiter, .ports]
        ∧ (start / 64 < 255 → s.Answers t p rq .continueScan (.nextStart (64 * (start / 64) + 64)))
        ∧ (start / 64 = 255 → s.Answers t p rq .endOfScan .none))

/-! ### Handover -/

/-- R70, R71, R77 to R79: a HANDOVER_ASK that passes its checks takes the first FREE entry after the last allocated one,
puts the binding in TRANSFER, moves no count, answers PENDING, and queues TRANSFER_OFFER for the giver. One that fails a
check of R77's table is answered with its status, the first in the order of the table, and changes nothing of the
directory, the domains and the transfers: MISS, ALREADY with the requester's own slot and handle, BUSY for a binding in
TRANSFER, ORPHANED for one that is orphaned in effect, CLOSED or NOT_MEMBER, QUOTA, and BUSY where no entry is FREE. -/
def Obligations.HandoverAskCreatesTransfer : Prop :=
  (∀ (s : State) (p g : Port) (v : View) (rq : RequestFrame) (failing : List Nat) (d : Nat) (k : Key) (h : Handle)
    (i : Nat) (b : Binding) (m : Nat) (x : TransferIndex),
    s.InGrant p v rq → rq.body = .handoverAsk d k h → (s.domain (asDomain d)).policy.enabled = true →
    (s.domain (asDomain d)).policy.Allows p → s.directory.wf = true → s.Finds failing (asDomain d) k i b →
    b.tenure = .bound g → g ≠ p → v.session.get g = .online → s.owned p < s.settings.quota.get p →
    m < 32 → x.val = (s.transfers.lastAllocated.val + 1 + m) % 32 → s.entry x = none →
    (∀ n y, n < m → y.val = (s.transfers.lastAllocated.val + 1 + n) % 32 → s.entry y ≠ none) →
    ∃ t, exec (.handoverAsk p ⟨failing, none⟩) s = .next t ∧ s.Answers t p rq .pending (.offered i x g)
      ∧ t.slot i = .occupied { b with tenure := .transfer g x } ∧ s.OtherSlots t i ∧ s.SameCounts t
      ∧ t.entry x = some ⟨.pending, i, g, p, s.settings.transferTimeout, rq.tag, h⟩
      ∧ (∀ y, y ≠ x → t.entry y = s.entry y) ∧ t.transfers.lastAllocated = x
      ∧ t.transfers.expiryList = s.transfers.expiryList
      ∧ s.Queues t g (.transferOffer b.domain b.key p h x rq.tag)
      ∧ s.ChangesOnly t [.directory, .arbiter, .transfers, .ports, .notices, .portCounters])
  ∧ (∀ (s : State) (p : Port) (v : View) (rq : RequestFrame) (failing : List Nat) (d : Nat) (k : Key) (h : Handle),
    s.InGrant p v rq → rq.body = .handoverAsk d k h → (s.domain (asDomain d)).policy.enabled = true →
    ∀ st res,
      (s.Misses failing (asDomain d) k ∧ st = .miss ∧ res = .none)
      ∨ (∃ i b, s.Finds failing (asDomain d) k i b
          ∧ ((b.tenure.owner = some p ∧ st = .already ∧ res = .ownSlot i b.handle)
            ∨ (∃ g x, b.tenure = .transfer g x ∧ g ≠ p ∧ st = .busy ∧ res = .none)
            ∨ (b.tenure = .orphaned ∧ st = .orphaned ∧ res = .none)
            ∨ ∃ g, b.tenure = .bound g ∧ g ≠ p
                ∧ ((v.session.get g ≠ .online ∧ st = .orphaned ∧ res = .none)
                  ∨ (v.session.get g = .online ∧ (s.domain (asDomain d)).policy.claimPolicy = .closed
                      ∧ st = .closed ∧ res = .none)
                  ∨ (v.session.get g = .online ∧ (s.domain (asDomain d)).policy.claimPolicy = .members
                      ∧ (s.domain (asDomain d)).policy.memberSet.get p = false ∧ st = .notMember ∧ res = .none)
                  ∨ (v.session.get g = .online ∧ (s.domain (asDomain d)).policy.Allows p
                      ∧ s.settings.quota.get p ≤ s.owned p ∧ st = .quota ∧ res = .none)
                  ∨ (v.session.get g = .online ∧ (s.domain (asDomain d)).policy.Allows p
                      ∧ s.owned p < s.settings.quota.get p ∧ (∀ x, s.entry x ≠ none) ∧ st = .busy ∧ res = .none)))) →
      ∃ t, exec (.handoverAsk p ⟨failing, none⟩) s = .next t ∧ s.Answers t p rq st res
        ∧ t.counter (.port p .refusals)
            = (if st = .miss ∨ st = .already then s.counter (.port p .refusals)
                else s.counter (.port p .refusals) + 1)
        ∧ s.ChangesOnly t [.arbiter, .ports, .notices, .portCounters])

/-- R73, R74, R75, R83: the giver's HANDOVER_REPLY GRANT, by the taker's session state at the start of the grant and its
quota: granted with OK, or returned to the giver with CANCELLED and outcome TAKER_GONE or QUOTA. -/
def Obligations.HandoverReplyGrantSettles : Prop :=
  ∀ (s : State) (p : Port) (v : View) (rq : RequestFrame) (failing : List Nat) (x : TransferIndex) (e : Transfer)
    (b : Binding),
    s.InGrant p v rq → rq.body = .handoverReply x.val 1 → s.entry x = some e → e.giver = p → e.taker ≠ p →
    s.slot e.slot = .occupied b → e.slot ∉ failing → s.directory.wf = true →
    ∃ t, exec (.handoverReplyGrant p ⟨failing, none⟩) s = .next t ∧ s.OtherSlots t e.slot
      ∧ t.entry x = none ∧ (∀ y, y ≠ x → t.entry y = s.entry y) ∧ x ∉ t.transfers.expiryList ∧ t.domains = s.domains
      ∧ s.ChangesOnly t [.directory, .arbiter, .transfers, .ports, .notices, .portCounters, .deviceCounters]
      ∧ (v.session.get e.taker = .online → s.owned e.taker < s.settings.quota.get e.taker →
          t.slot e.slot = .occupied { b with
              tenure := .bound e.taker, handle := e.handle, touched := true, idle := 0 }
          ∧ s.Answers t p rq .ok (.replied e.slot x e.taker .granted)
          ∧ (∀ q, t.owned q = if q = e.taker then s.owned q + 1 else if q = p then s.owned q - 1 else s.owned q)
          ∧ t.counter (.device .transfersGranted) = s.counter (.device .transfersGranted) + 1
          ∧ s.Queues t p (.transferDone .granted b.domain b.key e.taker e.handle x e.tag)
          ∧ s.Queues t e.taker (.transferDone .granted b.domain b.key p e.handle x e.tag))
      ∧ (v.session.get e.taker ≠ .online ∨ s.settings.quota.get e.taker ≤ s.owned e.taker →
          t.slot e.slot = .occupied { b with tenure := .bound p }
          ∧ s.Answers t p rq .cancelled
              (.replied e.slot x p (if v.session.get e.taker = .online then .quota else .takerGone))
          ∧ (∀ q, t.owned q = s.owned q)
          ∧ t.counter (.device .transfersEnded) = s.counter (.device .transfersEnded) + 1)

/-- R73, R75, R84: the giver's HANDOVER_REPLY REFUSE returns the binding, whatever the taker's state and quota. The owner
after is the giver (log 14). R82: a reply of another port answers NOT_OWNER and a FREE entry INVALID, for both
decisions. -/
def Obligations.HandoverReplyRefuseReturns : Prop :=
  ∀ (s : State) (p : Port) (v : View) (rq : RequestFrame) (failing : List Nat) (x : TransferIndex),
    s.InGrant p v rq → s.directory.wf = true →
    (∀ e b, rq.body = .handoverReply x.val 2 → s.entry x = some e → e.giver = p → s.slot e.slot = .occupied b →
        e.slot ∉ failing →
      ∃ t, exec (.handoverReplyRefuse p ⟨failing, none⟩) s = .next t ∧ s.OtherSlots t e.slot
        ∧ t.slot e.slot = .occupied { b with tenure := .bound p }
        ∧ s.Answers t p rq .ok (.replied e.slot x p .refused)
        ∧ t.entry x = none ∧ (∀ y, y ≠ x → t.entry y = s.entry y) ∧ x ∉ t.transfers.expiryList ∧ s.SameCounts t
        ∧ s.Queues t p (.transferDone .refused b.domain b.key e.taker e.handle x e.tag)
        ∧ (e.taker ≠ p → s.Queues t e.taker (.transferDone .refused b.domain b.key p e.handle x e.tag))
        ∧ t.counter (.device .transfersEnded) = s.counter (.device .transfersEnded) + 1
        ∧ s.ChangesOnly t [.directory, .arbiter, .transfers, .ports, .notices, .portCounters, .deviceCounters])
    ∧ (∀ c, (rq.body = .handoverReply x.val 2 ∧ c = .handoverReplyRefuse p ⟨failing, none⟩)
          ∨ (rq.body = .handoverReply x.val 1 ∧ c = .handoverReplyGrant p ⟨failing, none⟩) →
        (∀ e, s.entry x = some e → e.giver ≠ p →
          ∃ t, exec c s = .next t ∧ s.Answers t p rq .notOwner .none
            ∧ s.ChangesOnly t [.arbiter, .ports, .notices, .portCounters])
        ∧ (s.entry x = none →
          ∃ t, exec c s = .next t ∧ s.Answers t p rq .invalid .none
            ∧ s.ChangesOnly t [.arbiter, .ports, .notices, .portCounters]))

/-- R72, R73, R86: the resolution of the EXPIRED entry at the head of the expiry list, by the table of R86. -/
def Obligations.ExpiryResolutionSettles : Prop :=
  ∀ (s : State) (v : View) (failing : List Nat) (x : TransferIndex) (rest : List TransferIndex) (e : Transfer)
    (b : Binding),
    s.grant = some (.fresh .transferController v) → s.transfers.expiryList = x :: rest → s.entry x = some e →
    s.slot e.slot = .occupied b → e.slot ∉ failing → s.directory.wf = true → e.giver ≠ e.taker →
    ∃ t, exec (.expiryResolution ⟨failing, none⟩) s = .next t ∧ s.OtherSlots t e.slot
      ∧ t.entry x = none ∧ (∀ y, y ≠ x → t.entry y = s.entry y) ∧ x ∉ t.transfers.expiryList
      ∧ s.ChangesOnly t [.directory, .arbiter, .transfers, .notices, .portCounters, .deviceCounters]
      ∧ (∀ o granted,
          ((v.session.get e.giver = .online ∧ o = .timeout ∧ granted = false)
            ∨ (v.session.get e.giver ≠ .online ∧ v.session.get e.taker ≠ .online ∧ o = .takerGone ∧ granted = false)
            ∨ (v.session.get e.giver ≠ .online ∧ v.session.get e.taker = .online
                ∧ s.settings.quota.get e.taker ≤ s.owned e.taker ∧ o = .quota ∧ granted = false)
            ∨ (v.session.get e.giver ≠ .online ∧ v.session.get e.taker = .online
                ∧ s.owned e.taker < s.settings.quota.get e.taker ∧ o = .giverGone ∧ granted = true)) →
          s.Queues t e.giver (.transferDone o b.domain b.key e.taker e.handle x e.tag)
          ∧ s.Queues t e.taker (.transferDone o b.domain b.key e.giver e.handle x e.tag)
          ∧ (granted = true →
              t.slot e.slot = .occupied { b with
                  tenure := .bound e.taker, handle := e.handle, touched := true, idle := 0 }
              ∧ (∀ q, t.owned q
                  = if q = e.taker then s.owned q + 1 else if q = e.giver then s.owned q - 1 else s.owned q)
              ∧ t.counter (.device .transfersGranted) = s.counter (.device .transfersGranted) + 1)
          ∧ (granted = false →
              t.slot e.slot = .occupied { b with tenure := .bound e.giver } ∧ (∀ q, t.owned q = s.owned q)
              ∧ t.counter (.device .transfersEnded) = s.counter (.device .transfersEnded) + 1))

/-! ### Timers -/

/-- The expiries: R166, a pacing window starts anew with the port's pacing limit; R41, a refill adds the amount up
to the capacity and restarts its timer; R71, R72, the lowest transfer timer that has run out makes its entry EXPIRED
at the tail of the expiry list (log 11); R177, the lease timer frees the lease and sends LEASE_LOST; R94, R105, the
sweep timer makes one enqueue attempt with requester none and restarts with the interval in force. That an expiry is
a command of its own, and that windows are owed a start, is the model's choice (log 10). -/
def Obligations.TimersExpire : Prop :=
  ∀ s : State,
    (∀ p, (s.noticePort p).windowDue = true →
      ∃ t, exec (.pacingWindowStart p) s = .next t
        ∧ t.noticePort p = { s.noticePort p with
              windowCount := 0, windowLimit := (s.port p).pacingLimit, windowDue := false }
        ∧ (∀ q, q ≠ p → t.noticePort q = s.noticePort q) ∧ s.ChangesOnly t [.notices])
    ∧ (∀ p, (s.port p).refillTimer = some 0 →
      ∃ t, exec (.refillTimerExpiry p) s = .next t
        ∧ t.port p = { s.port p with
              claimCredit := min s.settings.creditCapacity ((s.port p).claimCredit + s.settings.refillAmount),
              refillTimer := some s.settings.refillInterval }
        ∧ s.OtherPorts t p ∧ s.ChangesOnly t [.ports])
    ∧ (∀ x e, s.entry x = some e → e.phase = .pending → e.remaining = 0 →
        (∀ y f, y < x → s.entry y = some f → f.phase = .pending → f.remaining ≠ 0) →
      ∃ t, exec .transferTimerExpiry s = .next t
        ∧ t.entry x = some { e with phase := .expired } ∧ (∀ y, y ≠ x → t.entry y = s.entry y)
        ∧ t.transfers.expiryList = s.transfers.expiryList ++ [x]
        ∧ t.transfers.lastAllocated = s.transfers.lastAllocated ∧ s.ChangesOnly t [.transfers, .arbiter])
    ∧ (∀ h, s.lease = ⟨some h, 0⟩ →
      ∃ t, exec .leaseTimerExpiry s = .next t ∧ t.lease = ⟨none, 0⟩ ∧ s.Queues t h (.leaseLost h)
        ∧ s.ChangesOnly t [.lease, .notices, .portCounters])
    ∧ (s.maintenance.sweepTimer = some 0 → s.JobsLaw → s.maintenance.queue.length ≤ 8 →
      ∃ t, exec .sweepTimerExpiry s = .next t
        ∧ t.maintenance.sweepTimer
            = (if s.settings.sweepInterval = 0 then none else some s.settings.sweepInterval)
        ∧ ((∀ k ∈ s.maintenance.queue.tail, k.work ≠ .sweep) → s.maintenance.otherJobs < 4 →
            ∃ id, s.maintenance.Gains { t.maintenance with sweepTimer := s.maintenance.sweepTimer }
              ⟨id, .sweep, none, 0, ⟨0, 0, 0, 0, 0⟩⟩)
        ∧ ((∃ k ∈ s.maintenance.queue.tail, k.work = .sweep) ∨ 4 ≤ s.maintenance.otherJobs →
            { t.maintenance with sweepTimer := s.maintenance.sweepTimer } = s.maintenance)
        ∧ s.ChangesOnly t [.maintenance, .arbiter])

/-! ### Maintenance requests -/

/-- R92 to R94, R104, R107, R110: SWEEP (with no SWEEP waiting), PURGE and CLEAR join the tail of the queue under a fresh id
with the requester, while fewer than four other jobs are there, and answer OK with the id; with four they answer BUSY and
change nothing of the engine. A SWEEP request that finds a SWEEP waiting answers MERGED with its id and changes nothing of
the engine. -/
def Obligations.JobRequestsEnqueue : Prop :=
  ∀ (s : State) (p : Port) (rq : RequestFrame), s.AtOnce p rq → s.JobsLaw → s.maintenance.queue.length ≤ 8 →
    (∀ (c : Instr) (w : JobWork), (rq.body = .sweep ∧ c = .sweep p ∧ w = .sweep ∧ ∀ k ∈ s.maintenance.queue.tail, k.work ≠ .sweep)
        ∨ (∃ d o l f, rq.body = .purge d o l ∧ purgeFilterOf d o l = some f ∧ c = .purge p ∧ w = .purge f)
        ∨ (rq.body = .clear ∧ c = .clear p ∧ w = .clear) →
      (s.maintenance.otherJobs < 4 →
        ∃ t id, exec c s = .next t ∧ s.Answers t p rq .ok (.job id)
          ∧ s.maintenance.Gains t.maintenance ⟨id, w, some p, 0, ⟨0, 0, 0, 0, 0⟩⟩
          ∧ s.ChangesOnly t [.ports, .arbiter, .maintenance])
      ∧ (4 ≤ s.maintenance.otherJobs →
        ∃ t, exec c s = .next t ∧ s.Answers t p rq .busy .none
          ∧ t.counter (.port p .refusals) = s.counter (.port p .refusals) + 1
          ∧ s.ChangesOnly t [.ports, .arbiter, .notices, .portCounters]))
    ∧ (∀ k, rq.body = .sweep → k ∈ s.maintenance.queue.tail → k.work = .sweep →
        ∃ t, exec (.sweep p) s = .next t ∧ s.Answers t p rq .merged (.job k.id) ∧ s.ChangesOnly t [.ports, .arbiter])

/-- R98, R99, R111, R113, R114: ABORT_JOB. A RUNNING job that it may end, between two of its grants, stops at once: it enters
the history ABORTED with its cursor as progress, JOB_DONE goes to its requester, and the next job becomes the head; a next
job that is a CLEAR cancels every SWEEP and PURGE that waits. During a bucket grant of the job the ABORT_JOB waits, and the
job stops at that grant's end, past its bucket, or, where that was bucket 2047, has finished DONE and the answer is INVALID.
A WAITING job leaves the queue CANCELLED. An ORPHAN job, id 0 and an id of no job in the queue answer INVALID. -/
def Obligations.AbortJobStopsOrCancels : Prop :=
  ∀ (s : State) (p : Port) (rq : RequestFrame) (id : Nat), (s.port p).executor = .busy rq → rq.body = .abortJob id →
    s.JobsLaw →
    (∀ j rest, commonCheck s.view p rq.body = none → p ∉ s.maintenance.abortWaiting →
        (∀ g, s.grant = some g → g.client ≠ .maintenance) → s.maintenance.queue = j :: rest → j.id = id → id ≠ 0 →
        j.work.kind ≠ .orphan →
      ∃ t, exec (.abortJob p) s = .next t ∧ s.Answers t p rq .ok (.stopped id j.cursor j.counts)
        ∧ s.HeadFinishes t j rest .aborted j.cursor j.counts
        ∧ t.maintenance.abortWaiting = s.maintenance.abortWaiting
        ∧ s.ChangesOnly t [.ports, .arbiter, .maintenance, .notices, .portCounters])
    ∧ (∀ g j rest, commonCheck s.view p rq.body = none → p ∉ s.maintenance.abortWaiting →
        s.grant = some g → g.client = .maintenance → s.maintenance.queue = j :: rest → j.id = id → id ≠ 0 →
        j.work.kind ≠ .orphan →
      ∃ t, exec (.abortJob p) s = .next t
        ∧ t.maintenance = { s.maintenance with abortWaiting := s.maintenance.abortWaiting ++ [p] }
        ∧ s.ChangesOnly t [.maintenance])
    ∧ (∀ v j rest failing c, s.grant = some (.fresh .maintenance v) → s.maintenance.queue = j :: rest → j.id ≠ 0 →
        s.maintenance.abortWaiting = [p] →
        ((j.work = .sweep ∧ c = .sweepBucket ⟨failing, none⟩) ∨ (∃ f, j.work = .purge f ∧ c = .purgeBucket ⟨failing, none⟩)
          ∨ (j.work = .clear ∧ c = .bucketRewrite ⟨failing, none⟩)) →
      ∃ t k, exec c s = .next t ∧ t.maintenance.abortWaiting = []
        ∧ (j.cursor + 1 < 2048 →
            s.Answers t p rq .ok (.stopped j.id (j.cursor + 1) k) ∧ s.HeadFinishes t j rest .aborted (j.cursor + 1) k)
        ∧ (2048 ≤ j.cursor + 1 → s.Answers t p rq .invalid .none ∧ s.HeadFinishes t j rest .done 2048 k))
    ∧ (∀ j k l m, commonCheck s.view p rq.body = none → p ∉ s.maintenance.abortWaiting →
        s.maintenance.queue = j :: l ++ k :: m → k.id = id → id ≠ 0 → k.work.kind ≠ .orphan →
      ∃ t, exec (.abortJob p) s = .next t ∧ s.Answers t p rq .ok (.cancelled id)
        ∧ t.maintenance = { s.maintenance with
              queue := j :: l ++ m,
              history := historyAfter s.maintenance.history [⟨id, k.work, k.requester, .cancelled, 0, k.counts⟩] }
        ∧ s.QueuesJobDone t .cancelled k k.counts
        ∧ s.ChangesOnly t [.ports, .arbiter, .maintenance, .notices, .portCounters])
    ∧ (commonCheck s.view p rq.body = none → p ∉ s.maintenance.abortWaiting →
        (id = 0 ∨ ∀ k ∈ s.maintenance.queue, k.id = id → k.work.kind = .orphan) →
      ∃ t, exec (.abortJob p) s = .next t ∧ s.Answers t p rq .invalid .none
        ∧ s.ChangesOnly t [.ports, .arbiter, .notices, .portCounters])

/-! ### Reports -/

/-- R55, R100, R180, R196, R197: the read-only requests of the configuration report what stands and change nothing:
DOMAIN_GET the domain record, SETTING_GET a setting or the lease, STAT_READ a counter or a port's session, and
JOB_STATUS the job of the queue that carries the id, or else the newest record of the history, or UNKNOWN. That the
reading of a session carries the port's number too is log 26, the model's choice. -/
def Obligations.ReportsChangeNothing : Prop :=
  ∀ (s : State) (p : Port) (rq : RequestFrame),
    (∀ v d, s.InGrant p v rq → rq.body = .domainGet d →
      ∃ t, exec (.domainGet p) s = .next t ∧ s.Answers t p rq .ok (.domain (s.domain (asDomain d)))
        ∧ s.ChangesOnly t [.arbiter, .ports])
    ∧ (∀ id, s.AtOnce p rq → rq.body = .settingGet id →
      ∃ t, exec (.settingGet p) s = .next t ∧ s.ChangesOnly t [.arbiter, .ports]
        ∧ (∀ x, s.settings.value id = some x → s.Answers t p rq .ok (.setting id x))
        ∧ (id = 12 → s.Answers t p rq .ok (.leaseReading s.lease.holder s.lease.remaining)))
    ∧ (∀ a b, s.AtOnce p rq → rq.body = .statRead a b →
      (∀ c, c.codes = (a, b) →
        ∃ t, exec (.statRead p) s = .next t ∧ s.Answers t p rq .ok (.counter c (s.counter c))
          ∧ s.ChangesOnly t [.arbiter, .ports])
      ∧ (∀ q, (a, b) = (portCode q, 15) →
        ∃ t, exec (.statReadSession p) s = .next t ∧ s.ChangesOnly t [.arbiter, .ports]
          ∧ ((s.port q).session ≠ .draining →
              s.Answers t p rq .ok (.sessionReading q (s.port q).session (s.port q).link none))
          ∧ (∀ j c, s.SessionLaw → j ∈ s.maintenance.queue → j.work = .orphan q c →
              s.Answers t p rq .ok (.sessionReading q .draining (s.port q).link (some (j.id, c))))))
    ∧ (∀ id, s.AtOnce p rq → rq.body = .jobStatus id → s.JobsLaw →
      ∃ t r, exec (.jobStatus p) s = .next t ∧ s.Answers t p rq .ok (.report r) ∧ s.ChangesOnly t [.arbiter, .ports]
        ∧ (∀ j rest, s.maintenance.queue = j :: rest → j.id = id → r = .queued true j.cursor j)
        ∧ (∀ k ∈ s.maintenance.queue.tail, k.id = id → r = .queued false 0 k)
        ∧ ((∀ k ∈ s.maintenance.queue, k.id ≠ id) →
            (∀ l h m, s.maintenance.history = l ++ h :: m → h.id = id → (∀ g ∈ m, g.id ≠ id) → r = .finished h)
            ∧ ((∀ h ∈ s.maintenance.history, h.id ≠ id) → r = .unknown)))

/-! ### Configuration -/

/-- R57: a DOMAIN_SET (checked by R56) whose cap is at least count[d] replaces the ten writable fields of its domain and answers OK with
the two counts; one whose cap is lower answers INVALID and changes no field. -/
def Obligations.DomainSetReplacesThePolicy : Prop :=
  ∀ (s : State) (p : Port) (v : View) (rq : RequestFrame) (d : Nat) (pol : Policy),
    s.InGrant p v rq →
    rq.body = .domainSet d (if pol.enabled then 1 else 0) pol.claimPolicy.code pol.memberSet pol.preemptSet pol.pinSet
      (if pol.autoClaim then 1 else 0) pol.leaseLimit pol.cap pol.orphanAction.code (portCode pol.standby) →
    ((s.domain (asDomain d)).count ≤ pol.cap →
      ∃ t, exec (.domainSet p) s = .next t
        ∧ s.Answers t p rq .ok (.counts (s.domain (asDomain d)).count (s.domain (asDomain d)).orphans)
        ∧ t.domain (asDomain d) = { s.domain (asDomain d) with policy := pol }
        ∧ (∀ e, e ≠ asDomain d → t.domain e = s.domain e) ∧ s.ChangesOnly t [.arbiter, .ports, .domains])
    ∧ (pol.cap < (s.domain (asDomain d)).count →
      ∃ t, exec (.domainSet p) s = .next t ∧ s.Answers t p rq .invalid .none
        ∧ s.ChangesOnly t [.arbiter, .ports, .notices, .portCounters])

/-- R42, R71, R106, R181 to R184, R186: a SETTING_SET that is taken writes its setting alone, answers OK with id and value,
and has the effect of its id at once: the sweep timer restarts or stops, every credit is capped at a new capacity, the
refill timer of every ONLINE port restarts. HASH_SEED is refused NOT_EMPTY while a binding exists, and a quota below
owned_count INVALID. -/
def Obligations.SettingSetTakesEffect : Prop :=
  ∀ (s : State) (p : Port) (rq : RequestFrame) (id value : Nat), rq.body = .settingSet id value →
    (s.AtOnce p rq →
      (id = 2 → ∃ t, exec (.settingSetTimebaseDivider p) s = .next t ∧ s.Answers t p rq .ok (.setting 2 value)
        ∧ t.settings = { s.settings with timebaseDivider := value } ∧ s.ChangesOnly t [.settings, .ports, .arbiter])
      ∧ (id = 3 → ∃ t, exec (.settingSetSweepInterval p) s = .next t ∧ s.Answers t p rq .ok (.setting 3 value)
        ∧ t.settings = { s.settings with sweepInterval := value }
        ∧ t.maintenance = { s.maintenance with sweepTimer := if value = 0 then none else some value }
        ∧ s.ChangesOnly t [.settings, .maintenance, .ports, .arbiter])
      ∧ (id = 4 → ∃ t, exec (.settingSetTransferTimeout p) s = .next t ∧ s.Answers t p rq .ok (.setting 4 value)
        ∧ t.settings = { s.settings with transferTimeout := value } ∧ s.ChangesOnly t [.settings, .ports, .arbiter])
      ∧ (id = 5 → ∃ t, exec (.settingSetCreditCapacity p) s = .next t
        ∧ t.settings = { s.settings with creditCapacity := value }
        ∧ (∀ q, q ≠ p → t.port q = { s.port q with claimCredit := min (s.port q).claimCredit value })
        ∧ t.port p = PortController.answered { s.port p with claimCredit := min (s.port p).claimCredit value }
            ⟨rq.kind, rq.tag, .ok, .setting 5 value⟩
        ∧ s.ChangesOnly t [.settings, .ports, .arbiter])
      ∧ (id = 6 → ∃ t, exec (.settingSetRefillAmount p) s = .next t ∧ s.Answers t p rq .ok (.setting 6 value)
        ∧ t.settings = { s.settings with refillAmount := value } ∧ s.ChangesOnly t [.settings, .ports, .arbiter])
      ∧ (id = 7 → ∃ t, exec (.settingSetRefillInterval p) s = .next t
        ∧ t.settings = { s.settings with refillInterval := value }
        ∧ (∀ q, q ≠ p → (s.port q).session = .online → t.port q = { s.port q with refillTimer := some value })
        ∧ (∀ q, q ≠ p → (s.port q).session ≠ .online → t.port q = s.port q)
        ∧ t.port p = PortController.answered { s.port p with refillTimer := some value }
            ⟨rq.kind, rq.tag, .ok, .setting 7 value⟩
        ∧ s.ChangesOnly t [.settings, .ports, .arbiter]))
    ∧ (∀ v, s.InGrant p v rq →
      (id = 1 → (∀ q, s.owned q = 0) → s.directory.orphanTotal = 0 →
        ∃ t, exec (.settingSetHashSeed p) s = .next t ∧ s.Answers t p rq .ok (.setting 1 value)
          ∧ t.settings = { s.settings with hashSeed := value } ∧ s.ChangesOnly t [.settings, .ports, .arbiter])
      ∧ (id = 1 → ((∃ q, s.owned q ≠ 0) ∨ s.directory.orphanTotal ≠ 0) →
        ∃ t, exec (.settingSetHashSeed p) s = .next t ∧ s.Answers t p rq .notEmpty .none
          ∧ s.ChangesOnly t [.arbiter, .ports, .notices, .portCounters])
      ∧ (∀ q, id = 8 + portCode q → s.owned q ≤ value →
        ∃ t, exec (.settingSetQuota p) s = .next t ∧ s.Answers t p rq .ok (.setting id value)
          ∧ t.settings.quota.get q = value ∧ (∀ r, r ≠ q → t.settings.quota.get r = s.settings.quota.get r)
          ∧ { t.settings with quota := s.settings.quota } = s.settings ∧ s.ChangesOnly t [.settings, .ports, .arbiter])
      ∧ (∀ q, id = 8 + portCode q → value < s.owned q →
        ∃ t, exec (.settingSetQuota p) s = .next t ∧ s.Answers t p rq .invalid .none
          ∧ s.ChangesOnly t [.arbiter, .ports, .notices, .portCounters]))

/-- R173 to R176: LEASE_TAKE, LEASE_RENEW and LEASE_DROP by who holds the lease, with the lease after, the status and the
carried fields; no notice is sent for a drop. -/
def Obligations.LeaseRequestsFollowTheTable : Prop :=
  ∀ (s : State) (p : Port) (rq : RequestFrame), s.AtOnce p rq →
    (∀ n, rq.body = .leaseTake n →
      (s.lease.holder = none ∨ s.lease.holder = some p →
        ∃ t, exec (.leaseTake p) s = .next t ∧ t.lease = ⟨some p, n⟩
          ∧ s.Answers t p rq (if s.lease.holder = none then .ok else .already) (.lease (some p) n)
          ∧ s.ChangesOnly t [.lease, .ports, .arbiter])
      ∧ (∀ h, s.lease.holder = some h → h ≠ p →
        ∃ t, exec (.leaseTake p) s = .next t ∧ s.Answers t p rq .held (.lease (some h) s.lease.remaining)
          ∧ s.ChangesOnly t [.ports, .arbiter, .notices, .portCounters]))
    ∧ (∀ c, (∃ n, rq.body = .leaseRenew n ∧ c = .leaseRenew p) ∨ (rq.body = .leaseDrop ∧ c = .leaseDrop p) →
        s.lease.holder ≠ some p →
        ∃ t, exec c s = .next t ∧ s.Answers t p rq .notOwner .none
          ∧ s.ChangesOnly t [.ports, .arbiter, .notices, .portCounters])
    ∧ (∀ n, rq.body = .leaseRenew n → s.lease.holder = some p →
        ∃ t, exec (.leaseRenew p) s = .next t ∧ t.lease = ⟨some p, n⟩ ∧ s.Answers t p rq .ok (.remaining n)
          ∧ s.ChangesOnly t [.lease, .ports, .arbiter])
    ∧ (rq.body = .leaseDrop → s.lease.holder = some p →
        ∃ t, exec (.leaseDrop p) s = .next t ∧ t.lease = ⟨none, 0⟩ ∧ s.Answers t p rq .ok .none
          ∧ s.ChangesOnly t [.lease, .ports, .arbiter])

/-- R188, R190: a counted event adds 1 to its counter, modulo 2^32, and to no other but NOTICES_LOST; reaching 2^31 queues
COUNTER_HALF for its subscribers, and any other value leaves the Notice Unit as it was. R198: STAT_TAKE answers the value
and leaves 0, and no other counter changes. -/
def Obligations.CountersCountAndAreTaken : Prop :=
  (∀ (s : State) (c : CounterId),
    ((∀ p, c ≠ .port p .noticesLost) → (s.count c).counter c = s.counter c + 1)
    ∧ (∀ d, d ≠ c → (∀ p, d ≠ .port p .noticesLost) → (s.count c).counter d = s.counter d)
    ∧ (s.counter c + 1 ≠ halfRange →
        (s.count c).counter c = s.counter c + 1 ∧ (∀ d, d ≠ c → (s.count c).counter d = s.counter d)
        ∧ (s.count c).notices = s.notices)
    ∧ (s.counter c + 1 = halfRange → s.QueuesForSubscribers (s.count c) .counterHalf (.counterHalf c))
    ∧ s.ChangesOnly (s.count c) [.notices, .portCounters, .deviceCounters])
  ∧ (∀ (s : State) (p : Port) (rq : RequestFrame) (a b : Nat) (c : CounterId), s.AtOnce p rq →
    rq.body = .statTake a b → c.codes = (a, b) →
    ∃ t, exec (.statTake p) s = .next t ∧ s.Answers t p rq .ok (.counter c (s.counter c)) ∧ t.counter c = 0
      ∧ (∀ d, d ≠ c → t.counter d = s.counter d) ∧ s.ChangesOnly t [.ports, .arbiter, .portCounters, .deviceCounters])

/-! ### Bucket grants -/

/-- R95, R97, R98, R101 to R103, R194: a SWEEP at a bucket whose slots pass their checks: each binding is aged by class and touched
mark, or removed when its idle count reaches the lease limit of its domain; TRANSFER bindings, other slots and other buckets
stay; the job's examined and expired counts, EXPIRIES and the counts of owners and domains move with them; EXPIRED goes to
the owner of each binding that expires and BINDING_GONE to subscribers; and the cursor advances, or, after bucket 2047, the
job finishes DONE with SWEEP_DONE and its count (R98, R103). -/
def Obligations.SweepAgesABucket : Prop :=
  ∀ (s : State) (v : View) (j : Job) (rest : List Job) (failing : List Nat),
    s.InBucket v j rest → j.work = .sweep → s.directory.wf = true → (∀ i ∈ bucketSlots j.cursor, i ∉ failing) →
    ∃ t n m, exec (.sweepBucket ⟨failing, none⟩) s = .next t
      ∧ n = s.bucketCount j.cursor (fun b => decide (b.tenure.state ≠ .transfer))
      ∧ m = s.bucketCount j.cursor s.expires
      ∧ (∀ i ∈ bucketSlots j.cursor, ∀ b, s.slot i = .occupied b →
          t.slot i = Slot.ofBinding (agedBinding (s.domain b.domain).policy.leaseLimit b))
      ∧ (∀ i, (∀ b, s.slot i ≠ .occupied b) ∨ i ∉ bucketSlots j.cursor → t.slot i = s.slot i)
      ∧ s.BucketEnds t j rest { j.counts with examined := j.counts.examined + n, expired := j.counts.expired + m }
      ∧ (∀ i ∈ bucketSlots j.cursor, ∀ b, s.slot i = .occupied b → s.expires b = true →
          (∀ o, b.tenure.owner = some o → s.Queues t o (.expired b.domain b.key o b.handle i))
          ∧ s.QueuesForSubscribers t .bindingGone
              (.bindingGone .expired b.domain b.key b.tenure.owner b.handle i))
      ∧ (∀ q, t.owned q
          = s.owned q - s.bucketCount j.cursor (fun b => s.expires b && decide (b.tenure.owner = some q)))
      ∧ (∀ d, (t.domain d).count
          = (s.domain d).count - s.bucketCount j.cursor (fun b => s.expires b && decide (b.domain = d)))
      ∧ t.counter (.device .expiries) = s.counter (.device .expiries) + BitVec.ofNat 32 m
      ∧ s.ChangesOnly t [.directory, .arbiter, .domains, .maintenance, .notices, .portCounters, .deviceCounters]

/-- R8, R95, R97, R98, R108: a PURGE at a bucket whose slots pass their checks removes every binding that matches its filter,
whatever its state, with its transfer, and leaves every other; examined and removed count them, and the cursor advances, or,
after bucket 2047, the job finishes DONE. -/
def Obligations.PurgeRemovesMatchesOfABucket : Prop :=
  ∀ (s : State) (v : View) (j : Job) (rest : List Job) (failing : List Nat) (f : PurgeFilter),
    s.InBucket v j rest → j.work = .purge f → s.directory.wf = true → (∀ i ∈ bucketSlots j.cursor, i ∉ failing) →
    ∃ t, exec (.purgeBucket ⟨failing, none⟩) s = .next t
      ∧ (∀ i ∈ bucketSlots j.cursor, ∀ b, s.slot i = .occupied b → f.matches b = true → t.slot i = .free)
      ∧ (∀ i, i ∉ bucketSlots j.cursor ∨ (∀ b, s.slot i = .occupied b → f.matches b = false) → t.slot i = s.slot i)
      ∧ (∀ i ∈ bucketSlots j.cursor, ∀ b g x, s.slot i = .occupied b → f.matches b = true →
          b.tenure = .transfer g x → t.entry x = none)
      ∧ (∀ x, (∀ i ∈ bucketSlots j.cursor, ∀ b g, s.slot i = .occupied b → f.matches b = true →
          b.tenure ≠ .transfer g x) → t.entry x = s.entry x)
      ∧ s.BucketEnds t j rest { j.counts with
            examined := j.counts.examined + s.bucketCount j.cursor (fun _ => true),
            removed := j.counts.removed + s.bucketCount j.cursor f.matches }
      ∧ (∀ q, t.owned q
          = s.owned q - s.bucketCount j.cursor (fun b => f.matches b && decide (b.tenure.owner = some q)))
      ∧ (∀ d, (t.domain d).count
          = (s.domain d).count - s.bucketCount j.cursor (fun b => f.matches b && decide (b.domain = d)))
      ∧ s.ChangesOnly t
          [.directory, .arbiter, .domains, .transfers, .maintenance, .notices, .portCounters, .deviceCounters]

/-- R8, R22, R24, R95, R98, R111, R112: a CLEAR at a bucket: every binding is removed with its transfer, every slot is
rewritten FREE, or DEFECTIVE where its retest fails, and the defective count follows, with SLOT_FAULT for subscribers
and its count for each slot that newly fails. The start-up clear does so with the undefined slots of the bucket after
those it has cleared. After bucket 2047 the job finishes DONE: it enters the history with its JOB_DONE, the start-up
clear raises READY, and a next job that is a CLEAR cancels the SWEEPs and PURGEs that wait. -/
def Obligations.ClearRewritesABucket : Prop :=
  ∀ (s : State) (v : View) (j : Job) (rest : List Job) (failing : List Nat), s.directory.wf = true → j.work = .clear →
    s.InBucket v j rest →
    (j.id ≠ 0 →
      ∃ t, exec (.bucketRewrite ⟨failing, none⟩) s = .next t
        ∧ (∀ i ∈ bucketSlots j.cursor, s.slot i ≠ .undefined →
            t.slot i = if i ∈ failing then .defective else .free)
        ∧ (∀ i, i ∉ bucketSlots j.cursor → t.slot i = s.slot i)
        ∧ (∀ i ∈ bucketSlots j.cursor, ∀ b g x, s.slot i = .occupied b → b.tenure = .transfer g x → t.entry x = none)
        ∧ s.BucketEnds t j rest { j.counts with
              examined := j.counts.examined + s.bucketCount j.cursor (fun _ => true),
              removed := j.counts.removed + s.bucketCount j.cursor (fun _ => true) }
        ∧ (∀ i ∈ bucketSlots j.cursor, i ∈ failing → s.slot i ≠ .undefined → s.slot i ≠ .defective →
            s.QueuesForSubscribers t .slotFault (.slotFault i))
        ∧ t.counter (.device .slotFaults)
            = s.counter (.device .slotFaults) + BitVec.ofNat 32 ((bucketSlots j.cursor).countP (fun i =>
                decide (i ∈ failing) && decide (s.slot i ≠ .undefined) && decide (s.slot i ≠ .defective)))
        ∧ ((∀ i ∈ bucketSlots j.cursor, i ∉ failing) →
            t.directory.defectiveCount
              = s.directory.defectiveCount
                - (bucketSlots j.cursor).countP (fun i => decide (s.slot i = .defective)))
        ∧ ((∀ i ∈ bucketSlots j.cursor, i ∈ failing) → (∀ i ∈ bucketSlots j.cursor, s.slot i ≠ .undefined) →
            t.directory.defectiveCount
              = s.directory.defectiveCount
                + (bucketSlots j.cursor).countP (fun i => decide (s.slot i ≠ .defective)))
        ∧ s.ChangesOnly t
            [.directory, .arbiter, .domains, .transfers, .maintenance, .notices, .portCounters, .deviceCounters])
    ∧ (j.id = 0 → s.directory.cleared = j.cursor →
      ∃ t, exec (.startupClearBucket ⟨failing, none⟩) s = .next t
        ∧ (∀ i ∈ bucketSlots j.cursor, t.slot i = if i ∈ failing then .defective else .free)
        ∧ (∀ i, i ∉ bucketSlots j.cursor → t.slot i = s.slot i)
        ∧ s.BucketEnds t j rest j.counts
        ∧ t.directory.defectiveCount
            = s.directory.defectiveCount + (bucketSlots j.cursor).countP (fun i => decide (i ∈ failing))
        ∧ (∀ i ∈ bucketSlots j.cursor, i ∈ failing → s.QueuesForSubscribers t .slotFault (.slotFault i))
        ∧ t.counter (.device .slotFaults) = s.counter (.device .slotFaults)
            + BitVec.ofNat 32 ((bucketSlots j.cursor).countP (fun i => decide (i ∈ failing)))
        ∧ s.ChangesOnly t [.ready, .directory, .arbiter, .maintenance, .notices, .portCounters, .deviceCounters])

/-- R68, R74, R75, R98, R144 to R150, R152: an ORPHAN job for `p` at a bucket whose slots pass their checks. A BOUND binding of
`p` is removed, held or adopted by its domain's orphan action; one in TRANSFER with giver `p` goes to its taker
where the taker is ONLINE with room in its quota, and otherwise is returned and treated the same; one with taker `p`
returns to its giver; every other binding stays. The transfers that name `p` end. After bucket 2047 the job finishes
DONE and the drain of `p` ends: it is OFFLINE, and PORT_STATE goes to the other subscribers. A port whose quota is reached
within the bucket is left out (its bindings are settled one by one as its count stands). (The count as it stands is
log 18, the model's inference.) -/
def Obligations.OrphanJobSettlesABucket : Prop :=
  ∀ (s : State) (v : View) (j : Job) (rest : List Job) (failing : List Nat) (p : Port) (cause : LeaveCause),
    s.InBucket v j rest → j.work = .orphan p cause → (s.port p).session ≠ .online → s.directory.wf = true →
    s.TransferLaw →
    (∀ i ∈ bucketSlots j.cursor, i ∉ failing) →
    ∃ t k, exec (.orphanBucket ⟨failing, none⟩) s = .next t
      ∧ (∀ i ∈ bucketSlots j.cursor, ∀ b, s.slot i = .occupied b →
          (b.tenure = .bound p → s.OrphanTreated t v p i b)
          ∧ (∀ x e, b.tenure = .transfer p x → s.entry x = some e →
              t.entry x = none
              ∧ (v.session.get e.taker = .online → s.owned e.taker + 8 ≤ s.settings.quota.get e.taker →
                  t.slot i = .occupied { b with
                      tenure := .bound e.taker, handle := e.handle, touched := true, idle := 0 })
              ∧ (v.session.get e.taker ≠ .online ∨ s.settings.quota.get e.taker ≤ s.owned e.taker →
                  s.OrphanTreated t v p i b))
          ∧ (∀ g x e, b.tenure = .transfer g x → s.entry x = some e → e.taker = p →
              t.slot i = .occupied { b with tenure := .bound g } ∧ t.entry x = none)
          ∧ (b.tenure = .orphaned → t.slot i = s.slot i)
          ∧ (∀ o, b.tenure = .bound o → o ≠ p → t.slot i = s.slot i)
          ∧ (∀ g x e, b.tenure = .transfer g x → g ≠ p → s.entry x = some e → e.taker ≠ p →
              t.slot i = s.slot i ∧ t.entry x = s.entry x))
      ∧ (∀ i, (∀ b, s.slot i ≠ .occupied b) ∨ i ∉ bucketSlots j.cursor → t.slot i = s.slot i)
      ∧ s.BucketEnds t j rest k
      ∧ k.examined = j.counts.examined + s.bucketCount j.cursor (fun b =>
          decide (b.tenure.owner = some p) ||
            match b.tenure.index with
            | some x => (s.entry x).any (fun e => decide (e.taker = p))
            | none => false)
      ∧ k.expired = j.counts.expired
      ∧ s.ChangesOnly t
          [.directory, .arbiter, .domains, .transfers, .maintenance, .ports, .notices, .portCounters, .deviceCounters]

/-! ### The course of a grant -/

/-- R15, R160, R189, R196, R199: the operation of a grant acts on the directory and then hands its counts and notices over
one after another, in the order in which it produces them, and the grant ends. A step of its row may stop after any number
`n` of them, with the notices and counts of the first `n` alone in the other units, and steps of other units may come then.
The grant goes on where it stopped: any later step of the row, or of the part with no command waiting, leads to the same
state as an undivided step would have. That a row's step may stop so is log 4, the model's choice. -/
def Obligations.GrantHandsOverOneByOne : Prop :=
  ∀ (s : State) (client : Client) (v : View) (row : GrantStep → Instr) (failing : List Nat),
    s.grant = some (.fresh client v) → s.RowOf client row →
    ∃ (reports : List Report) (e : Ending), ∀ n, n ≤ reports.length →
      ∃ u, exec (row ⟨failing, some n⟩) s = .next u ∧ u.grant = some ⟨client, v, reports.drop n, some e⟩
        ∧ (n = 0 → u.notices = s.notices ∧ u.portCounters = s.portCounters ∧ u.deviceCounters = s.deviceCounters)
        ∧ (∀ r, reports[n]? = some r →
            exec (row ⟨failing, some (n + 1)⟩) s
              = .next ((u.withGrant (some ⟨client, v, reports.drop (n + 1), some e⟩)).deliver r))
        ∧ (∀ f m, exec (row ⟨f, some m⟩) u = exec (row ⟨failing, some (n + m)⟩) s)
        ∧ (∀ f, exec (row ⟨f, none⟩) u = exec (row ⟨failing, none⟩) s)
        ∧ (s.pending = [] → s.resetHeld = false → step u = exec (row ⟨failing, none⟩) s)
end

