-- ==== Sys2Proof/Laws/State.lean ====
section
/-! SUPPORT. One lemma per field per named update of State, each true by rfl, and the same for the accessors. -/

namespace Sys2Proof.Machine

@[simp] theorem State.withResetHeld_resetHeld (s : State) (x : Bool) : (s.withResetHeld x).resetHeld = x := rfl
@[simp] theorem State.withResetHeld_ready (s : State) (x : Bool) : (s.withResetHeld x).ready = s.ready := rfl
@[simp] theorem State.withResetHeld_directory (s : State) (x : Bool) : (s.withResetHeld x).directory = s.directory := rfl
@[simp] theorem State.withResetHeld_lastGranted (s : State) (x : Bool) : (s.withResetHeld x).lastGranted = s.lastGranted := rfl
@[simp] theorem State.withResetHeld_grant (s : State) (x : Bool) : (s.withResetHeld x).grant = s.grant := rfl
@[simp] theorem State.withResetHeld_domains (s : State) (x : Bool) : (s.withResetHeld x).domains = s.domains := rfl
@[simp] theorem State.withResetHeld_transfers (s : State) (x : Bool) : (s.withResetHeld x).transfers = s.transfers := rfl
@[simp] theorem State.withResetHeld_maintenance (s : State) (x : Bool) : (s.withResetHeld x).maintenance = s.maintenance := rfl
@[simp] theorem State.withResetHeld_ports (s : State) (x : Bool) : (s.withResetHeld x).ports = s.ports := rfl
@[simp] theorem State.withResetHeld_notices (s : State) (x : Bool) : (s.withResetHeld x).notices = s.notices := rfl
@[simp] theorem State.withResetHeld_lease (s : State) (x : Bool) : (s.withResetHeld x).lease = s.lease := rfl
@[simp] theorem State.withResetHeld_settings (s : State) (x : Bool) : (s.withResetHeld x).settings = s.settings := rfl
@[simp] theorem State.withResetHeld_timebase (s : State) (x : Bool) : (s.withResetHeld x).timebase = s.timebase := rfl
@[simp] theorem State.withResetHeld_portCounters (s : State) (x : Bool) : (s.withResetHeld x).portCounters = s.portCounters := rfl
@[simp] theorem State.withResetHeld_deviceCounters (s : State) (x : Bool) : (s.withResetHeld x).deviceCounters = s.deviceCounters := rfl
@[simp] theorem State.withResetHeld_pending (s : State) (x : Bool) : (s.withResetHeld x).pending = s.pending := rfl
@[simp] theorem State.withReady_resetHeld (s : State) (x : Bool) : (s.withReady x).resetHeld = s.resetHeld := rfl
@[simp] theorem State.withReady_ready (s : State) (x : Bool) : (s.withReady x).ready = x := rfl
@[simp] theorem State.withReady_directory (s : State) (x : Bool) : (s.withReady x).directory = s.directory := rfl
@[simp] theorem State.withReady_lastGranted (s : State) (x : Bool) : (s.withReady x).lastGranted = s.lastGranted := rfl
@[simp] theorem State.withReady_grant (s : State) (x : Bool) : (s.withReady x).grant = s.grant := rfl
@[simp] theorem State.withReady_domains (s : State) (x : Bool) : (s.withReady x).domains = s.domains := rfl
@[simp] theorem State.withReady_transfers (s : State) (x : Bool) : (s.withReady x).transfers = s.transfers := rfl
@[simp] theorem State.withReady_maintenance (s : State) (x : Bool) : (s.withReady x).maintenance = s.maintenance := rfl
@[simp] theorem State.withReady_ports (s : State) (x : Bool) : (s.withReady x).ports = s.ports := rfl
@[simp] theorem State.withReady_notices (s : State) (x : Bool) : (s.withReady x).notices = s.notices := rfl
@[simp] theorem State.withReady_lease (s : State) (x : Bool) : (s.withReady x).lease = s.lease := rfl
@[simp] theorem State.withReady_settings (s : State) (x : Bool) : (s.withReady x).settings = s.settings := rfl
@[simp] theorem State.withReady_timebase (s : State) (x : Bool) : (s.withReady x).timebase = s.timebase := rfl
@[simp] theorem State.withReady_portCounters (s : State) (x : Bool) : (s.withReady x).portCounters = s.portCounters := rfl
@[simp] theorem State.withReady_deviceCounters (s : State) (x : Bool) : (s.withReady x).deviceCounters = s.deviceCounters := rfl
@[simp] theorem State.withReady_pending (s : State) (x : Bool) : (s.withReady x).pending = s.pending := rfl
@[simp] theorem State.withDirectory_resetHeld (s : State) (x : Directory) : (s.withDirectory x).resetHeld = s.resetHeld := rfl
@[simp] theorem State.withDirectory_ready (s : State) (x : Directory) : (s.withDirectory x).ready = s.ready := rfl
@[simp] theorem State.withDirectory_directory (s : State) (x : Directory) : (s.withDirectory x).directory = x := rfl
@[simp] theorem State.withDirectory_lastGranted (s : State) (x : Directory) : (s.withDirectory x).lastGranted = s.lastGranted := rfl
@[simp] theorem State.withDirectory_grant (s : State) (x : Directory) : (s.withDirectory x).grant = s.grant := rfl
@[simp] theorem State.withDirectory_domains (s : State) (x : Directory) : (s.withDirectory x).domains = s.domains := rfl
@[simp] theorem State.withDirectory_transfers (s : State) (x : Directory) : (s.withDirectory x).transfers = s.transfers := rfl
@[simp] theorem State.withDirectory_maintenance (s : State) (x : Directory) : (s.withDirectory x).maintenance = s.maintenance := rfl
@[simp] theorem State.withDirectory_ports (s : State) (x : Directory) : (s.withDirectory x).ports = s.ports := rfl
@[simp] theorem State.withDirectory_notices (s : State) (x : Directory) : (s.withDirectory x).notices = s.notices := rfl
@[simp] theorem State.withDirectory_lease (s : State) (x : Directory) : (s.withDirectory x).lease = s.lease := rfl
@[simp] theorem State.withDirectory_settings (s : State) (x : Directory) : (s.withDirectory x).settings = s.settings := rfl
@[simp] theorem State.withDirectory_timebase (s : State) (x : Directory) : (s.withDirectory x).timebase = s.timebase := rfl
@[simp] theorem State.withDirectory_portCounters (s : State) (x : Directory) : (s.withDirectory x).portCounters = s.portCounters := rfl
@[simp] theorem State.withDirectory_deviceCounters (s : State) (x : Directory) : (s.withDirectory x).deviceCounters = s.deviceCounters := rfl
@[simp] theorem State.withDirectory_pending (s : State) (x : Directory) : (s.withDirectory x).pending = s.pending := rfl
@[simp] theorem State.withLastGranted_resetHeld (s : State) (x : Client) : (s.withLastGranted x).resetHeld = s.resetHeld := rfl
@[simp] theorem State.withLastGranted_ready (s : State) (x : Client) : (s.withLastGranted x).ready = s.ready := rfl
@[simp] theorem State.withLastGranted_directory (s : State) (x : Client) : (s.withLastGranted x).directory = s.directory := rfl
@[simp] theorem State.withLastGranted_lastGranted (s : State) (x : Client) : (s.withLastGranted x).lastGranted = x := rfl
@[simp] theorem State.withLastGranted_grant (s : State) (x : Client) : (s.withLastGranted x).grant = s.grant := rfl
@[simp] theorem State.withLastGranted_domains (s : State) (x : Client) : (s.withLastGranted x).domains = s.domains := rfl
@[simp] theorem State.withLastGranted_transfers (s : State) (x : Client) : (s.withLastGranted x).transfers = s.transfers := rfl
@[simp] theorem State.withLastGranted_maintenance (s : State) (x : Client) : (s.withLastGranted x).maintenance = s.maintenance := rfl
@[simp] theorem State.withLastGranted_ports (s : State) (x : Client) : (s.withLastGranted x).ports = s.ports := rfl
@[simp] theorem State.withLastGranted_notices (s : State) (x : Client) : (s.withLastGranted x).notices = s.notices := rfl
@[simp] theorem State.withLastGranted_lease (s : State) (x : Client) : (s.withLastGranted x).lease = s.lease := rfl
@[simp] theorem State.withLastGranted_settings (s : State) (x : Client) : (s.withLastGranted x).settings = s.settings := rfl
@[simp] theorem State.withLastGranted_timebase (s : State) (x : Client) : (s.withLastGranted x).timebase = s.timebase := rfl
@[simp] theorem State.withLastGranted_portCounters (s : State) (x : Client) : (s.withLastGranted x).portCounters = s.portCounters := rfl
@[simp] theorem State.withLastGranted_deviceCounters (s : State) (x : Client) : (s.withLastGranted x).deviceCounters = s.deviceCounters := rfl
@[simp] theorem State.withLastGranted_pending (s : State) (x : Client) : (s.withLastGranted x).pending = s.pending := rfl
@[simp] theorem State.withGrant_resetHeld (s : State) (x : Option Grant) : (s.withGrant x).resetHeld = s.resetHeld := rfl
@[simp] theorem State.withGrant_ready (s : State) (x : Option Grant) : (s.withGrant x).ready = s.ready := rfl
@[simp] theorem State.withGrant_directory (s : State) (x : Option Grant) : (s.withGrant x).directory = s.directory := rfl
@[simp] theorem State.withGrant_lastGranted (s : State) (x : Option Grant) : (s.withGrant x).lastGranted = s.lastGranted := rfl
@[simp] theorem State.withGrant_grant (s : State) (x : Option Grant) : (s.withGrant x).grant = x := rfl
@[simp] theorem State.withGrant_domains (s : State) (x : Option Grant) : (s.withGrant x).domains = s.domains := rfl
@[simp] theorem State.withGrant_transfers (s : State) (x : Option Grant) : (s.withGrant x).transfers = s.transfers := rfl
@[simp] theorem State.withGrant_maintenance (s : State) (x : Option Grant) : (s.withGrant x).maintenance = s.maintenance := rfl
@[simp] theorem State.withGrant_ports (s : State) (x : Option Grant) : (s.withGrant x).ports = s.ports := rfl
@[simp] theorem State.withGrant_notices (s : State) (x : Option Grant) : (s.withGrant x).notices = s.notices := rfl
@[simp] theorem State.withGrant_lease (s : State) (x : Option Grant) : (s.withGrant x).lease = s.lease := rfl
@[simp] theorem State.withGrant_settings (s : State) (x : Option Grant) : (s.withGrant x).settings = s.settings := rfl
@[simp] theorem State.withGrant_timebase (s : State) (x : Option Grant) : (s.withGrant x).timebase = s.timebase := rfl
@[simp] theorem State.withGrant_portCounters (s : State) (x : Option Grant) : (s.withGrant x).portCounters = s.portCounters := rfl
@[simp] theorem State.withGrant_deviceCounters (s : State) (x : Option Grant) : (s.withGrant x).deviceCounters = s.deviceCounters := rfl
@[simp] theorem State.withGrant_pending (s : State) (x : Option Grant) : (s.withGrant x).pending = s.pending := rfl
@[simp] theorem State.withDomains_resetHeld (s : State) (x : Vector Domain 64) : (s.withDomains x).resetHeld = s.resetHeld := rfl
@[simp] theorem State.withDomains_ready (s : State) (x : Vector Domain 64) : (s.withDomains x).ready = s.ready := rfl
@[simp] theorem State.withDomains_directory (s : State) (x : Vector Domain 64) : (s.withDomains x).directory = s.directory := rfl
@[simp] theorem State.withDomains_lastGranted (s : State) (x : Vector Domain 64) : (s.withDomains x).lastGranted = s.lastGranted := rfl
@[simp] theorem State.withDomains_grant (s : State) (x : Vector Domain 64) : (s.withDomains x).grant = s.grant := rfl
@[simp] theorem State.withDomains_domains (s : State) (x : Vector Domain 64) : (s.withDomains x).domains = x := rfl
@[simp] theorem State.withDomains_transfers (s : State) (x : Vector Domain 64) : (s.withDomains x).transfers = s.transfers := rfl
@[simp] theorem State.withDomains_maintenance (s : State) (x : Vector Domain 64) : (s.withDomains x).maintenance = s.maintenance := rfl
@[simp] theorem State.withDomains_ports (s : State) (x : Vector Domain 64) : (s.withDomains x).ports = s.ports := rfl
@[simp] theorem State.withDomains_notices (s : State) (x : Vector Domain 64) : (s.withDomains x).notices = s.notices := rfl
@[simp] theorem State.withDomains_lease (s : State) (x : Vector Domain 64) : (s.withDomains x).lease = s.lease := rfl
@[simp] theorem State.withDomains_settings (s : State) (x : Vector Domain 64) : (s.withDomains x).settings = s.settings := rfl
@[simp] theorem State.withDomains_timebase (s : State) (x : Vector Domain 64) : (s.withDomains x).timebase = s.timebase := rfl
@[simp] theorem State.withDomains_portCounters (s : State) (x : Vector Domain 64) : (s.withDomains x).portCounters = s.portCounters := rfl
@[simp] theorem State.withDomains_deviceCounters (s : State) (x : Vector Domain 64) : (s.withDomains x).deviceCounters = s.deviceCounters := rfl
@[simp] theorem State.withDomains_pending (s : State) (x : Vector Domain 64) : (s.withDomains x).pending = s.pending := rfl
@[simp] theorem State.withTransfers_resetHeld (s : State) (x : Transfers) : (s.withTransfers x).resetHeld = s.resetHeld := rfl
@[simp] theorem State.withTransfers_ready (s : State) (x : Transfers) : (s.withTransfers x).ready = s.ready := rfl
@[simp] theorem State.withTransfers_directory (s : State) (x : Transfers) : (s.withTransfers x).directory = s.directory := rfl
@[simp] theorem State.withTransfers_lastGranted (s : State) (x : Transfers) : (s.withTransfers x).lastGranted = s.lastGranted := rfl
@[simp] theorem State.withTransfers_grant (s : State) (x : Transfers) : (s.withTransfers x).grant = s.grant := rfl
@[simp] theorem State.withTransfers_domains (s : State) (x : Transfers) : (s.withTransfers x).domains = s.domains := rfl
@[simp] theorem State.withTransfers_transfers (s : State) (x : Transfers) : (s.withTransfers x).transfers = x := rfl
@[simp] theorem State.withTransfers_maintenance (s : State) (x : Transfers) : (s.withTransfers x).maintenance = s.maintenance := rfl
@[simp] theorem State.withTransfers_ports (s : State) (x : Transfers) : (s.withTransfers x).ports = s.ports := rfl
@[simp] theorem State.withTransfers_notices (s : State) (x : Transfers) : (s.withTransfers x).notices = s.notices := rfl
@[simp] theorem State.withTransfers_lease (s : State) (x : Transfers) : (s.withTransfers x).lease = s.lease := rfl
@[simp] theorem State.withTransfers_settings (s : State) (x : Transfers) : (s.withTransfers x).settings = s.settings := rfl
@[simp] theorem State.withTransfers_timebase (s : State) (x : Transfers) : (s.withTransfers x).timebase = s.timebase := rfl
@[simp] theorem State.withTransfers_portCounters (s : State) (x : Transfers) : (s.withTransfers x).portCounters = s.portCounters := rfl
@[simp] theorem State.withTransfers_deviceCounters (s : State) (x : Transfers) : (s.withTransfers x).deviceCounters = s.deviceCounters := rfl
@[simp] theorem State.withTransfers_pending (s : State) (x : Transfers) : (s.withTransfers x).pending = s.pending := rfl
@[simp] theorem State.withMaintenance_resetHeld (s : State) (x : Maintenance) : (s.withMaintenance x).resetHeld = s.resetHeld := rfl
@[simp] theorem State.withMaintenance_ready (s : State) (x : Maintenance) : (s.withMaintenance x).ready = s.ready := rfl
@[simp] theorem State.withMaintenance_directory (s : State) (x : Maintenance) : (s.withMaintenance x).directory = s.directory := rfl
@[simp] theorem State.withMaintenance_lastGranted (s : State) (x : Maintenance) : (s.withMaintenance x).lastGranted = s.lastGranted := rfl
@[simp] theorem State.withMaintenance_grant (s : State) (x : Maintenance) : (s.withMaintenance x).grant = s.grant := rfl
@[simp] theorem State.withMaintenance_domains (s : State) (x : Maintenance) : (s.withMaintenance x).domains = s.domains := rfl
@[simp] theorem State.withMaintenance_transfers (s : State) (x : Maintenance) : (s.withMaintenance x).transfers = s.transfers := rfl
@[simp] theorem State.withMaintenance_maintenance (s : State) (x : Maintenance) : (s.withMaintenance x).maintenance = x := rfl
@[simp] theorem State.withMaintenance_ports (s : State) (x : Maintenance) : (s.withMaintenance x).ports = s.ports := rfl
@[simp] theorem State.withMaintenance_notices (s : State) (x : Maintenance) : (s.withMaintenance x).notices = s.notices := rfl
@[simp] theorem State.withMaintenance_lease (s : State) (x : Maintenance) : (s.withMaintenance x).lease = s.lease := rfl
@[simp] theorem State.withMaintenance_settings (s : State) (x : Maintenance) : (s.withMaintenance x).settings = s.settings := rfl
@[simp] theorem State.withMaintenance_timebase (s : State) (x : Maintenance) : (s.withMaintenance x).timebase = s.timebase := rfl
@[simp] theorem State.withMaintenance_portCounters (s : State) (x : Maintenance) : (s.withMaintenance x).portCounters = s.portCounters := rfl
@[simp] theorem State.withMaintenance_deviceCounters (s : State) (x : Maintenance) : (s.withMaintenance x).deviceCounters = s.deviceCounters := rfl
@[simp] theorem State.withMaintenance_pending (s : State) (x : Maintenance) : (s.withMaintenance x).pending = s.pending := rfl
@[simp] theorem State.withPorts_resetHeld (s : State) (x : PerPort PortController) : (s.withPorts x).resetHeld = s.resetHeld := rfl
@[simp] theorem State.withPorts_ready (s : State) (x : PerPort PortController) : (s.withPorts x).ready = s.ready := rfl
@[simp] theorem State.withPorts_directory (s : State) (x : PerPort PortController) : (s.withPorts x).directory = s.directory := rfl
@[simp] theorem State.withPorts_lastGranted (s : State) (x : PerPort PortController) : (s.withPorts x).lastGranted = s.lastGranted := rfl
@[simp] theorem State.withPorts_grant (s : State) (x : PerPort PortController) : (s.withPorts x).grant = s.grant := rfl
@[simp] theorem State.withPorts_domains (s : State) (x : PerPort PortController) : (s.withPorts x).domains = s.domains := rfl
@[simp] theorem State.withPorts_transfers (s : State) (x : PerPort PortController) : (s.withPorts x).transfers = s.transfers := rfl
@[simp] theorem State.withPorts_maintenance (s : State) (x : PerPort PortController) : (s.withPorts x).maintenance = s.maintenance := rfl
@[simp] theorem State.withPorts_ports (s : State) (x : PerPort PortController) : (s.withPorts x).ports = x := rfl
@[simp] theorem State.withPorts_notices (s : State) (x : PerPort PortController) : (s.withPorts x).notices = s.notices := rfl
@[simp] theorem State.withPorts_lease (s : State) (x : PerPort PortController) : (s.withPorts x).lease = s.lease := rfl
@[simp] theorem State.withPorts_settings (s : State) (x : PerPort PortController) : (s.withPorts x).settings = s.settings := rfl
@[simp] theorem State.withPorts_timebase (s : State) (x : PerPort PortController) : (s.withPorts x).timebase = s.timebase := rfl
@[simp] theorem State.withPorts_portCounters (s : State) (x : PerPort PortController) : (s.withPorts x).portCounters = s.portCounters := rfl
@[simp] theorem State.withPorts_deviceCounters (s : State) (x : PerPort PortController) : (s.withPorts x).deviceCounters = s.deviceCounters := rfl
@[simp] theorem State.withPorts_pending (s : State) (x : PerPort PortController) : (s.withPorts x).pending = s.pending := rfl
@[simp] theorem State.withNotices_resetHeld (s : State) (x : PerPort NoticePort) : (s.withNotices x).resetHeld = s.resetHeld := rfl
@[simp] theorem State.withNotices_ready (s : State) (x : PerPort NoticePort) : (s.withNotices x).ready = s.ready := rfl
@[simp] theorem State.withNotices_directory (s : State) (x : PerPort NoticePort) : (s.withNotices x).directory = s.directory := rfl
@[simp] theorem State.withNotices_lastGranted (s : State) (x : PerPort NoticePort) : (s.withNotices x).lastGranted = s.lastGranted := rfl
@[simp] theorem State.withNotices_grant (s : State) (x : PerPort NoticePort) : (s.withNotices x).grant = s.grant := rfl
@[simp] theorem State.withNotices_domains (s : State) (x : PerPort NoticePort) : (s.withNotices x).domains = s.domains := rfl
@[simp] theorem State.withNotices_transfers (s : State) (x : PerPort NoticePort) : (s.withNotices x).transfers = s.transfers := rfl
@[simp] theorem State.withNotices_maintenance (s : State) (x : PerPort NoticePort) : (s.withNotices x).maintenance = s.maintenance := rfl
@[simp] theorem State.withNotices_ports (s : State) (x : PerPort NoticePort) : (s.withNotices x).ports = s.ports := rfl
@[simp] theorem State.withNotices_notices (s : State) (x : PerPort NoticePort) : (s.withNotices x).notices = x := rfl
@[simp] theorem State.withNotices_lease (s : State) (x : PerPort NoticePort) : (s.withNotices x).lease = s.lease := rfl
@[simp] theorem State.withNotices_settings (s : State) (x : PerPort NoticePort) : (s.withNotices x).settings = s.settings := rfl
@[simp] theorem State.withNotices_timebase (s : State) (x : PerPort NoticePort) : (s.withNotices x).timebase = s.timebase := rfl
@[simp] theorem State.withNotices_portCounters (s : State) (x : PerPort NoticePort) : (s.withNotices x).portCounters = s.portCounters := rfl
@[simp] theorem State.withNotices_deviceCounters (s : State) (x : PerPort NoticePort) : (s.withNotices x).deviceCounters = s.deviceCounters := rfl
@[simp] theorem State.withNotices_pending (s : State) (x : PerPort NoticePort) : (s.withNotices x).pending = s.pending := rfl
@[simp] theorem State.withLease_resetHeld (s : State) (x : Lease) : (s.withLease x).resetHeld = s.resetHeld := rfl
@[simp] theorem State.withLease_ready (s : State) (x : Lease) : (s.withLease x).ready = s.ready := rfl
@[simp] theorem State.withLease_directory (s : State) (x : Lease) : (s.withLease x).directory = s.directory := rfl
@[simp] theorem State.withLease_lastGranted (s : State) (x : Lease) : (s.withLease x).lastGranted = s.lastGranted := rfl
@[simp] theorem State.withLease_grant (s : State) (x : Lease) : (s.withLease x).grant = s.grant := rfl
@[simp] theorem State.withLease_domains (s : State) (x : Lease) : (s.withLease x).domains = s.domains := rfl
@[simp] theorem State.withLease_transfers (s : State) (x : Lease) : (s.withLease x).transfers = s.transfers := rfl
@[simp] theorem State.withLease_maintenance (s : State) (x : Lease) : (s.withLease x).maintenance = s.maintenance := rfl
@[simp] theorem State.withLease_ports (s : State) (x : Lease) : (s.withLease x).ports = s.ports := rfl
@[simp] theorem State.withLease_notices (s : State) (x : Lease) : (s.withLease x).notices = s.notices := rfl
@[simp] theorem State.withLease_lease (s : State) (x : Lease) : (s.withLease x).lease = x := rfl
@[simp] theorem State.withLease_settings (s : State) (x : Lease) : (s.withLease x).settings = s.settings := rfl
@[simp] theorem State.withLease_timebase (s : State) (x : Lease) : (s.withLease x).timebase = s.timebase := rfl
@[simp] theorem State.withLease_portCounters (s : State) (x : Lease) : (s.withLease x).portCounters = s.portCounters := rfl
@[simp] theorem State.withLease_deviceCounters (s : State) (x : Lease) : (s.withLease x).deviceCounters = s.deviceCounters := rfl
@[simp] theorem State.withLease_pending (s : State) (x : Lease) : (s.withLease x).pending = s.pending := rfl
@[simp] theorem State.withSettings_resetHeld (s : State) (x : Settings) : (s.withSettings x).resetHeld = s.resetHeld := rfl
@[simp] theorem State.withSettings_ready (s : State) (x : Settings) : (s.withSettings x).ready = s.ready := rfl
@[simp] theorem State.withSettings_directory (s : State) (x : Settings) : (s.withSettings x).directory = s.directory := rfl
@[simp] theorem State.withSettings_lastGranted (s : State) (x : Settings) : (s.withSettings x).lastGranted = s.lastGranted := rfl
@[simp] theorem State.withSettings_grant (s : State) (x : Settings) : (s.withSettings x).grant = s.grant := rfl
@[simp] theorem State.withSettings_domains (s : State) (x : Settings) : (s.withSettings x).domains = s.domains := rfl
@[simp] theorem State.withSettings_transfers (s : State) (x : Settings) : (s.withSettings x).transfers = s.transfers := rfl
@[simp] theorem State.withSettings_maintenance (s : State) (x : Settings) : (s.withSettings x).maintenance = s.maintenance := rfl
@[simp] theorem State.withSettings_ports (s : State) (x : Settings) : (s.withSettings x).ports = s.ports := rfl
@[simp] theorem State.withSettings_notices (s : State) (x : Settings) : (s.withSettings x).notices = s.notices := rfl
@[simp] theorem State.withSettings_lease (s : State) (x : Settings) : (s.withSettings x).lease = s.lease := rfl
@[simp] theorem State.withSettings_settings (s : State) (x : Settings) : (s.withSettings x).settings = x := rfl
@[simp] theorem State.withSettings_timebase (s : State) (x : Settings) : (s.withSettings x).timebase = s.timebase := rfl
@[simp] theorem State.withSettings_portCounters (s : State) (x : Settings) : (s.withSettings x).portCounters = s.portCounters := rfl
@[simp] theorem State.withSettings_deviceCounters (s : State) (x : Settings) : (s.withSettings x).deviceCounters = s.deviceCounters := rfl
@[simp] theorem State.withSettings_pending (s : State) (x : Settings) : (s.withSettings x).pending = s.pending := rfl
@[simp] theorem State.withTimebase_resetHeld (s : State) (x : Timebase) : (s.withTimebase x).resetHeld = s.resetHeld := rfl
@[simp] theorem State.withTimebase_ready (s : State) (x : Timebase) : (s.withTimebase x).ready = s.ready := rfl
@[simp] theorem State.withTimebase_directory (s : State) (x : Timebase) : (s.withTimebase x).directory = s.directory := rfl
@[simp] theorem State.withTimebase_lastGranted (s : State) (x : Timebase) : (s.withTimebase x).lastGranted = s.lastGranted := rfl
@[simp] theorem State.withTimebase_grant (s : State) (x : Timebase) : (s.withTimebase x).grant = s.grant := rfl
@[simp] theorem State.withTimebase_domains (s : State) (x : Timebase) : (s.withTimebase x).domains = s.domains := rfl
@[simp] theorem State.withTimebase_transfers (s : State) (x : Timebase) : (s.withTimebase x).transfers = s.transfers := rfl
@[simp] theorem State.withTimebase_maintenance (s : State) (x : Timebase) : (s.withTimebase x).maintenance = s.maintenance := rfl
@[simp] theorem State.withTimebase_ports (s : State) (x : Timebase) : (s.withTimebase x).ports = s.ports := rfl
@[simp] theorem State.withTimebase_notices (s : State) (x : Timebase) : (s.withTimebase x).notices = s.notices := rfl
@[simp] theorem State.withTimebase_lease (s : State) (x : Timebase) : (s.withTimebase x).lease = s.lease := rfl
@[simp] theorem State.withTimebase_settings (s : State) (x : Timebase) : (s.withTimebase x).settings = s.settings := rfl
@[simp] theorem State.withTimebase_timebase (s : State) (x : Timebase) : (s.withTimebase x).timebase = x := rfl
@[simp] theorem State.withTimebase_portCounters (s : State) (x : Timebase) : (s.withTimebase x).portCounters = s.portCounters := rfl
@[simp] theorem State.withTimebase_deviceCounters (s : State) (x : Timebase) : (s.withTimebase x).deviceCounters = s.deviceCounters := rfl
@[simp] theorem State.withTimebase_pending (s : State) (x : Timebase) : (s.withTimebase x).pending = s.pending := rfl
@[simp] theorem State.withPortCounters_resetHeld (s : State) (x : PerPort PortCounters) : (s.withPortCounters x).resetHeld = s.resetHeld := rfl
@[simp] theorem State.withPortCounters_ready (s : State) (x : PerPort PortCounters) : (s.withPortCounters x).ready = s.ready := rfl
@[simp] theorem State.withPortCounters_directory (s : State) (x : PerPort PortCounters) : (s.withPortCounters x).directory = s.directory := rfl
@[simp] theorem State.withPortCounters_lastGranted (s : State) (x : PerPort PortCounters) : (s.withPortCounters x).lastGranted = s.lastGranted := rfl
@[simp] theorem State.withPortCounters_grant (s : State) (x : PerPort PortCounters) : (s.withPortCounters x).grant = s.grant := rfl
@[simp] theorem State.withPortCounters_domains (s : State) (x : PerPort PortCounters) : (s.withPortCounters x).domains = s.domains := rfl
@[simp] theorem State.withPortCounters_transfers (s : State) (x : PerPort PortCounters) : (s.withPortCounters x).transfers = s.transfers := rfl
@[simp] theorem State.withPortCounters_maintenance (s : State) (x : PerPort PortCounters) : (s.withPortCounters x).maintenance = s.maintenance := rfl
@[simp] theorem State.withPortCounters_ports (s : State) (x : PerPort PortCounters) : (s.withPortCounters x).ports = s.ports := rfl
@[simp] theorem State.withPortCounters_notices (s : State) (x : PerPort PortCounters) : (s.withPortCounters x).notices = s.notices := rfl
@[simp] theorem State.withPortCounters_lease (s : State) (x : PerPort PortCounters) : (s.withPortCounters x).lease = s.lease := rfl
@[simp] theorem State.withPortCounters_settings (s : State) (x : PerPort PortCounters) : (s.withPortCounters x).settings = s.settings := rfl
@[simp] theorem State.withPortCounters_timebase (s : State) (x : PerPort PortCounters) : (s.withPortCounters x).timebase = s.timebase := rfl
@[simp] theorem State.withPortCounters_portCounters (s : State) (x : PerPort PortCounters) : (s.withPortCounters x).portCounters = x := rfl
@[simp] theorem State.withPortCounters_deviceCounters (s : State) (x : PerPort PortCounters) : (s.withPortCounters x).deviceCounters = s.deviceCounters := rfl
@[simp] theorem State.withPortCounters_pending (s : State) (x : PerPort PortCounters) : (s.withPortCounters x).pending = s.pending := rfl
@[simp] theorem State.withDeviceCounters_resetHeld (s : State) (x : DeviceCounters) : (s.withDeviceCounters x).resetHeld = s.resetHeld := rfl
@[simp] theorem State.withDeviceCounters_ready (s : State) (x : DeviceCounters) : (s.withDeviceCounters x).ready = s.ready := rfl
@[simp] theorem State.withDeviceCounters_directory (s : State) (x : DeviceCounters) : (s.withDeviceCounters x).directory = s.directory := rfl
@[simp] theorem State.withDeviceCounters_lastGranted (s : State) (x : DeviceCounters) : (s.withDeviceCounters x).lastGranted = s.lastGranted := rfl
@[simp] theorem State.withDeviceCounters_grant (s : State) (x : DeviceCounters) : (s.withDeviceCounters x).grant = s.grant := rfl
@[simp] theorem State.withDeviceCounters_domains (s : State) (x : DeviceCounters) : (s.withDeviceCounters x).domains = s.domains := rfl
@[simp] theorem State.withDeviceCounters_transfers (s : State) (x : DeviceCounters) : (s.withDeviceCounters x).transfers = s.transfers := rfl
@[simp] theorem State.withDeviceCounters_maintenance (s : State) (x : DeviceCounters) : (s.withDeviceCounters x).maintenance = s.maintenance := rfl
@[simp] theorem State.withDeviceCounters_ports (s : State) (x : DeviceCounters) : (s.withDeviceCounters x).ports = s.ports := rfl
@[simp] theorem State.withDeviceCounters_notices (s : State) (x : DeviceCounters) : (s.withDeviceCounters x).notices = s.notices := rfl
@[simp] theorem State.withDeviceCounters_lease (s : State) (x : DeviceCounters) : (s.withDeviceCounters x).lease = s.lease := rfl
@[simp] theorem State.withDeviceCounters_settings (s : State) (x : DeviceCounters) : (s.withDeviceCounters x).settings = s.settings := rfl
@[simp] theorem State.withDeviceCounters_timebase (s : State) (x : DeviceCounters) : (s.withDeviceCounters x).timebase = s.timebase := rfl
@[simp] theorem State.withDeviceCounters_portCounters (s : State) (x : DeviceCounters) : (s.withDeviceCounters x).portCounters = s.portCounters := rfl
@[simp] theorem State.withDeviceCounters_deviceCounters (s : State) (x : DeviceCounters) : (s.withDeviceCounters x).deviceCounters = x := rfl
@[simp] theorem State.withDeviceCounters_pending (s : State) (x : DeviceCounters) : (s.withDeviceCounters x).pending = s.pending := rfl
@[simp] theorem State.withPending_resetHeld (s : State) (x : List Instr) : (s.withPending x).resetHeld = s.resetHeld := rfl
@[simp] theorem State.withPending_ready (s : State) (x : List Instr) : (s.withPending x).ready = s.ready := rfl
@[simp] theorem State.withPending_directory (s : State) (x : List Instr) : (s.withPending x).directory = s.directory := rfl
@[simp] theorem State.withPending_lastGranted (s : State) (x : List Instr) : (s.withPending x).lastGranted = s.lastGranted := rfl
@[simp] theorem State.withPending_grant (s : State) (x : List Instr) : (s.withPending x).grant = s.grant := rfl
@[simp] theorem State.withPending_domains (s : State) (x : List Instr) : (s.withPending x).domains = s.domains := rfl
@[simp] theorem State.withPending_transfers (s : State) (x : List Instr) : (s.withPending x).transfers = s.transfers := rfl
@[simp] theorem State.withPending_maintenance (s : State) (x : List Instr) : (s.withPending x).maintenance = s.maintenance := rfl
@[simp] theorem State.withPending_ports (s : State) (x : List Instr) : (s.withPending x).ports = s.ports := rfl
@[simp] theorem State.withPending_notices (s : State) (x : List Instr) : (s.withPending x).notices = s.notices := rfl
@[simp] theorem State.withPending_lease (s : State) (x : List Instr) : (s.withPending x).lease = s.lease := rfl
@[simp] theorem State.withPending_settings (s : State) (x : List Instr) : (s.withPending x).settings = s.settings := rfl
@[simp] theorem State.withPending_timebase (s : State) (x : List Instr) : (s.withPending x).timebase = s.timebase := rfl
@[simp] theorem State.withPending_portCounters (s : State) (x : List Instr) : (s.withPending x).portCounters = s.portCounters := rfl
@[simp] theorem State.withPending_deviceCounters (s : State) (x : List Instr) : (s.withPending x).deviceCounters = s.deviceCounters := rfl
@[simp] theorem State.withPending_pending (s : State) (x : List Instr) : (s.withPending x).pending = x := rfl

@[simp] theorem State.modifyPort_resetHeld (s : State) (p : Port) (f : PortController → PortController) : (s.modifyPort p f).resetHeld = s.resetHeld := rfl
@[simp] theorem State.modifyPort_ready (s : State) (p : Port) (f : PortController → PortController) : (s.modifyPort p f).ready = s.ready := rfl
@[simp] theorem State.modifyPort_directory (s : State) (p : Port) (f : PortController → PortController) : (s.modifyPort p f).directory = s.directory := rfl
@[simp] theorem State.modifyPort_lastGranted (s : State) (p : Port) (f : PortController → PortController) : (s.modifyPort p f).lastGranted = s.lastGranted := rfl
@[simp] theorem State.modifyPort_grant (s : State) (p : Port) (f : PortController → PortController) : (s.modifyPort p f).grant = s.grant := rfl
@[simp] theorem State.modifyPort_domains (s : State) (p : Port) (f : PortController → PortController) : (s.modifyPort p f).domains = s.domains := rfl
@[simp] theorem State.modifyPort_transfers (s : State) (p : Port) (f : PortController → PortController) : (s.modifyPort p f).transfers = s.transfers := rfl
@[simp] theorem State.modifyPort_maintenance (s : State) (p : Port) (f : PortController → PortController) : (s.modifyPort p f).maintenance = s.maintenance := rfl
@[simp] theorem State.modifyPort_notices (s : State) (p : Port) (f : PortController → PortController) : (s.modifyPort p f).notices = s.notices := rfl
@[simp] theorem State.modifyPort_lease (s : State) (p : Port) (f : PortController → PortController) : (s.modifyPort p f).lease = s.lease := rfl
@[simp] theorem State.modifyPort_settings (s : State) (p : Port) (f : PortController → PortController) : (s.modifyPort p f).settings = s.settings := rfl
@[simp] theorem State.modifyPort_timebase (s : State) (p : Port) (f : PortController → PortController) : (s.modifyPort p f).timebase = s.timebase := rfl
@[simp] theorem State.modifyPort_portCounters (s : State) (p : Port) (f : PortController → PortController) : (s.modifyPort p f).portCounters = s.portCounters := rfl
@[simp] theorem State.modifyPort_deviceCounters (s : State) (p : Port) (f : PortController → PortController) : (s.modifyPort p f).deviceCounters = s.deviceCounters := rfl
@[simp] theorem State.modifyPort_pending (s : State) (p : Port) (f : PortController → PortController) : (s.modifyPort p f).pending = s.pending := rfl
@[simp] theorem State.modifyNotices_resetHeld (s : State) (p : Port) (f : NoticePort → NoticePort) : (s.modifyNotices p f).resetHeld = s.resetHeld := rfl
@[simp] theorem State.modifyNotices_ready (s : State) (p : Port) (f : NoticePort → NoticePort) : (s.modifyNotices p f).ready = s.ready := rfl
@[simp] theorem State.modifyNotices_directory (s : State) (p : Port) (f : NoticePort → NoticePort) : (s.modifyNotices p f).directory = s.directory := rfl
@[simp] theorem State.modifyNotices_lastGranted (s : State) (p : Port) (f : NoticePort → NoticePort) : (s.modifyNotices p f).lastGranted = s.lastGranted := rfl
@[simp] theorem State.modifyNotices_grant (s : State) (p : Port) (f : NoticePort → NoticePort) : (s.modifyNotices p f).grant = s.grant := rfl
@[simp] theorem State.modifyNotices_domains (s : State) (p : Port) (f : NoticePort → NoticePort) : (s.modifyNotices p f).domains = s.domains := rfl
@[simp] theorem State.modifyNotices_transfers (s : State) (p : Port) (f : NoticePort → NoticePort) : (s.modifyNotices p f).transfers = s.transfers := rfl
@[simp] theorem State.modifyNotices_maintenance (s : State) (p : Port) (f : NoticePort → NoticePort) : (s.modifyNotices p f).maintenance = s.maintenance := rfl
@[simp] theorem State.modifyNotices_ports (s : State) (p : Port) (f : NoticePort → NoticePort) : (s.modifyNotices p f).ports = s.ports := rfl
@[simp] theorem State.modifyNotices_lease (s : State) (p : Port) (f : NoticePort → NoticePort) : (s.modifyNotices p f).lease = s.lease := rfl
@[simp] theorem State.modifyNotices_settings (s : State) (p : Port) (f : NoticePort → NoticePort) : (s.modifyNotices p f).settings = s.settings := rfl
@[simp] theorem State.modifyNotices_timebase (s : State) (p : Port) (f : NoticePort → NoticePort) : (s.modifyNotices p f).timebase = s.timebase := rfl
@[simp] theorem State.modifyNotices_portCounters (s : State) (p : Port) (f : NoticePort → NoticePort) : (s.modifyNotices p f).portCounters = s.portCounters := rfl
@[simp] theorem State.modifyNotices_deviceCounters (s : State) (p : Port) (f : NoticePort → NoticePort) : (s.modifyNotices p f).deviceCounters = s.deviceCounters := rfl
@[simp] theorem State.modifyNotices_pending (s : State) (p : Port) (f : NoticePort → NoticePort) : (s.modifyNotices p f).pending = s.pending := rfl
@[simp] theorem State.modifyDomain_resetHeld (s : State) (d : DomainId) (f : Domain → Domain) : (s.modifyDomain d f).resetHeld = s.resetHeld := rfl
@[simp] theorem State.modifyDomain_ready (s : State) (d : DomainId) (f : Domain → Domain) : (s.modifyDomain d f).ready = s.ready := rfl
@[simp] theorem State.modifyDomain_directory (s : State) (d : DomainId) (f : Domain → Domain) : (s.modifyDomain d f).directory = s.directory := rfl
@[simp] theorem State.modifyDomain_lastGranted (s : State) (d : DomainId) (f : Domain → Domain) : (s.modifyDomain d f).lastGranted = s.lastGranted := rfl
@[simp] theorem State.modifyDomain_grant (s : State) (d : DomainId) (f : Domain → Domain) : (s.modifyDomain d f).grant = s.grant := rfl
@[simp] theorem State.modifyDomain_transfers (s : State) (d : DomainId) (f : Domain → Domain) : (s.modifyDomain d f).transfers = s.transfers := rfl
@[simp] theorem State.modifyDomain_maintenance (s : State) (d : DomainId) (f : Domain → Domain) : (s.modifyDomain d f).maintenance = s.maintenance := rfl
@[simp] theorem State.modifyDomain_ports (s : State) (d : DomainId) (f : Domain → Domain) : (s.modifyDomain d f).ports = s.ports := rfl
@[simp] theorem State.modifyDomain_notices (s : State) (d : DomainId) (f : Domain → Domain) : (s.modifyDomain d f).notices = s.notices := rfl
@[simp] theorem State.modifyDomain_lease (s : State) (d : DomainId) (f : Domain → Domain) : (s.modifyDomain d f).lease = s.lease := rfl
@[simp] theorem State.modifyDomain_settings (s : State) (d : DomainId) (f : Domain → Domain) : (s.modifyDomain d f).settings = s.settings := rfl
@[simp] theorem State.modifyDomain_timebase (s : State) (d : DomainId) (f : Domain → Domain) : (s.modifyDomain d f).timebase = s.timebase := rfl
@[simp] theorem State.modifyDomain_portCounters (s : State) (d : DomainId) (f : Domain → Domain) : (s.modifyDomain d f).portCounters = s.portCounters := rfl
@[simp] theorem State.modifyDomain_deviceCounters (s : State) (d : DomainId) (f : Domain → Domain) : (s.modifyDomain d f).deviceCounters = s.deviceCounters := rfl
@[simp] theorem State.modifyDomain_pending (s : State) (d : DomainId) (f : Domain → Domain) : (s.modifyDomain d f).pending = s.pending := rfl
@[simp] theorem State.setEntry_resetHeld (s : State) (i : TransferIndex) (e : Option Transfer) : (s.setEntry i e).resetHeld = s.resetHeld := rfl
@[simp] theorem State.setEntry_ready (s : State) (i : TransferIndex) (e : Option Transfer) : (s.setEntry i e).ready = s.ready := rfl
@[simp] theorem State.setEntry_directory (s : State) (i : TransferIndex) (e : Option Transfer) : (s.setEntry i e).directory = s.directory := rfl
@[simp] theorem State.setEntry_lastGranted (s : State) (i : TransferIndex) (e : Option Transfer) : (s.setEntry i e).lastGranted = s.lastGranted := rfl
@[simp] theorem State.setEntry_grant (s : State) (i : TransferIndex) (e : Option Transfer) : (s.setEntry i e).grant = s.grant := rfl
@[simp] theorem State.setEntry_domains (s : State) (i : TransferIndex) (e : Option Transfer) : (s.setEntry i e).domains = s.domains := rfl
@[simp] theorem State.setEntry_maintenance (s : State) (i : TransferIndex) (e : Option Transfer) : (s.setEntry i e).maintenance = s.maintenance := rfl
@[simp] theorem State.setEntry_ports (s : State) (i : TransferIndex) (e : Option Transfer) : (s.setEntry i e).ports = s.ports := rfl
@[simp] theorem State.setEntry_notices (s : State) (i : TransferIndex) (e : Option Transfer) : (s.setEntry i e).notices = s.notices := rfl
@[simp] theorem State.setEntry_lease (s : State) (i : TransferIndex) (e : Option Transfer) : (s.setEntry i e).lease = s.lease := rfl
@[simp] theorem State.setEntry_settings (s : State) (i : TransferIndex) (e : Option Transfer) : (s.setEntry i e).settings = s.settings := rfl
@[simp] theorem State.setEntry_timebase (s : State) (i : TransferIndex) (e : Option Transfer) : (s.setEntry i e).timebase = s.timebase := rfl
@[simp] theorem State.setEntry_portCounters (s : State) (i : TransferIndex) (e : Option Transfer) : (s.setEntry i e).portCounters = s.portCounters := rfl
@[simp] theorem State.setEntry_deviceCounters (s : State) (i : TransferIndex) (e : Option Transfer) : (s.setEntry i e).deviceCounters = s.deviceCounters := rfl
@[simp] theorem State.setEntry_pending (s : State) (i : TransferIndex) (e : Option Transfer) : (s.setEntry i e).pending = s.pending := rfl
@[simp] theorem State.withQueue_resetHeld (s : State) (q : List Job) : (s.withQueue q).resetHeld = s.resetHeld := rfl
@[simp] theorem State.withQueue_ready (s : State) (q : List Job) : (s.withQueue q).ready = s.ready := rfl
@[simp] theorem State.withQueue_directory (s : State) (q : List Job) : (s.withQueue q).directory = s.directory := rfl
@[simp] theorem State.withQueue_lastGranted (s : State) (q : List Job) : (s.withQueue q).lastGranted = s.lastGranted := rfl
@[simp] theorem State.withQueue_grant (s : State) (q : List Job) : (s.withQueue q).grant = s.grant := rfl
@[simp] theorem State.withQueue_domains (s : State) (q : List Job) : (s.withQueue q).domains = s.domains := rfl
@[simp] theorem State.withQueue_transfers (s : State) (q : List Job) : (s.withQueue q).transfers = s.transfers := rfl
@[simp] theorem State.withQueue_ports (s : State) (q : List Job) : (s.withQueue q).ports = s.ports := rfl
@[simp] theorem State.withQueue_notices (s : State) (q : List Job) : (s.withQueue q).notices = s.notices := rfl
@[simp] theorem State.withQueue_lease (s : State) (q : List Job) : (s.withQueue q).lease = s.lease := rfl
@[simp] theorem State.withQueue_settings (s : State) (q : List Job) : (s.withQueue q).settings = s.settings := rfl
@[simp] theorem State.withQueue_timebase (s : State) (q : List Job) : (s.withQueue q).timebase = s.timebase := rfl
@[simp] theorem State.withQueue_portCounters (s : State) (q : List Job) : (s.withQueue q).portCounters = s.portCounters := rfl
@[simp] theorem State.withQueue_deviceCounters (s : State) (q : List Job) : (s.withQueue q).deviceCounters = s.deviceCounters := rfl
@[simp] theorem State.withQueue_pending (s : State) (q : List Job) : (s.withQueue q).pending = s.pending := rfl
@[simp] theorem State.setCounter_resetHeld (s : State) (c : CounterId) (v : Count32) : (s.setCounter c v).resetHeld = s.resetHeld := by cases c <;> rfl
@[simp] theorem State.setCounter_ready (s : State) (c : CounterId) (v : Count32) : (s.setCounter c v).ready = s.ready := by cases c <;> rfl
@[simp] theorem State.setCounter_directory (s : State) (c : CounterId) (v : Count32) : (s.setCounter c v).directory = s.directory := by cases c <;> rfl
@[simp] theorem State.setCounter_lastGranted (s : State) (c : CounterId) (v : Count32) : (s.setCounter c v).lastGranted = s.lastGranted := by cases c <;> rfl
@[simp] theorem State.setCounter_grant (s : State) (c : CounterId) (v : Count32) : (s.setCounter c v).grant = s.grant := by cases c <;> rfl
@[simp] theorem State.setCounter_domains (s : State) (c : CounterId) (v : Count32) : (s.setCounter c v).domains = s.domains := by cases c <;> rfl
@[simp] theorem State.setCounter_transfers (s : State) (c : CounterId) (v : Count32) : (s.setCounter c v).transfers = s.transfers := by cases c <;> rfl
@[simp] theorem State.setCounter_maintenance (s : State) (c : CounterId) (v : Count32) : (s.setCounter c v).maintenance = s.maintenance := by cases c <;> rfl
@[simp] theorem State.setCounter_ports (s : State) (c : CounterId) (v : Count32) : (s.setCounter c v).ports = s.ports := by cases c <;> rfl
@[simp] theorem State.setCounter_notices (s : State) (c : CounterId) (v : Count32) : (s.setCounter c v).notices = s.notices := by cases c <;> rfl
@[simp] theorem State.setCounter_lease (s : State) (c : CounterId) (v : Count32) : (s.setCounter c v).lease = s.lease := by cases c <;> rfl
@[simp] theorem State.setCounter_settings (s : State) (c : CounterId) (v : Count32) : (s.setCounter c v).settings = s.settings := by cases c <;> rfl
@[simp] theorem State.setCounter_timebase (s : State) (c : CounterId) (v : Count32) : (s.setCounter c v).timebase = s.timebase := by cases c <;> rfl
@[simp] theorem State.setCounter_pending (s : State) (c : CounterId) (v : Count32) : (s.setCounter c v).pending = s.pending := by cases c <;> rfl

theorem PerPort.ext_get {α : Type} {v w : PerPort α} (h : ∀ p, v.get p = w.get p) : v = w := by
  have h0 := h .p0; have h1 := h .p1; have h2 := h .p2; have h3 := h .p3
  cases v; cases w; simp_all [PerPort.get]

@[simp] theorem PerPort.get_set_same {α : Type} (v : PerPort α) (p : Port) (x : α) : (v.set p x).get p = x := by
  cases p <;> rfl

theorem PerPort.get_set {α : Type} (v : PerPort α) (p q : Port) (x : α) :
    (v.set p x).get q = if q = p then x else v.get q := by
  cases p <;> cases q <;> rfl

@[simp] theorem PerPort.get_set_ne {α : Type} (v : PerPort α) {p q : Port} (x : α) (h : q ≠ p) :
    (v.set p x).get q = v.get q := by
  rw [PerPort.get_set, if_neg h]

@[simp] theorem PerPort.get_all {α : Type} (x : α) (p : Port) : (PerPort.all x).get p = x := by
  cases p <;> rfl

@[simp] theorem PerPort.get_map {α β : Type} (f : α → β) (v : PerPort α) (p : Port) :
    (v.map f).get p = f (v.get p) := by
  cases p <;> rfl

theorem State.port_modifyPort (s : State) (p q : Port) (f : PortController → PortController) :
    (s.modifyPort p f).port q = if q = p then f (s.port p) else s.port q := by
  simp [State.modifyPort, State.port, PerPort.get_set]

@[simp] theorem State.port_modifyPort_same (s : State) (p : Port) (f : PortController → PortController) :
    (s.modifyPort p f).port p = f (s.port p) := by
  simp [State.port_modifyPort]

theorem State.noticePort_modifyNotices (s : State) (p q : Port) (f : NoticePort → NoticePort) :
    (s.modifyNotices p f).noticePort q = if q = p then f (s.noticePort p) else s.noticePort q := by
  simp [State.modifyNotices, State.noticePort, PerPort.get_set]

theorem State.domain_modifyDomain (s : State) (d e : DomainId) (f : Domain → Domain) :
    (s.modifyDomain d f).domain e = if e = d then f (s.domain d) else s.domain e := by
  simp only [State.modifyDomain, State.domain, State.withDomains_domains, Vector.get_eq_getElem, Vector.getElem_set,
    Fin.val_inj, eq_comm (a := e)]

theorem State.entry_setEntry (s : State) (i j : TransferIndex) (e : Option Transfer) :
    (s.setEntry i e).entry j = if j = i then e else s.entry j := by
  simp only [State.setEntry, State.entry, State.withTransfers_transfers, Vector.get_eq_getElem, Vector.getElem_set,
    Fin.val_inj, eq_comm (a := j)]

@[simp] theorem State.withQueue_queue (s : State) (q : List Job) : (s.withQueue q).maintenance.queue = q := rfl

theorem PortCounters.get_set (c : PortCounters) (n m : PortCounter) (v : Count32) :
    (c.set n v).get m = if m = n then v else c.get m := by
  cases n <;> cases m <;> rfl

theorem DeviceCounters.get_set (c : DeviceCounters) (n m : DeviceCounter) (v : Count32) :
    (c.set n v).get m = if m = n then v else c.get m := by
  cases n <;> cases m <;> rfl

theorem State.counter_setCounter (s : State) (c e : CounterId) (v : Count32) :
    (s.setCounter c v).counter e = if e = c then v else s.counter e := by
  cases c <;> cases e <;>
    simp [State.setCounter, State.counter, PerPort.get_set, DeviceCounters.get_set]
  split
  · next h => simp [h, PortCounters.get_set]
  · next h => simp [h]

@[simp] theorem State.port_setCounter (s : State) (c : CounterId) (v : Count32) (p : Port) :
    (s.setCounter c v).port p = s.port p := by
  simp [State.port]

@[simp] theorem State.noticePort_setCounter (s : State) (c : CounterId) (v : Count32) (p : Port) :
    (s.setCounter c v).noticePort p = s.noticePort p := by
  simp [State.noticePort]

@[simp] theorem State.port_modifyNotices (s : State) (p q : Port) (f : NoticePort → NoticePort) :
    (s.modifyNotices p f).port q = s.port q := rfl

end Sys2Proof.Machine
end

