-- ==== Sys2Proof/Laws/Directory.lean ====
section
/-! SUPPORT. The slots: reading after writing, and the canonical form, which reset has and every write keeps. -/

namespace Sys2Proof.Machine

/-! ### Lists of listed slots -/

/-- Every listed index is above `i`. -/
def cellsAbove (i : Nat) (l : List (Nat × Slot)) : Prop := ∀ c ∈ l, i < c.1

theorem risingCells_cons {c : Nat × Slot} {l : List (Nat × Slot)} :
    risingCells (c :: l) = true ↔ cellsAbove c.1 l ∧ risingCells l = true := by
  induction l generalizing c with
  | nil => simp [risingCells, cellsAbove]
  | cons d rest ih =>
    obtain ⟨i, x⟩ := c
    obtain ⟨j, y⟩ := d
    simp only [risingCells, Bool.and_eq_true, decide_eq_true_eq]
    constructor
    · rintro ⟨hij, hr⟩
      refine ⟨fun c hc => ?_, hr⟩
      rcases List.mem_cons.1 hc with rfl | hc
      · exact hij
      · exact lt_trans hij ((ih.1 hr).1 c hc)
    · rintro ⟨ha, hr⟩
      exact ⟨ha (j, y) (List.mem_cons_self), hr⟩

theorem readCells_none_of_above {i : Nat} {l : List (Nat × Slot)} (h : cellsAbove i l) : readCells l i = none := by
  induction l with
  | nil => rfl
  | cons c rest ih =>
    have hc : i < c.1 := h c List.mem_cons_self
    simp only [readCells, Nat.ne_of_gt hc, if_false]
    exact ih fun d hd => h d (List.mem_cons_of_mem _ hd)

theorem mem_writeCells {l : List (Nat × Slot)} {i : Nat} {v : Option Slot} {c : Nat × Slot}
    (h : c ∈ writeCells l i v) : c ∈ l ∨ (c.1 = i ∧ v = some c.2) := by
  induction l with
  | nil => cases v <;> simp_all [writeCells]
  | cons d rest ih =>
    simp only [writeCells] at h
    split at h
    · rcases List.mem_cons.1 h with rfl | h
      · exact .inl List.mem_cons_self
      · exact (ih h).imp_left (List.mem_cons_of_mem _)
    · cases v with
      | none => dsimp only at h; split at h <;> simp_all
      | some x =>
        dsimp only at h
        split at h
        · rcases List.mem_cons.1 h with rfl | h
          · exact .inr ⟨rfl, rfl⟩
          · exact .inl (List.mem_cons_of_mem _ h)
        · rcases List.mem_cons.1 h with rfl | h
          · exact .inr ⟨rfl, rfl⟩
          · exact .inl h

theorem writeCells_rising {l : List (Nat × Slot)} (h : risingCells l = true) (i : Nat) (v : Option Slot) :
    risingCells (writeCells l i v) = true := by
  induction l with
  | nil => cases v <;> rfl
  | cons d rest ih =>
    obtain ⟨hd, hr⟩ := risingCells_cons.1 h
    simp only [writeCells]
    split
    · rename_i hlt
      refine risingCells_cons.2 ⟨fun c hc => ?_, ih hr⟩
      rcases mem_writeCells hc with hc | hc
      · exact hd c hc
      · exact hc.1 ▸ hlt
    · rename_i hge
      cases v with
      | none => dsimp only; split <;> assumption
      | some x =>
        dsimp only
        split
        · rename_i he
          exact risingCells_cons.2 ⟨fun c hc => he ▸ hd c hc, hr⟩
        · refine risingCells_cons.2 ⟨fun c hc => ?_, h⟩
          rcases List.mem_cons.1 hc with rfl | hc
          · dsimp only; omega
          · have := hd c hc; dsimp only at this ⊢; omega

theorem readCells_writeCells_same {l : List (Nat × Slot)} (h : risingCells l = true) (i : Nat) (v : Option Slot) :
    readCells (writeCells l i v) i = v := by
  induction l with
  | nil => cases v <;> simp [writeCells, readCells]
  | cons d rest ih =>
    obtain ⟨hd, hr⟩ := risingCells_cons.1 h
    simp only [writeCells]
    split
    · rename_i hlt
      simpa [readCells, Nat.ne_of_lt hlt] using ih hr
    · cases v with
      | none =>
        dsimp only
        split
        · rename_i he
          exact readCells_none_of_above fun c hc => he ▸ hd c hc
        · refine readCells_none_of_above fun c hc => ?_
          rcases List.mem_cons.1 hc with rfl | hc
          · dsimp only; omega
          · have := hd c hc
            omega
      | some x => dsimp only; split <;> simp [readCells]

theorem readCells_writeCells_other {l : List (Nat × Slot)} {i j : Nat} (hij : j ≠ i) (v : Option Slot) :
    readCells (writeCells l i v) j = readCells l j := by
  induction l with
  | nil => cases v <;> simp [writeCells, readCells, Ne.symm hij]
  | cons d rest ih =>
    simp only [writeCells]
    split
    · simp [readCells, ih]
    · cases v with
      | none => dsimp only; split <;> simp_all [readCells, Ne.symm hij]
      | some x => dsimp only; split <;> simp_all [readCells, Ne.symm hij]

/-! ### The directory -/

/-- The canonical form gives rising indices. -/
theorem Directory.wf_rising {d : Directory} (h : d.wf = true) : risingCells d.cells = true := by
  simp only [Directory.wf, Bool.and_eq_true] at h
  exact h.1.1

/-- Every listed slot is OCCUPIED or DEFECTIVE and in a bucket that the start-up clear has processed. -/
theorem Directory.wf_cells {d : Directory} (h : d.wf = true) :
    ∀ c ∈ d.cells, c.1 < Config.ways * d.cleared ∧ c.2.listed.isSome = true := by
  simp only [Directory.wf, Bool.and_eq_true, List.all_eq_true, decide_eq_true_eq] at h
  exact h.1.2

theorem Directory.read_write_other (d : Directory) {i j : Nat} (h : j ≠ i) (x : Slot) :
    (d.write i x).read j = d.read j := by
  unfold Directory.read Directory.write
  rw [readCells_writeCells_other h]
  rfl

/-- A written OCCUPIED or DEFECTIVE slot reads back. -/
theorem Directory.read_write_listed {d : Directory} (h : d.wf = true) (i : Nat) {x : Slot} (hx : x.listed = some x) :
    (d.write i x).read i = x := by
  simp [Directory.read, Directory.write, readCells_writeCells_same (Directory.wf_rising h), hx]

/-- A slot written FREE reads FREE in a bucket that the start-up clear has processed. -/
theorem Directory.read_write_free {d : Directory} (h : d.wf = true) {i : Nat} (hi : i < Config.ways * d.cleared) :
    (d.write i .free).read i = .free := by
  simp [Directory.read, Directory.write, readCells_writeCells_same (Directory.wf_rising h), Slot.listed,
    Directory.unlisted, hi]

/-- A slot that is FREE, OCCUPIED or DEFECTIVE lies in a bucket that the start-up clear has processed. -/
theorem Directory.read_inRange {d : Directory} (h : d.wf = true) {i : Nat} (hi : d.read i ≠ .undefined) :
    i < Config.ways * d.cleared := by
  by_contra hn
  have hcells := Directory.wf_cells h
  have hnone : readCells d.cells i = none := by
    have hout : ∀ c ∈ d.cells, c.1 ≠ i := fun c hc he => hn (he ▸ (hcells c hc).1)
    generalize d.cells = l at hout
    induction l with
    | nil => rfl
    | cons c rest ih =>
      simp only [readCells, hout c List.mem_cons_self, if_false]
      exact ih fun e he => hout e (List.mem_cons_of_mem _ he)
  exact hi (by simp [Directory.read, hnone, Directory.unlisted, hn])

/-- Writing a slot of a processed bucket keeps the canonical form. -/
theorem Directory.write_wf {d : Directory} (h : d.wf = true) {i : Nat} (hi : i < Config.ways * d.cleared) (x : Slot) :
    (d.write i x).wf = true := by
  have hrise := Directory.wf_rising h
  have hcells := Directory.wf_cells h
  have hb : d.cleared ≤ Config.buckets := by
    simp only [Directory.wf, Bool.and_eq_true, decide_eq_true_eq] at h
    exact h.2
  simp only [Directory.wf, Directory.write, Bool.and_eq_true, List.all_eq_true]
  refine ⟨⟨writeCells_rising hrise i _, fun c hc => ?_⟩, decide_eq_true hb⟩
  rcases mem_writeCells hc with hc | ⟨rfl, hv⟩
  · exact (hcells c hc).imp_left (decide_eq_true ·)
  · refine ⟨decide_eq_true hi, ?_⟩
    obtain ⟨j, y⟩ := c
    cases x <;> simp [Slot.listed] at hv <;> subst hv <;> rfl

/-- The directory after RESET_N has the canonical form. -/
theorem Directory.atReset_wf : Directory.atReset.wf = true := by decide

/-- Every slot is undefined after RESET_N (R23). -/
theorem Directory.atReset_read (i : Nat) : Directory.atReset.read i = .undefined := by
  simp [Directory.read, Directory.atReset, readCells, Directory.unlisted]

/-! ### Slots of the state -/

@[simp] theorem State.writeSlot_slot_other (s : State) {i j : Nat} (h : j ≠ i) (x : Slot) :
    (s.writeSlot i x).slot j = s.slot j :=
  Directory.read_write_other s.directory h x

@[simp] theorem State.putBinding_slot_other (s : State) {i j : Nat} (h : j ≠ i) (b : Binding) :
    (s.putBinding i b).slot j = s.slot j :=
  State.writeSlot_slot_other s h _

theorem State.putBinding_slot_same {s : State} (h : s.directory.wf = true) (i : Nat) (b : Binding) :
    (s.putBinding i b).slot i = .occupied b :=
  Directory.read_write_listed h i rfl

/-- What a list of slots lists at an index stands in it. -/
theorem readCells_mem {l : List (Nat × Slot)} {i : Nat} {x : Slot} (h : readCells l i = some x) : (i, x) ∈ l := by
  induction l with
  | nil => simp [readCells] at h
  | cons c rest ih =>
    unfold readCells at h
    split at h
    · next hc =>
      obtain ⟨j, y⟩ := c
      simp_all
    · exact List.mem_cons_of_mem _ (ih h)

/-- An OCCUPIED slot is listed. -/
theorem State.occupied_mem {s : State} {i : Nat} {b : Binding} (h : s.slot i = .occupied b) :
    (i, .occupied b) ∈ s.directory.cells := by
  refine readCells_mem ?_
  cases hr : readCells s.directory.cells i with
  | none =>
    simp only [State.slot, Directory.read, hr, Option.getD_none, Directory.unlisted] at h
    split at h <;> cases h
  | some x =>
    simp only [State.slot, Directory.read, hr, Option.getD_some] at h
    rw [h]

end Sys2Proof.Machine
end

