-- ==== Sys2Proof/Laws/Frame.lean ====
section
/-! SUPPORT. The frame of each shared operation: one lemma for each field of State that the operation leaves as it was. -/

namespace Sys2Proof.Machine

/-! ### Notices and counts -/

@[simp] theorem State.bump_frame (s : State) (c : CounterId) :
    ((s.bump c).1).resetHeld = s.resetHeld ∧ ((s.bump c).1).ready = s.ready ∧ ((s.bump c).1).directory = s.directory
      ∧ ((s.bump c).1).lastGranted = s.lastGranted ∧ ((s.bump c).1).grant = s.grant
      ∧ ((s.bump c).1).domains = s.domains ∧ ((s.bump c).1).transfers = s.transfers
      ∧ ((s.bump c).1).maintenance = s.maintenance ∧ ((s.bump c).1).ports = s.ports
      ∧ ((s.bump c).1).notices = s.notices ∧ ((s.bump c).1).lease = s.lease ∧ ((s.bump c).1).settings = s.settings
      ∧ ((s.bump c).1).timebase = s.timebase ∧ ((s.bump c).1).pending = s.pending := by simp [State.bump]

@[simp] theorem State.offerCopy_frame (s : State) (n : Notice) (p : Port) :
    ((s.offerCopy n p).1).resetHeld = s.resetHeld ∧ ((s.offerCopy n p).1).ready = s.ready
      ∧ ((s.offerCopy n p).1).directory = s.directory ∧ ((s.offerCopy n p).1).lastGranted = s.lastGranted
      ∧ ((s.offerCopy n p).1).grant = s.grant ∧ ((s.offerCopy n p).1).domains = s.domains
      ∧ ((s.offerCopy n p).1).transfers = s.transfers ∧ ((s.offerCopy n p).1).maintenance = s.maintenance
      ∧ ((s.offerCopy n p).1).ports = s.ports ∧ ((s.offerCopy n p).1).lease = s.lease
      ∧ ((s.offerCopy n p).1).settings = s.settings ∧ ((s.offerCopy n p).1).timebase = s.timebase
      ∧ ((s.offerCopy n p).1).deviceCounters = s.deviceCounters ∧ ((s.offerCopy n p).1).pending = s.pending := by
  unfold State.offerCopy; split <;> simp [State.bump, State.setCounter]

@[simp] theorem State.offerCopies_frame (s : State) (a : Audience) (n : Notice) (l : List Port) :
    ((s.offerCopies a n l).1).resetHeld = s.resetHeld ∧ ((s.offerCopies a n l).1).ready = s.ready
      ∧ ((s.offerCopies a n l).1).directory = s.directory ∧ ((s.offerCopies a n l).1).lastGranted = s.lastGranted
      ∧ ((s.offerCopies a n l).1).grant = s.grant ∧ ((s.offerCopies a n l).1).domains = s.domains
      ∧ ((s.offerCopies a n l).1).transfers = s.transfers ∧ ((s.offerCopies a n l).1).maintenance = s.maintenance
      ∧ ((s.offerCopies a n l).1).ports = s.ports ∧ ((s.offerCopies a n l).1).lease = s.lease
      ∧ ((s.offerCopies a n l).1).settings = s.settings ∧ ((s.offerCopies a n l).1).timebase = s.timebase
      ∧ ((s.offerCopies a n l).1).deviceCounters = s.deviceCounters ∧ ((s.offerCopies a n l).1).pending = s.pending := by
  induction l generalizing s with
  | nil => simp [State.offerCopies]
  | cons p rest ih => unfold State.offerCopies; split <;> simp [ih]

@[simp] theorem State.handOver_frame (s : State) (k : Nat) (l : List (Audience × Notice)) :
    (s.handOver k l).resetHeld = s.resetHeld ∧ (s.handOver k l).ready = s.ready
      ∧ (s.handOver k l).directory = s.directory ∧ (s.handOver k l).lastGranted = s.lastGranted
      ∧ (s.handOver k l).grant = s.grant ∧ (s.handOver k l).domains = s.domains
      ∧ (s.handOver k l).transfers = s.transfers ∧ (s.handOver k l).maintenance = s.maintenance
      ∧ (s.handOver k l).ports = s.ports ∧ (s.handOver k l).lease = s.lease ∧ (s.handOver k l).settings = s.settings
      ∧ (s.handOver k l).timebase = s.timebase ∧ (s.handOver k l).deviceCounters = s.deviceCounters
      ∧ (s.handOver k l).pending = s.pending := by
  induction k generalizing s l with
  | zero => simp [State.handOver]
  | succ k ih => cases l <;> simp [State.handOver, ih]

@[simp] theorem State.notify_frame (s : State) (a : Audience) (n : Notice) :
    (s.notify a n).resetHeld = s.resetHeld ∧ (s.notify a n).ready = s.ready ∧ (s.notify a n).directory = s.directory
      ∧ (s.notify a n).lastGranted = s.lastGranted ∧ (s.notify a n).grant = s.grant
      ∧ (s.notify a n).domains = s.domains ∧ (s.notify a n).transfers = s.transfers
      ∧ (s.notify a n).maintenance = s.maintenance ∧ (s.notify a n).ports = s.ports ∧ (s.notify a n).lease = s.lease
      ∧ (s.notify a n).settings = s.settings ∧ (s.notify a n).timebase = s.timebase
      ∧ (s.notify a n).deviceCounters = s.deviceCounters ∧ (s.notify a n).pending = s.pending := by simp [State.notify]

@[simp] theorem State.count_frame (s : State) (c : CounterId) :
    (s.count c).resetHeld = s.resetHeld ∧ (s.count c).ready = s.ready ∧ (s.count c).directory = s.directory
      ∧ (s.count c).lastGranted = s.lastGranted ∧ (s.count c).grant = s.grant ∧ (s.count c).domains = s.domains
      ∧ (s.count c).transfers = s.transfers ∧ (s.count c).maintenance = s.maintenance ∧ (s.count c).ports = s.ports
      ∧ (s.count c).lease = s.lease ∧ (s.count c).settings = s.settings ∧ (s.count c).timebase = s.timebase
      ∧ (s.count c).pending = s.pending := by
  unfold State.count; dsimp only; split <;> simp

@[simp] theorem State.report_frame (s : State) (r : Report) :
    (s.report r).resetHeld = s.resetHeld ∧ (s.report r).ready = s.ready ∧ (s.report r).directory = s.directory
      ∧ (s.report r).lastGranted = s.lastGranted ∧ (s.report r).domains = s.domains
      ∧ (s.report r).transfers = s.transfers ∧ (s.report r).maintenance = s.maintenance ∧ (s.report r).ports = s.ports
      ∧ (s.report r).notices = s.notices ∧ (s.report r).lease = s.lease ∧ (s.report r).settings = s.settings
      ∧ (s.report r).timebase = s.timebase ∧ (s.report r).portCounters = s.portCounters
      ∧ (s.report r).deviceCounters = s.deviceCounters ∧ (s.report r).pending = s.pending := by
  refine ⟨rfl, rfl, rfl, rfl, rfl, rfl, rfl, rfl, rfl, rfl, rfl, rfl, rfl, rfl, rfl⟩

@[simp] theorem State.notifyInGrant_frame (s : State) (a : Audience) (n : Notice) :
    (s.notifyInGrant a n).resetHeld = s.resetHeld ∧ (s.notifyInGrant a n).ready = s.ready
      ∧ (s.notifyInGrant a n).directory = s.directory ∧ (s.notifyInGrant a n).lastGranted = s.lastGranted
      ∧ (s.notifyInGrant a n).domains = s.domains ∧ (s.notifyInGrant a n).transfers = s.transfers
      ∧ (s.notifyInGrant a n).maintenance = s.maintenance ∧ (s.notifyInGrant a n).ports = s.ports
      ∧ (s.notifyInGrant a n).notices = s.notices ∧ (s.notifyInGrant a n).lease = s.lease
      ∧ (s.notifyInGrant a n).settings = s.settings ∧ (s.notifyInGrant a n).timebase = s.timebase
      ∧ (s.notifyInGrant a n).portCounters = s.portCounters ∧ (s.notifyInGrant a n).deviceCounters = s.deviceCounters
      ∧ (s.notifyInGrant a n).pending = s.pending := by
  refine ⟨rfl, rfl, rfl, rfl, rfl, rfl, rfl, rfl, rfl, rfl, rfl, rfl, rfl, rfl, rfl⟩

@[simp] theorem State.countInGrant_frame (s : State) (c : CounterId) :
    (s.countInGrant c).resetHeld = s.resetHeld ∧ (s.countInGrant c).ready = s.ready
      ∧ (s.countInGrant c).directory = s.directory ∧ (s.countInGrant c).lastGranted = s.lastGranted
      ∧ (s.countInGrant c).domains = s.domains ∧ (s.countInGrant c).transfers = s.transfers
      ∧ (s.countInGrant c).maintenance = s.maintenance ∧ (s.countInGrant c).ports = s.ports
      ∧ (s.countInGrant c).notices = s.notices ∧ (s.countInGrant c).lease = s.lease
      ∧ (s.countInGrant c).settings = s.settings ∧ (s.countInGrant c).timebase = s.timebase
      ∧ (s.countInGrant c).portCounters = s.portCounters ∧ (s.countInGrant c).deviceCounters = s.deviceCounters
      ∧ (s.countInGrant c).pending = s.pending := by
  refine ⟨rfl, rfl, rfl, rfl, rfl, rfl, rfl, rfl, rfl, rfl, rfl, rfl, rfl, rfl, rfl⟩

@[simp] theorem State.deliver_frame (s : State) (r : Report) :
    (s.deliver r).resetHeld = s.resetHeld ∧ (s.deliver r).ready = s.ready ∧ (s.deliver r).directory = s.directory
      ∧ (s.deliver r).lastGranted = s.lastGranted ∧ (s.deliver r).grant = s.grant ∧ (s.deliver r).domains = s.domains
      ∧ (s.deliver r).transfers = s.transfers ∧ (s.deliver r).maintenance = s.maintenance
      ∧ (s.deliver r).ports = s.ports ∧ (s.deliver r).lease = s.lease ∧ (s.deliver r).settings = s.settings
      ∧ (s.deliver r).timebase = s.timebase ∧ (s.deliver r).pending = s.pending := by cases r <;> simp [State.deliver]

@[simp] theorem State.deliverAll_frame (s : State) (l : List Report) :
    (l.foldl State.deliver s).resetHeld = s.resetHeld ∧ (l.foldl State.deliver s).ready = s.ready
      ∧ (l.foldl State.deliver s).directory = s.directory ∧ (l.foldl State.deliver s).lastGranted = s.lastGranted
      ∧ (l.foldl State.deliver s).grant = s.grant ∧ (l.foldl State.deliver s).domains = s.domains
      ∧ (l.foldl State.deliver s).transfers = s.transfers ∧ (l.foldl State.deliver s).maintenance = s.maintenance
      ∧ (l.foldl State.deliver s).ports = s.ports ∧ (l.foldl State.deliver s).lease = s.lease
      ∧ (l.foldl State.deliver s).settings = s.settings ∧ (l.foldl State.deliver s).timebase = s.timebase
      ∧ (l.foldl State.deliver s).pending = s.pending := by
  induction l generalizing s with
  | nil => simp
  | cons r rest ih => simp [ih]

/-! ### The arbiter and requests -/

@[simp] theorem State.acted_frame (s : State) (e : Ending) :
    (s.acted e).resetHeld = s.resetHeld ∧ (s.acted e).ready = s.ready ∧ (s.acted e).directory = s.directory
      ∧ (s.acted e).lastGranted = s.lastGranted ∧ (s.acted e).domains = s.domains
      ∧ (s.acted e).transfers = s.transfers ∧ (s.acted e).maintenance = s.maintenance ∧ (s.acted e).ports = s.ports
      ∧ (s.acted e).notices = s.notices ∧ (s.acted e).lease = s.lease ∧ (s.acted e).settings = s.settings
      ∧ (s.acted e).timebase = s.timebase ∧ (s.acted e).portCounters = s.portCounters
      ∧ (s.acted e).deviceCounters = s.deviceCounters ∧ (s.acted e).pending = s.pending := by
  refine ⟨rfl, rfl, rfl, rfl, rfl, rfl, rfl, rfl, rfl, rfl, rfl, rfl, rfl, rfl, rfl⟩

@[simp] theorem State.arbitrate_frame (s : State) :
    (s.arbitrate).resetHeld = s.resetHeld ∧ (s.arbitrate).ready = s.ready ∧ (s.arbitrate).directory = s.directory
      ∧ (s.arbitrate).domains = s.domains ∧ (s.arbitrate).transfers = s.transfers
      ∧ (s.arbitrate).maintenance = s.maintenance ∧ (s.arbitrate).ports = s.ports ∧ (s.arbitrate).notices = s.notices
      ∧ (s.arbitrate).lease = s.lease ∧ (s.arbitrate).settings = s.settings ∧ (s.arbitrate).timebase = s.timebase
      ∧ (s.arbitrate).portCounters = s.portCounters ∧ (s.arbitrate).deviceCounters = s.deviceCounters
      ∧ (s.arbitrate).pending = s.pending := by
  unfold State.arbitrate; split
  · simp
  · split <;> simp

@[simp] theorem State.endGrant_frame (s : State) :
    (s.endGrant).resetHeld = s.resetHeld ∧ (s.endGrant).ready = s.ready ∧ (s.endGrant).directory = s.directory
      ∧ (s.endGrant).domains = s.domains ∧ (s.endGrant).transfers = s.transfers
      ∧ (s.endGrant).maintenance = s.maintenance ∧ (s.endGrant).ports = s.ports ∧ (s.endGrant).notices = s.notices
      ∧ (s.endGrant).lease = s.lease ∧ (s.endGrant).settings = s.settings ∧ (s.endGrant).timebase = s.timebase
      ∧ (s.endGrant).portCounters = s.portCounters ∧ (s.endGrant).deviceCounters = s.deviceCounters
      ∧ (s.endGrant).pending = s.pending := by simp [State.endGrant]

@[simp] theorem State.respond_frame (s : State) (p : Port) (rq : RequestFrame) (st : Status) (res : Result) :
    (s.respond p rq st res).resetHeld = s.resetHeld ∧ (s.respond p rq st res).ready = s.ready
      ∧ (s.respond p rq st res).directory = s.directory ∧ (s.respond p rq st res).lastGranted = s.lastGranted
      ∧ (s.respond p rq st res).grant = s.grant ∧ (s.respond p rq st res).domains = s.domains
      ∧ (s.respond p rq st res).transfers = s.transfers ∧ (s.respond p rq st res).maintenance = s.maintenance
      ∧ (s.respond p rq st res).lease = s.lease ∧ (s.respond p rq st res).settings = s.settings
      ∧ (s.respond p rq st res).timebase = s.timebase ∧ (s.respond p rq st res).pending = s.pending := by
  unfold State.respond; dsimp only; split <;> simp

@[simp] theorem State.takeCredit_frame (s : State) (p : Port) :
    (s.takeCredit p).resetHeld = s.resetHeld ∧ (s.takeCredit p).ready = s.ready
      ∧ (s.takeCredit p).directory = s.directory ∧ (s.takeCredit p).lastGranted = s.lastGranted
      ∧ (s.takeCredit p).grant = s.grant ∧ (s.takeCredit p).domains = s.domains
      ∧ (s.takeCredit p).transfers = s.transfers ∧ (s.takeCredit p).maintenance = s.maintenance
      ∧ (s.takeCredit p).notices = s.notices ∧ (s.takeCredit p).lease = s.lease
      ∧ (s.takeCredit p).settings = s.settings ∧ (s.takeCredit p).timebase = s.timebase
      ∧ (s.takeCredit p).portCounters = s.portCounters ∧ (s.takeCredit p).deviceCounters = s.deviceCounters
      ∧ (s.takeCredit p).pending = s.pending := by
  refine ⟨rfl, rfl, rfl, rfl, rfl, rfl, rfl, rfl, rfl, rfl, rfl, rfl, rfl, rfl, rfl⟩

/-! ### Slots and counts of bindings -/

@[simp] theorem State.writeSlot_frame (s : State) (i : Nat) (x : Slot) :
    (s.writeSlot i x).resetHeld = s.resetHeld ∧ (s.writeSlot i x).ready = s.ready
      ∧ (s.writeSlot i x).lastGranted = s.lastGranted ∧ (s.writeSlot i x).grant = s.grant
      ∧ (s.writeSlot i x).domains = s.domains ∧ (s.writeSlot i x).transfers = s.transfers
      ∧ (s.writeSlot i x).maintenance = s.maintenance ∧ (s.writeSlot i x).ports = s.ports
      ∧ (s.writeSlot i x).notices = s.notices ∧ (s.writeSlot i x).lease = s.lease
      ∧ (s.writeSlot i x).settings = s.settings ∧ (s.writeSlot i x).timebase = s.timebase
      ∧ (s.writeSlot i x).portCounters = s.portCounters ∧ (s.writeSlot i x).deviceCounters = s.deviceCounters
      ∧ (s.writeSlot i x).pending = s.pending := by
  refine ⟨rfl, rfl, rfl, rfl, rfl, rfl, rfl, rfl, rfl, rfl, rfl, rfl, rfl, rfl, rfl⟩

@[simp] theorem State.putBinding_frame (s : State) (i : Nat) (b : Binding) :
    (s.putBinding i b).resetHeld = s.resetHeld ∧ (s.putBinding i b).ready = s.ready
      ∧ (s.putBinding i b).lastGranted = s.lastGranted ∧ (s.putBinding i b).grant = s.grant
      ∧ (s.putBinding i b).domains = s.domains ∧ (s.putBinding i b).transfers = s.transfers
      ∧ (s.putBinding i b).maintenance = s.maintenance ∧ (s.putBinding i b).ports = s.ports
      ∧ (s.putBinding i b).notices = s.notices ∧ (s.putBinding i b).lease = s.lease
      ∧ (s.putBinding i b).settings = s.settings ∧ (s.putBinding i b).timebase = s.timebase
      ∧ (s.putBinding i b).portCounters = s.portCounters ∧ (s.putBinding i b).deviceCounters = s.deviceCounters
      ∧ (s.putBinding i b).pending = s.pending := by
  refine ⟨rfl, rfl, rfl, rfl, rfl, rfl, rfl, rfl, rfl, rfl, rfl, rfl, rfl, rfl, rfl⟩

@[simp] theorem State.modifyOwned_frame (s : State) (p : Port) (f : Nat → Nat) :
    (s.modifyOwned p f).resetHeld = s.resetHeld ∧ (s.modifyOwned p f).ready = s.ready
      ∧ (s.modifyOwned p f).lastGranted = s.lastGranted ∧ (s.modifyOwned p f).grant = s.grant
      ∧ (s.modifyOwned p f).domains = s.domains ∧ (s.modifyOwned p f).transfers = s.transfers
      ∧ (s.modifyOwned p f).maintenance = s.maintenance ∧ (s.modifyOwned p f).ports = s.ports
      ∧ (s.modifyOwned p f).notices = s.notices ∧ (s.modifyOwned p f).lease = s.lease
      ∧ (s.modifyOwned p f).settings = s.settings ∧ (s.modifyOwned p f).timebase = s.timebase
      ∧ (s.modifyOwned p f).portCounters = s.portCounters ∧ (s.modifyOwned p f).deviceCounters = s.deviceCounters
      ∧ (s.modifyOwned p f).pending = s.pending := by
  refine ⟨rfl, rfl, rfl, rfl, rfl, rfl, rfl, rfl, rfl, rfl, rfl, rfl, rfl, rfl, rfl⟩

@[simp] theorem State.modifyDefective_frame (s : State) (f : Nat → Nat) :
    (s.modifyDefective f).resetHeld = s.resetHeld ∧ (s.modifyDefective f).ready = s.ready
      ∧ (s.modifyDefective f).lastGranted = s.lastGranted ∧ (s.modifyDefective f).grant = s.grant
      ∧ (s.modifyDefective f).domains = s.domains ∧ (s.modifyDefective f).transfers = s.transfers
      ∧ (s.modifyDefective f).maintenance = s.maintenance ∧ (s.modifyDefective f).ports = s.ports
      ∧ (s.modifyDefective f).notices = s.notices ∧ (s.modifyDefective f).lease = s.lease
      ∧ (s.modifyDefective f).settings = s.settings ∧ (s.modifyDefective f).timebase = s.timebase
      ∧ (s.modifyDefective f).portCounters = s.portCounters ∧ (s.modifyDefective f).deviceCounters = s.deviceCounters
      ∧ (s.modifyDefective f).pending = s.pending := by
  refine ⟨rfl, rfl, rfl, rfl, rfl, rfl, rfl, rfl, rfl, rfl, rfl, rfl, rfl, rfl, rfl⟩

@[simp] theorem State.modifyCount_frame (s : State) (d : DomainId) (f : Nat → Nat) :
    (s.modifyCount d f).resetHeld = s.resetHeld ∧ (s.modifyCount d f).ready = s.ready
      ∧ (s.modifyCount d f).directory = s.directory ∧ (s.modifyCount d f).lastGranted = s.lastGranted
      ∧ (s.modifyCount d f).grant = s.grant ∧ (s.modifyCount d f).transfers = s.transfers
      ∧ (s.modifyCount d f).maintenance = s.maintenance ∧ (s.modifyCount d f).ports = s.ports
      ∧ (s.modifyCount d f).notices = s.notices ∧ (s.modifyCount d f).lease = s.lease
      ∧ (s.modifyCount d f).settings = s.settings ∧ (s.modifyCount d f).timebase = s.timebase
      ∧ (s.modifyCount d f).portCounters = s.portCounters ∧ (s.modifyCount d f).deviceCounters = s.deviceCounters
      ∧ (s.modifyCount d f).pending = s.pending := by
  refine ⟨rfl, rfl, rfl, rfl, rfl, rfl, rfl, rfl, rfl, rfl, rfl, rfl, rfl, rfl, rfl⟩

@[simp] theorem State.modifyOrphans_frame (s : State) (d : DomainId) (f : Nat → Nat) :
    (s.modifyOrphans d f).resetHeld = s.resetHeld ∧ (s.modifyOrphans d f).ready = s.ready
      ∧ (s.modifyOrphans d f).lastGranted = s.lastGranted ∧ (s.modifyOrphans d f).grant = s.grant
      ∧ (s.modifyOrphans d f).transfers = s.transfers ∧ (s.modifyOrphans d f).maintenance = s.maintenance
      ∧ (s.modifyOrphans d f).ports = s.ports ∧ (s.modifyOrphans d f).notices = s.notices
      ∧ (s.modifyOrphans d f).lease = s.lease ∧ (s.modifyOrphans d f).settings = s.settings
      ∧ (s.modifyOrphans d f).timebase = s.timebase ∧ (s.modifyOrphans d f).portCounters = s.portCounters
      ∧ (s.modifyOrphans d f).deviceCounters = s.deviceCounters ∧ (s.modifyOrphans d f).pending = s.pending := by
  refine ⟨rfl, rfl, rfl, rfl, rfl, rfl, rfl, rfl, rfl, rfl, rfl, rfl, rfl, rfl⟩

@[simp] theorem State.countCreation_frame (s : State) (d : DomainId) (q : Port) :
    (s.countCreation d q).resetHeld = s.resetHeld ∧ (s.countCreation d q).ready = s.ready
      ∧ (s.countCreation d q).lastGranted = s.lastGranted ∧ (s.countCreation d q).grant = s.grant
      ∧ (s.countCreation d q).transfers = s.transfers ∧ (s.countCreation d q).maintenance = s.maintenance
      ∧ (s.countCreation d q).ports = s.ports ∧ (s.countCreation d q).notices = s.notices
      ∧ (s.countCreation d q).lease = s.lease ∧ (s.countCreation d q).settings = s.settings
      ∧ (s.countCreation d q).timebase = s.timebase ∧ (s.countCreation d q).portCounters = s.portCounters
      ∧ (s.countCreation d q).deviceCounters = s.deviceCounters ∧ (s.countCreation d q).pending = s.pending := by
  refine ⟨rfl, rfl, rfl, rfl, rfl, rfl, rfl, rfl, rfl, rfl, rfl, rfl, rfl, rfl⟩

@[simp] theorem State.countRemoval_frame (s : State) (b : Binding) :
    (s.countRemoval b).resetHeld = s.resetHeld ∧ (s.countRemoval b).ready = s.ready
      ∧ (s.countRemoval b).lastGranted = s.lastGranted ∧ (s.countRemoval b).grant = s.grant
      ∧ (s.countRemoval b).transfers = s.transfers ∧ (s.countRemoval b).maintenance = s.maintenance
      ∧ (s.countRemoval b).ports = s.ports ∧ (s.countRemoval b).notices = s.notices
      ∧ (s.countRemoval b).lease = s.lease ∧ (s.countRemoval b).settings = s.settings
      ∧ (s.countRemoval b).timebase = s.timebase ∧ (s.countRemoval b).portCounters = s.portCounters
      ∧ (s.countRemoval b).deviceCounters = s.deviceCounters ∧ (s.countRemoval b).pending = s.pending := by
  unfold State.countRemoval; split <;> simp

@[simp] theorem State.countOwnerChange_frame (s : State) (p q : Port) :
    (s.countOwnerChange p q).resetHeld = s.resetHeld ∧ (s.countOwnerChange p q).ready = s.ready
      ∧ (s.countOwnerChange p q).lastGranted = s.lastGranted ∧ (s.countOwnerChange p q).grant = s.grant
      ∧ (s.countOwnerChange p q).domains = s.domains ∧ (s.countOwnerChange p q).transfers = s.transfers
      ∧ (s.countOwnerChange p q).maintenance = s.maintenance ∧ (s.countOwnerChange p q).ports = s.ports
      ∧ (s.countOwnerChange p q).notices = s.notices ∧ (s.countOwnerChange p q).lease = s.lease
      ∧ (s.countOwnerChange p q).settings = s.settings ∧ (s.countOwnerChange p q).timebase = s.timebase
      ∧ (s.countOwnerChange p q).portCounters = s.portCounters
      ∧ (s.countOwnerChange p q).deviceCounters = s.deviceCounters ∧ (s.countOwnerChange p q).pending = s.pending := by
  refine ⟨rfl, rfl, rfl, rfl, rfl, rfl, rfl, rfl, rfl, rfl, rfl, rfl, rfl, rfl, rfl⟩

@[simp] theorem State.countHold_frame (s : State) (p : Port) (d : DomainId) :
    (s.countHold p d).resetHeld = s.resetHeld ∧ (s.countHold p d).ready = s.ready
      ∧ (s.countHold p d).lastGranted = s.lastGranted ∧ (s.countHold p d).grant = s.grant
      ∧ (s.countHold p d).transfers = s.transfers ∧ (s.countHold p d).maintenance = s.maintenance
      ∧ (s.countHold p d).ports = s.ports ∧ (s.countHold p d).notices = s.notices ∧ (s.countHold p d).lease = s.lease
      ∧ (s.countHold p d).settings = s.settings ∧ (s.countHold p d).timebase = s.timebase
      ∧ (s.countHold p d).portCounters = s.portCounters ∧ (s.countHold p d).deviceCounters = s.deviceCounters
      ∧ (s.countHold p d).pending = s.pending := by
  refine ⟨rfl, rfl, rfl, rfl, rfl, rfl, rfl, rfl, rfl, rfl, rfl, rfl, rfl, rfl⟩

@[simp] theorem State.countOrphanAdoption_frame (s : State) (q : Port) (d : DomainId) :
    (s.countOrphanAdoption q d).resetHeld = s.resetHeld ∧ (s.countOrphanAdoption q d).ready = s.ready
      ∧ (s.countOrphanAdoption q d).lastGranted = s.lastGranted ∧ (s.countOrphanAdoption q d).grant = s.grant
      ∧ (s.countOrphanAdoption q d).transfers = s.transfers ∧ (s.countOrphanAdoption q d).maintenance = s.maintenance
      ∧ (s.countOrphanAdoption q d).ports = s.ports ∧ (s.countOrphanAdoption q d).notices = s.notices
      ∧ (s.countOrphanAdoption q d).lease = s.lease ∧ (s.countOrphanAdoption q d).settings = s.settings
      ∧ (s.countOrphanAdoption q d).timebase = s.timebase ∧ (s.countOrphanAdoption q d).portCounters = s.portCounters
      ∧ (s.countOrphanAdoption q d).deviceCounters = s.deviceCounters
      ∧ (s.countOrphanAdoption q d).pending = s.pending := by
  refine ⟨rfl, rfl, rfl, rfl, rfl, rfl, rfl, rfl, rfl, rfl, rfl, rfl, rfl, rfl⟩

@[simp] theorem State.removeBinding_frame (s : State) (i : Nat) (b : Binding) :
    (s.removeBinding i b).resetHeld = s.resetHeld ∧ (s.removeBinding i b).ready = s.ready
      ∧ (s.removeBinding i b).lastGranted = s.lastGranted ∧ (s.removeBinding i b).grant = s.grant
      ∧ (s.removeBinding i b).transfers = s.transfers ∧ (s.removeBinding i b).maintenance = s.maintenance
      ∧ (s.removeBinding i b).ports = s.ports ∧ (s.removeBinding i b).notices = s.notices
      ∧ (s.removeBinding i b).lease = s.lease ∧ (s.removeBinding i b).settings = s.settings
      ∧ (s.removeBinding i b).timebase = s.timebase ∧ (s.removeBinding i b).portCounters = s.portCounters
      ∧ (s.removeBinding i b).deviceCounters = s.deviceCounters ∧ (s.removeBinding i b).pending = s.pending := by simp [State.removeBinding]

/-! ### Transfers and slot faults -/

@[simp] theorem State.freeEntry_frame (s : State) (i : TransferIndex) :
    (s.freeEntry i).resetHeld = s.resetHeld ∧ (s.freeEntry i).ready = s.ready
      ∧ (s.freeEntry i).directory = s.directory ∧ (s.freeEntry i).lastGranted = s.lastGranted
      ∧ (s.freeEntry i).grant = s.grant ∧ (s.freeEntry i).domains = s.domains
      ∧ (s.freeEntry i).maintenance = s.maintenance ∧ (s.freeEntry i).ports = s.ports
      ∧ (s.freeEntry i).notices = s.notices ∧ (s.freeEntry i).lease = s.lease ∧ (s.freeEntry i).settings = s.settings
      ∧ (s.freeEntry i).timebase = s.timebase ∧ (s.freeEntry i).portCounters = s.portCounters
      ∧ (s.freeEntry i).deviceCounters = s.deviceCounters ∧ (s.freeEntry i).pending = s.pending := by
  refine ⟨rfl, rfl, rfl, rfl, rfl, rfl, rfl, rfl, rfl, rfl, rfl, rfl, rfl, rfl, rfl⟩

@[simp] theorem State.endTransfer_frame (s : State) (i : TransferIndex) (t : Transfer) (o : TransferOutcome) (d : DomainId) (k : Key) :
    (s.endTransfer i t o d k).resetHeld = s.resetHeld ∧ (s.endTransfer i t o d k).ready = s.ready
      ∧ (s.endTransfer i t o d k).directory = s.directory ∧ (s.endTransfer i t o d k).lastGranted = s.lastGranted
      ∧ (s.endTransfer i t o d k).domains = s.domains ∧ (s.endTransfer i t o d k).maintenance = s.maintenance
      ∧ (s.endTransfer i t o d k).ports = s.ports ∧ (s.endTransfer i t o d k).notices = s.notices
      ∧ (s.endTransfer i t o d k).lease = s.lease ∧ (s.endTransfer i t o d k).settings = s.settings
      ∧ (s.endTransfer i t o d k).timebase = s.timebase ∧ (s.endTransfer i t o d k).portCounters = s.portCounters
      ∧ (s.endTransfer i t o d k).deviceCounters = s.deviceCounters ∧ (s.endTransfer i t o d k).pending = s.pending := by
  simp [State.endTransfer]

@[simp] theorem State.endTransferOf_frame (s : State) (b : Binding) (o : TransferOutcome) :
    (s.endTransferOf b o).resetHeld = s.resetHeld ∧ (s.endTransferOf b o).ready = s.ready
      ∧ (s.endTransferOf b o).directory = s.directory ∧ (s.endTransferOf b o).lastGranted = s.lastGranted
      ∧ (s.endTransferOf b o).domains = s.domains ∧ (s.endTransferOf b o).maintenance = s.maintenance
      ∧ (s.endTransferOf b o).ports = s.ports ∧ (s.endTransferOf b o).notices = s.notices
      ∧ (s.endTransferOf b o).lease = s.lease ∧ (s.endTransferOf b o).settings = s.settings
      ∧ (s.endTransferOf b o).timebase = s.timebase ∧ (s.endTransferOf b o).portCounters = s.portCounters
      ∧ (s.endTransferOf b o).deviceCounters = s.deviceCounters ∧ (s.endTransferOf b o).pending = s.pending := by
  unfold State.endTransferOf; split
  · split <;> simp
  · simp
  · simp

@[simp] theorem State.grantToTaker_frame (s : State) (i : Nat) (b : Binding) (t : Transfer) :
    (s.grantToTaker i b t).resetHeld = s.resetHeld ∧ (s.grantToTaker i b t).ready = s.ready
      ∧ (s.grantToTaker i b t).lastGranted = s.lastGranted ∧ (s.grantToTaker i b t).grant = s.grant
      ∧ (s.grantToTaker i b t).domains = s.domains ∧ (s.grantToTaker i b t).transfers = s.transfers
      ∧ (s.grantToTaker i b t).maintenance = s.maintenance ∧ (s.grantToTaker i b t).ports = s.ports
      ∧ (s.grantToTaker i b t).notices = s.notices ∧ (s.grantToTaker i b t).lease = s.lease
      ∧ (s.grantToTaker i b t).settings = s.settings ∧ (s.grantToTaker i b t).timebase = s.timebase
      ∧ (s.grantToTaker i b t).portCounters = s.portCounters
      ∧ (s.grantToTaker i b t).deviceCounters = s.deviceCounters ∧ (s.grantToTaker i b t).pending = s.pending := by
  refine ⟨rfl, rfl, rfl, rfl, rfl, rfl, rfl, rfl, rfl, rfl, rfl, rfl, rfl, rfl, rfl⟩

@[simp] theorem State.returnToGiver_frame (s : State) (i : Nat) (b : Binding) (g : Port) :
    (s.returnToGiver i b g).resetHeld = s.resetHeld ∧ (s.returnToGiver i b g).ready = s.ready
      ∧ (s.returnToGiver i b g).lastGranted = s.lastGranted ∧ (s.returnToGiver i b g).grant = s.grant
      ∧ (s.returnToGiver i b g).domains = s.domains ∧ (s.returnToGiver i b g).transfers = s.transfers
      ∧ (s.returnToGiver i b g).maintenance = s.maintenance ∧ (s.returnToGiver i b g).ports = s.ports
      ∧ (s.returnToGiver i b g).notices = s.notices ∧ (s.returnToGiver i b g).lease = s.lease
      ∧ (s.returnToGiver i b g).settings = s.settings ∧ (s.returnToGiver i b g).timebase = s.timebase
      ∧ (s.returnToGiver i b g).portCounters = s.portCounters
      ∧ (s.returnToGiver i b g).deviceCounters = s.deviceCounters ∧ (s.returnToGiver i b g).pending = s.pending := by
  refine ⟨rfl, rfl, rfl, rfl, rfl, rfl, rfl, rfl, rfl, rfl, rfl, rfl, rfl, rfl, rfl⟩

@[simp] theorem State.loseBinding_frame (s : State) (i : Nat) (b : Binding) :
    (s.loseBinding i b).resetHeld = s.resetHeld ∧ (s.loseBinding i b).ready = s.ready
      ∧ (s.loseBinding i b).lastGranted = s.lastGranted ∧ (s.loseBinding i b).maintenance = s.maintenance
      ∧ (s.loseBinding i b).ports = s.ports ∧ (s.loseBinding i b).notices = s.notices
      ∧ (s.loseBinding i b).lease = s.lease ∧ (s.loseBinding i b).settings = s.settings
      ∧ (s.loseBinding i b).timebase = s.timebase ∧ (s.loseBinding i b).portCounters = s.portCounters
      ∧ (s.loseBinding i b).deviceCounters = s.deviceCounters ∧ (s.loseBinding i b).pending = s.pending := by simp [State.loseBinding]

@[simp] theorem State.reportSlotFault_frame (s : State) (i : Nat) :
    (s.reportSlotFault i).resetHeld = s.resetHeld ∧ (s.reportSlotFault i).ready = s.ready
      ∧ (s.reportSlotFault i).directory = s.directory ∧ (s.reportSlotFault i).lastGranted = s.lastGranted
      ∧ (s.reportSlotFault i).domains = s.domains ∧ (s.reportSlotFault i).transfers = s.transfers
      ∧ (s.reportSlotFault i).maintenance = s.maintenance ∧ (s.reportSlotFault i).ports = s.ports
      ∧ (s.reportSlotFault i).notices = s.notices ∧ (s.reportSlotFault i).lease = s.lease
      ∧ (s.reportSlotFault i).settings = s.settings ∧ (s.reportSlotFault i).timebase = s.timebase
      ∧ (s.reportSlotFault i).portCounters = s.portCounters ∧ (s.reportSlotFault i).deviceCounters = s.deviceCounters
      ∧ (s.reportSlotFault i).pending = s.pending := by simp [State.reportSlotFault]

@[simp] theorem State.slotFails_frame (s : State) (i : Nat) :
    (s.slotFails i).resetHeld = s.resetHeld ∧ (s.slotFails i).ready = s.ready
      ∧ (s.slotFails i).lastGranted = s.lastGranted ∧ (s.slotFails i).maintenance = s.maintenance
      ∧ (s.slotFails i).ports = s.ports ∧ (s.slotFails i).notices = s.notices ∧ (s.slotFails i).lease = s.lease
      ∧ (s.slotFails i).settings = s.settings ∧ (s.slotFails i).timebase = s.timebase
      ∧ (s.slotFails i).portCounters = s.portCounters ∧ (s.slotFails i).deviceCounters = s.deviceCounters
      ∧ (s.slotFails i).pending = s.pending := by
  unfold State.slotFails; dsimp only; split <;> simp

@[simp] theorem State.lookupIn_frame (s : State) (f : List Nat) (d : DomainId) (k : Key) (l : List Nat) :
    ((s.lookupIn f d k l).1).resetHeld = s.resetHeld ∧ ((s.lookupIn f d k l).1).ready = s.ready
      ∧ ((s.lookupIn f d k l).1).lastGranted = s.lastGranted ∧ ((s.lookupIn f d k l).1).maintenance = s.maintenance
      ∧ ((s.lookupIn f d k l).1).ports = s.ports ∧ ((s.lookupIn f d k l).1).notices = s.notices
      ∧ ((s.lookupIn f d k l).1).lease = s.lease ∧ ((s.lookupIn f d k l).1).settings = s.settings
      ∧ ((s.lookupIn f d k l).1).timebase = s.timebase ∧ ((s.lookupIn f d k l).1).portCounters = s.portCounters
      ∧ ((s.lookupIn f d k l).1).deviceCounters = s.deviceCounters ∧ ((s.lookupIn f d k l).1).pending = s.pending := by
  induction l generalizing s with
  | nil => simp [State.lookupIn]
  | cons i rest ih =>
    unfold State.lookupIn; split
    · split
      · simp [ih]
      · split <;> simp [ih]
    all_goals simp [ih]

@[simp] theorem State.lookup_frame (s : State) (f : List Nat) (d : DomainId) (k : Key) :
    ((s.lookup f d k).1).resetHeld = s.resetHeld ∧ ((s.lookup f d k).1).ready = s.ready
      ∧ ((s.lookup f d k).1).lastGranted = s.lastGranted ∧ ((s.lookup f d k).1).maintenance = s.maintenance
      ∧ ((s.lookup f d k).1).ports = s.ports ∧ ((s.lookup f d k).1).notices = s.notices
      ∧ ((s.lookup f d k).1).lease = s.lease ∧ ((s.lookup f d k).1).settings = s.settings
      ∧ ((s.lookup f d k).1).timebase = s.timebase ∧ ((s.lookup f d k).1).portCounters = s.portCounters
      ∧ ((s.lookup f d k).1).deviceCounters = s.deviceCounters ∧ ((s.lookup f d k).1).pending = s.pending := by
  simp [State.lookup]

@[simp] theorem State.freeWayIn_frame (s : State) (f : List Nat) (l : List Nat) :
    ((s.freeWayIn f l).1).resetHeld = s.resetHeld ∧ ((s.freeWayIn f l).1).ready = s.ready
      ∧ ((s.freeWayIn f l).1).lastGranted = s.lastGranted ∧ ((s.freeWayIn f l).1).maintenance = s.maintenance
      ∧ ((s.freeWayIn f l).1).ports = s.ports ∧ ((s.freeWayIn f l).1).notices = s.notices
      ∧ ((s.freeWayIn f l).1).lease = s.lease ∧ ((s.freeWayIn f l).1).settings = s.settings
      ∧ ((s.freeWayIn f l).1).timebase = s.timebase ∧ ((s.freeWayIn f l).1).portCounters = s.portCounters
      ∧ ((s.freeWayIn f l).1).deviceCounters = s.deviceCounters ∧ ((s.freeWayIn f l).1).pending = s.pending := by
  induction l generalizing s with
  | nil => simp [State.freeWayIn]
  | cons i rest ih =>
    unfold State.freeWayIn; split
    · split <;> simp [ih]
    all_goals simp [ih]

@[simp] theorem State.scanIn_frame (s : State) (f : List Nat) (m : ScanFilter) (l : List Nat) :
    ((s.scanIn f m l).1).resetHeld = s.resetHeld ∧ ((s.scanIn f m l).1).ready = s.ready
      ∧ ((s.scanIn f m l).1).lastGranted = s.lastGranted ∧ ((s.scanIn f m l).1).maintenance = s.maintenance
      ∧ ((s.scanIn f m l).1).ports = s.ports ∧ ((s.scanIn f m l).1).notices = s.notices
      ∧ ((s.scanIn f m l).1).lease = s.lease ∧ ((s.scanIn f m l).1).settings = s.settings
      ∧ ((s.scanIn f m l).1).timebase = s.timebase ∧ ((s.scanIn f m l).1).portCounters = s.portCounters
      ∧ ((s.scanIn f m l).1).deviceCounters = s.deviceCounters ∧ ((s.scanIn f m l).1).pending = s.pending := by
  induction l generalizing s with
  | nil => simp [State.scanIn]
  | cons i rest ih =>
    unfold State.scanIn; split
    · split
      · simp [ih]
      · split <;> simp [ih]
    all_goals simp [ih]

/-! ### Jobs -/

@[simp] theorem State.enqueueJob_frame (s : State) (w : JobWork) (r : Option Port) :
    ((s.enqueueJob w r).1).resetHeld = s.resetHeld ∧ ((s.enqueueJob w r).1).ready = s.ready
      ∧ ((s.enqueueJob w r).1).directory = s.directory ∧ ((s.enqueueJob w r).1).lastGranted = s.lastGranted
      ∧ ((s.enqueueJob w r).1).grant = s.grant ∧ ((s.enqueueJob w r).1).domains = s.domains
      ∧ ((s.enqueueJob w r).1).transfers = s.transfers ∧ ((s.enqueueJob w r).1).ports = s.ports
      ∧ ((s.enqueueJob w r).1).notices = s.notices ∧ ((s.enqueueJob w r).1).lease = s.lease
      ∧ ((s.enqueueJob w r).1).settings = s.settings ∧ ((s.enqueueJob w r).1).timebase = s.timebase
      ∧ ((s.enqueueJob w r).1).portCounters = s.portCounters
      ∧ ((s.enqueueJob w r).1).deviceCounters = s.deviceCounters ∧ ((s.enqueueJob w r).1).pending = s.pending := by
  refine ⟨rfl, rfl, rfl, rfl, rfl, rfl, rfl, rfl, rfl, rfl, rfl, rfl, rfl, rfl, rfl⟩

@[simp] theorem State.modifyHeadJob_frame (s : State) (f : Job → Job) :
    (s.modifyHeadJob f).resetHeld = s.resetHeld ∧ (s.modifyHeadJob f).ready = s.ready
      ∧ (s.modifyHeadJob f).directory = s.directory ∧ (s.modifyHeadJob f).lastGranted = s.lastGranted
      ∧ (s.modifyHeadJob f).grant = s.grant ∧ (s.modifyHeadJob f).domains = s.domains
      ∧ (s.modifyHeadJob f).transfers = s.transfers ∧ (s.modifyHeadJob f).ports = s.ports
      ∧ (s.modifyHeadJob f).notices = s.notices ∧ (s.modifyHeadJob f).lease = s.lease
      ∧ (s.modifyHeadJob f).settings = s.settings ∧ (s.modifyHeadJob f).timebase = s.timebase
      ∧ (s.modifyHeadJob f).portCounters = s.portCounters ∧ (s.modifyHeadJob f).deviceCounters = s.deviceCounters
      ∧ (s.modifyHeadJob f).pending = s.pending := by
  unfold State.modifyHeadJob; split <;> simp

@[simp] theorem State.modifyCounts_frame (s : State) (f : JobCounts → JobCounts) :
    (s.modifyCounts f).resetHeld = s.resetHeld ∧ (s.modifyCounts f).ready = s.ready
      ∧ (s.modifyCounts f).directory = s.directory ∧ (s.modifyCounts f).lastGranted = s.lastGranted
      ∧ (s.modifyCounts f).grant = s.grant ∧ (s.modifyCounts f).domains = s.domains
      ∧ (s.modifyCounts f).transfers = s.transfers ∧ (s.modifyCounts f).ports = s.ports
      ∧ (s.modifyCounts f).notices = s.notices ∧ (s.modifyCounts f).lease = s.lease
      ∧ (s.modifyCounts f).settings = s.settings ∧ (s.modifyCounts f).timebase = s.timebase
      ∧ (s.modifyCounts f).portCounters = s.portCounters ∧ (s.modifyCounts f).deviceCounters = s.deviceCounters
      ∧ (s.modifyCounts f).pending = s.pending := by
  simp [State.modifyCounts]

@[simp] theorem State.recordJob_frame (s : State) (r : JobRecord) :
    (s.recordJob r).resetHeld = s.resetHeld ∧ (s.recordJob r).ready = s.ready
      ∧ (s.recordJob r).directory = s.directory ∧ (s.recordJob r).lastGranted = s.lastGranted
      ∧ (s.recordJob r).grant = s.grant ∧ (s.recordJob r).domains = s.domains
      ∧ (s.recordJob r).transfers = s.transfers ∧ (s.recordJob r).ports = s.ports
      ∧ (s.recordJob r).notices = s.notices ∧ (s.recordJob r).lease = s.lease ∧ (s.recordJob r).settings = s.settings
      ∧ (s.recordJob r).timebase = s.timebase ∧ (s.recordJob r).portCounters = s.portCounters
      ∧ (s.recordJob r).deviceCounters = s.deviceCounters ∧ (s.recordJob r).pending = s.pending := by
  refine ⟨rfl, rfl, rfl, rfl, rfl, rfl, rfl, rfl, rfl, rfl, rfl, rfl, rfl, rfl, rfl⟩

@[simp] theorem State.notifyJobDone_frame (s : State) (j : Job) (o : JobOutcome) :
    (s.notifyJobDone j o).resetHeld = s.resetHeld ∧ (s.notifyJobDone j o).ready = s.ready
      ∧ (s.notifyJobDone j o).directory = s.directory ∧ (s.notifyJobDone j o).lastGranted = s.lastGranted
      ∧ (s.notifyJobDone j o).grant = s.grant ∧ (s.notifyJobDone j o).domains = s.domains
      ∧ (s.notifyJobDone j o).transfers = s.transfers ∧ (s.notifyJobDone j o).maintenance = s.maintenance
      ∧ (s.notifyJobDone j o).ports = s.ports ∧ (s.notifyJobDone j o).lease = s.lease
      ∧ (s.notifyJobDone j o).settings = s.settings ∧ (s.notifyJobDone j o).timebase = s.timebase
      ∧ (s.notifyJobDone j o).deviceCounters = s.deviceCounters ∧ (s.notifyJobDone j o).pending = s.pending := by
  unfold State.notifyJobDone; split <;> simp

@[simp] theorem State.closeJob_frame (s : State) (o : JobOutcome) (j : Job) :
    (s.closeJob o j).resetHeld = s.resetHeld ∧ (s.closeJob o j).ready = s.ready
      ∧ (s.closeJob o j).directory = s.directory ∧ (s.closeJob o j).lastGranted = s.lastGranted
      ∧ (s.closeJob o j).grant = s.grant ∧ (s.closeJob o j).domains = s.domains
      ∧ (s.closeJob o j).transfers = s.transfers ∧ (s.closeJob o j).ports = s.ports ∧ (s.closeJob o j).lease = s.lease
      ∧ (s.closeJob o j).settings = s.settings ∧ (s.closeJob o j).timebase = s.timebase
      ∧ (s.closeJob o j).deviceCounters = s.deviceCounters ∧ (s.closeJob o j).pending = s.pending := by
  simp [State.closeJob]

@[simp] theorem State.closeJobs_frame (s : State) (o : JobOutcome) (l : List Job) :
    (l.foldl (fun t c => t.closeJob o c) s).resetHeld = s.resetHeld
      ∧ (l.foldl (fun t c => t.closeJob o c) s).ready = s.ready
      ∧ (l.foldl (fun t c => t.closeJob o c) s).directory = s.directory
      ∧ (l.foldl (fun t c => t.closeJob o c) s).lastGranted = s.lastGranted
      ∧ (l.foldl (fun t c => t.closeJob o c) s).grant = s.grant
      ∧ (l.foldl (fun t c => t.closeJob o c) s).domains = s.domains
      ∧ (l.foldl (fun t c => t.closeJob o c) s).transfers = s.transfers
      ∧ (l.foldl (fun t c => t.closeJob o c) s).ports = s.ports
      ∧ (l.foldl (fun t c => t.closeJob o c) s).lease = s.lease
      ∧ (l.foldl (fun t c => t.closeJob o c) s).settings = s.settings
      ∧ (l.foldl (fun t c => t.closeJob o c) s).timebase = s.timebase
      ∧ (l.foldl (fun t c => t.closeJob o c) s).deviceCounters = s.deviceCounters
      ∧ (l.foldl (fun t c => t.closeJob o c) s).pending = s.pending := by
  induction l generalizing s with
  | nil => simp
  | cons j rest ih => simp [ih]

@[simp] theorem State.startHead_frame (s : State) :
    (s.startHead).resetHeld = s.resetHeld ∧ (s.startHead).ready = s.ready ∧ (s.startHead).directory = s.directory
      ∧ (s.startHead).lastGranted = s.lastGranted ∧ (s.startHead).grant = s.grant ∧ (s.startHead).domains = s.domains
      ∧ (s.startHead).transfers = s.transfers ∧ (s.startHead).ports = s.ports ∧ (s.startHead).lease = s.lease
      ∧ (s.startHead).settings = s.settings ∧ (s.startHead).timebase = s.timebase
      ∧ (s.startHead).deviceCounters = s.deviceCounters ∧ (s.startHead).pending = s.pending := by
  unfold State.startHead; split
  · split <;> simp
  · simp

@[simp] theorem State.endDrain_frame (s : State) (p : Port) (c : LeaveCause) :
    (s.endDrain p c).resetHeld = s.resetHeld ∧ (s.endDrain p c).ready = s.ready
      ∧ (s.endDrain p c).directory = s.directory ∧ (s.endDrain p c).lastGranted = s.lastGranted
      ∧ (s.endDrain p c).grant = s.grant ∧ (s.endDrain p c).domains = s.domains
      ∧ (s.endDrain p c).transfers = s.transfers ∧ (s.endDrain p c).maintenance = s.maintenance
      ∧ (s.endDrain p c).lease = s.lease ∧ (s.endDrain p c).settings = s.settings
      ∧ (s.endDrain p c).timebase = s.timebase ∧ (s.endDrain p c).deviceCounters = s.deviceCounters
      ∧ (s.endDrain p c).pending = s.pending := by simp [State.endDrain]

@[simp] theorem State.afterFinish_frame (s : State) (j : Job) (o : JobOutcome) :
    (s.afterFinish j o).resetHeld = s.resetHeld ∧ (s.afterFinish j o).directory = s.directory
      ∧ (s.afterFinish j o).lastGranted = s.lastGranted ∧ (s.afterFinish j o).grant = s.grant
      ∧ (s.afterFinish j o).domains = s.domains ∧ (s.afterFinish j o).transfers = s.transfers
      ∧ (s.afterFinish j o).maintenance = s.maintenance ∧ (s.afterFinish j o).lease = s.lease
      ∧ (s.afterFinish j o).settings = s.settings ∧ (s.afterFinish j o).timebase = s.timebase
      ∧ (s.afterFinish j o).pending = s.pending := by
  unfold State.afterFinish; split
  · simp
  · simp
  · split <;> simp
  · simp

@[simp] theorem State.finishHead_frame (s : State) (o : JobOutcome) :
    (s.finishHead o).resetHeld = s.resetHeld ∧ (s.finishHead o).directory = s.directory
      ∧ (s.finishHead o).lastGranted = s.lastGranted ∧ (s.finishHead o).grant = s.grant
      ∧ (s.finishHead o).domains = s.domains ∧ (s.finishHead o).transfers = s.transfers
      ∧ (s.finishHead o).lease = s.lease ∧ (s.finishHead o).settings = s.settings
      ∧ (s.finishHead o).timebase = s.timebase ∧ (s.finishHead o).pending = s.pending := by
  unfold State.finishHead; split <;> simp

@[simp] theorem State.leaveOnline_frame (s : State) (p : Port) (c : LeaveCause) :
    ((s.leaveOnline p c).1).resetHeld = s.resetHeld ∧ ((s.leaveOnline p c).1).ready = s.ready
      ∧ ((s.leaveOnline p c).1).directory = s.directory ∧ ((s.leaveOnline p c).1).lastGranted = s.lastGranted
      ∧ ((s.leaveOnline p c).1).grant = s.grant ∧ ((s.leaveOnline p c).1).domains = s.domains
      ∧ ((s.leaveOnline p c).1).transfers = s.transfers ∧ ((s.leaveOnline p c).1).settings = s.settings
      ∧ ((s.leaveOnline p c).1).timebase = s.timebase ∧ ((s.leaveOnline p c).1).deviceCounters = s.deviceCounters
      ∧ ((s.leaveOnline p c).1).pending = s.pending := by
  unfold State.leaveOnline; dsimp only; split <;> simp

@[simp] theorem State.answerAbort_frame (s : State) (st : Status) (res : Result) (p : Port) :
    (s.answerAbort st res p).resetHeld = s.resetHeld ∧ (s.answerAbort st res p).ready = s.ready
      ∧ (s.answerAbort st res p).directory = s.directory ∧ (s.answerAbort st res p).lastGranted = s.lastGranted
      ∧ (s.answerAbort st res p).grant = s.grant ∧ (s.answerAbort st res p).domains = s.domains
      ∧ (s.answerAbort st res p).transfers = s.transfers ∧ (s.answerAbort st res p).maintenance = s.maintenance
      ∧ (s.answerAbort st res p).lease = s.lease ∧ (s.answerAbort st res p).settings = s.settings
      ∧ (s.answerAbort st res p).timebase = s.timebase ∧ (s.answerAbort st res p).pending = s.pending := by
  unfold State.answerAbort; split
  · split <;> simp
  · simp

@[simp] theorem State.answerAborts_frame (s : State) (st : Status) (res : Result) (l : List Port) :
    (l.foldl (fun t q => t.answerAbort st res q) s).resetHeld = s.resetHeld
      ∧ (l.foldl (fun t q => t.answerAbort st res q) s).ready = s.ready
      ∧ (l.foldl (fun t q => t.answerAbort st res q) s).directory = s.directory
      ∧ (l.foldl (fun t q => t.answerAbort st res q) s).lastGranted = s.lastGranted
      ∧ (l.foldl (fun t q => t.answerAbort st res q) s).grant = s.grant
      ∧ (l.foldl (fun t q => t.answerAbort st res q) s).domains = s.domains
      ∧ (l.foldl (fun t q => t.answerAbort st res q) s).transfers = s.transfers
      ∧ (l.foldl (fun t q => t.answerAbort st res q) s).maintenance = s.maintenance
      ∧ (l.foldl (fun t q => t.answerAbort st res q) s).lease = s.lease
      ∧ (l.foldl (fun t q => t.answerAbort st res q) s).settings = s.settings
      ∧ (l.foldl (fun t q => t.answerAbort st res q) s).timebase = s.timebase
      ∧ (l.foldl (fun t q => t.answerAbort st res q) s).pending = s.pending := by
  induction l generalizing s with
  | nil => simp
  | cons p rest ih => simp [ih]

@[simp] theorem State.clearAborts_frame (s : State) :
    (s.clearAborts).resetHeld = s.resetHeld ∧ (s.clearAborts).ready = s.ready
      ∧ (s.clearAborts).directory = s.directory ∧ (s.clearAborts).lastGranted = s.lastGranted
      ∧ (s.clearAborts).grant = s.grant ∧ (s.clearAborts).domains = s.domains
      ∧ (s.clearAborts).transfers = s.transfers ∧ (s.clearAborts).ports = s.ports
      ∧ (s.clearAborts).notices = s.notices ∧ (s.clearAborts).lease = s.lease ∧ (s.clearAborts).settings = s.settings
      ∧ (s.clearAborts).timebase = s.timebase ∧ (s.clearAborts).portCounters = s.portCounters
      ∧ (s.clearAborts).deviceCounters = s.deviceCounters ∧ (s.clearAborts).pending = s.pending := by
  refine ⟨rfl, rfl, rfl, rfl, rfl, rfl, rfl, rfl, rfl, rfl, rfl, rfl, rfl, rfl, rfl⟩

@[simp] theorem State.refuseAborts_frame (s : State) :
    (s.refuseAborts).resetHeld = s.resetHeld ∧ (s.refuseAborts).directory = s.directory
      ∧ (s.refuseAborts).lastGranted = s.lastGranted ∧ (s.refuseAborts).grant = s.grant
      ∧ (s.refuseAborts).domains = s.domains ∧ (s.refuseAborts).transfers = s.transfers
      ∧ (s.refuseAborts).lease = s.lease ∧ (s.refuseAborts).settings = s.settings
      ∧ (s.refuseAborts).timebase = s.timebase ∧ (s.refuseAborts).pending = s.pending := by simp [State.refuseAborts]

@[simp] theorem State.stopIfAborted_frame (s : State) :
    (s.stopIfAborted).resetHeld = s.resetHeld ∧ (s.stopIfAborted).directory = s.directory
      ∧ (s.stopIfAborted).lastGranted = s.lastGranted ∧ (s.stopIfAborted).grant = s.grant
      ∧ (s.stopIfAborted).domains = s.domains ∧ (s.stopIfAborted).transfers = s.transfers
      ∧ (s.stopIfAborted).lease = s.lease ∧ (s.stopIfAborted).settings = s.settings
      ∧ (s.stopIfAborted).timebase = s.timebase ∧ (s.stopIfAborted).pending = s.pending := by
  unfold State.stopIfAborted; split
  · split <;> simp
  · simp

@[simp] theorem State.endBucket_frame (s : State) :
    (s.endBucket).resetHeld = s.resetHeld ∧ (s.endBucket).directory = s.directory
      ∧ (s.endBucket).lastGranted = s.lastGranted ∧ (s.endBucket).grant = s.grant ∧ (s.endBucket).domains = s.domains
      ∧ (s.endBucket).transfers = s.transfers ∧ (s.endBucket).lease = s.lease ∧ (s.endBucket).settings = s.settings
      ∧ (s.endBucket).timebase = s.timebase ∧ (s.endBucket).pending = s.pending := by
  unfold State.endBucket; split
  · split <;> simp
  · simp

/-! ### The course of a grant -/

@[simp] theorem State.endRequest_frame (s : State) (p : Port) (st : Status) (res : Result) :
    (s.endRequest p st res).resetHeld = s.resetHeld ∧ (s.endRequest p st res).ready = s.ready
      ∧ (s.endRequest p st res).directory = s.directory ∧ (s.endRequest p st res).lastGranted = s.lastGranted
      ∧ (s.endRequest p st res).grant = s.grant ∧ (s.endRequest p st res).domains = s.domains
      ∧ (s.endRequest p st res).transfers = s.transfers ∧ (s.endRequest p st res).maintenance = s.maintenance
      ∧ (s.endRequest p st res).lease = s.lease ∧ (s.endRequest p st res).settings = s.settings
      ∧ (s.endRequest p st res).timebase = s.timebase ∧ (s.endRequest p st res).pending = s.pending := by
  unfold State.endRequest; split <;> simp

@[simp] theorem State.conclude_frame (s : State) (c : Client) (e : Ending) :
    (s.conclude c e).resetHeld = s.resetHeld ∧ (s.conclude c e).directory = s.directory
      ∧ (s.conclude c e).lastGranted = s.lastGranted ∧ (s.conclude c e).grant = s.grant
      ∧ (s.conclude c e).domains = s.domains ∧ (s.conclude c e).transfers = s.transfers
      ∧ (s.conclude c e).lease = s.lease ∧ (s.conclude c e).settings = s.settings
      ∧ (s.conclude c e).timebase = s.timebase ∧ (s.conclude c e).pending = s.pending := by
  unfold State.conclude; split <;> simp

@[simp] theorem State.finishGrant_frame (s : State) :
    (s.finishGrant).resetHeld = s.resetHeld ∧ (s.finishGrant).directory = s.directory
      ∧ (s.finishGrant).domains = s.domains ∧ (s.finishGrant).transfers = s.transfers
      ∧ (s.finishGrant).lease = s.lease ∧ (s.finishGrant).settings = s.settings
      ∧ (s.finishGrant).timebase = s.timebase ∧ (s.finishGrant).pending = s.pending := by
  unfold State.finishGrant; split
  · split <;> simp
  · simp

@[simp] theorem State.advance_frame (s : State) (upTo : Option Nat) :
    (s.advance upTo).resetHeld = s.resetHeld ∧ (s.advance upTo).directory = s.directory
      ∧ (s.advance upTo).domains = s.domains ∧ (s.advance upTo).transfers = s.transfers
      ∧ (s.advance upTo).lease = s.lease ∧ (s.advance upTo).settings = s.settings
      ∧ (s.advance upTo).timebase = s.timebase ∧ (s.advance upTo).pending = s.pending := by
  unfold State.advance; split
  · dsimp only; split <;> simp
  · simp

/-! ### The slots of a bucket grant -/

@[simp] theorem State.examine_frame (s : State) :
    (s.examine).resetHeld = s.resetHeld ∧ (s.examine).ready = s.ready ∧ (s.examine).directory = s.directory
      ∧ (s.examine).lastGranted = s.lastGranted ∧ (s.examine).grant = s.grant ∧ (s.examine).domains = s.domains
      ∧ (s.examine).transfers = s.transfers ∧ (s.examine).ports = s.ports ∧ (s.examine).notices = s.notices
      ∧ (s.examine).lease = s.lease ∧ (s.examine).settings = s.settings ∧ (s.examine).timebase = s.timebase
      ∧ (s.examine).portCounters = s.portCounters ∧ (s.examine).deviceCounters = s.deviceCounters
      ∧ (s.examine).pending = s.pending := by simp [State.examine]

@[simp] theorem State.expireBinding_frame (s : State) (i : Nat) (b : Binding) :
    (s.expireBinding i b).resetHeld = s.resetHeld ∧ (s.expireBinding i b).ready = s.ready
      ∧ (s.expireBinding i b).lastGranted = s.lastGranted ∧ (s.expireBinding i b).transfers = s.transfers
      ∧ (s.expireBinding i b).ports = s.ports ∧ (s.expireBinding i b).notices = s.notices
      ∧ (s.expireBinding i b).lease = s.lease ∧ (s.expireBinding i b).settings = s.settings
      ∧ (s.expireBinding i b).timebase = s.timebase ∧ (s.expireBinding i b).portCounters = s.portCounters
      ∧ (s.expireBinding i b).deviceCounters = s.deviceCounters ∧ (s.expireBinding i b).pending = s.pending := by
  unfold State.expireBinding; dsimp only; split <;> simp

@[simp] theorem State.ageBinding_frame (s : State) (i : Nat) (b : Binding) :
    (s.ageBinding i b).resetHeld = s.resetHeld ∧ (s.ageBinding i b).ready = s.ready
      ∧ (s.ageBinding i b).lastGranted = s.lastGranted ∧ (s.ageBinding i b).transfers = s.transfers
      ∧ (s.ageBinding i b).ports = s.ports ∧ (s.ageBinding i b).notices = s.notices
      ∧ (s.ageBinding i b).lease = s.lease ∧ (s.ageBinding i b).settings = s.settings
      ∧ (s.ageBinding i b).timebase = s.timebase ∧ (s.ageBinding i b).portCounters = s.portCounters
      ∧ (s.ageBinding i b).deviceCounters = s.deviceCounters ∧ (s.ageBinding i b).pending = s.pending := by
  unfold State.ageBinding; split
  · simp
  · simp
  · split <;> simp

@[simp] theorem State.removeByJob_frame (s : State) (i : Nat) (b : Binding) :
    (s.removeByJob i b).resetHeld = s.resetHeld ∧ (s.removeByJob i b).ready = s.ready
      ∧ (s.removeByJob i b).lastGranted = s.lastGranted ∧ (s.removeByJob i b).ports = s.ports
      ∧ (s.removeByJob i b).notices = s.notices ∧ (s.removeByJob i b).lease = s.lease
      ∧ (s.removeByJob i b).settings = s.settings ∧ (s.removeByJob i b).timebase = s.timebase
      ∧ (s.removeByJob i b).portCounters = s.portCounters ∧ (s.removeByJob i b).deviceCounters = s.deviceCounters
      ∧ (s.removeByJob i b).pending = s.pending := by simp [State.removeByJob]

@[simp] theorem State.orphanRemove_frame (s : State) (p : Port) (i : Nat) (b : Binding) :
    (s.orphanRemove p i b).resetHeld = s.resetHeld ∧ (s.orphanRemove p i b).ready = s.ready
      ∧ (s.orphanRemove p i b).lastGranted = s.lastGranted ∧ (s.orphanRemove p i b).ports = s.ports
      ∧ (s.orphanRemove p i b).notices = s.notices ∧ (s.orphanRemove p i b).lease = s.lease
      ∧ (s.orphanRemove p i b).settings = s.settings ∧ (s.orphanRemove p i b).timebase = s.timebase
      ∧ (s.orphanRemove p i b).portCounters = s.portCounters
      ∧ (s.orphanRemove p i b).deviceCounters = s.deviceCounters ∧ (s.orphanRemove p i b).pending = s.pending := by simp [State.orphanRemove]

@[simp] theorem State.orphanHold_frame (s : State) (p : Port) (i : Nat) (b : Binding) :
    (s.orphanHold p i b).resetHeld = s.resetHeld ∧ (s.orphanHold p i b).ready = s.ready
      ∧ (s.orphanHold p i b).lastGranted = s.lastGranted ∧ (s.orphanHold p i b).ports = s.ports
      ∧ (s.orphanHold p i b).notices = s.notices ∧ (s.orphanHold p i b).lease = s.lease
      ∧ (s.orphanHold p i b).settings = s.settings ∧ (s.orphanHold p i b).timebase = s.timebase
      ∧ (s.orphanHold p i b).portCounters = s.portCounters ∧ (s.orphanHold p i b).deviceCounters = s.deviceCounters
      ∧ (s.orphanHold p i b).pending = s.pending := by simp [State.orphanHold]

@[simp] theorem State.orphanAdopt_frame (s : State) (p q : Port) (i : Nat) (b : Binding) :
    (s.orphanAdopt p q i b).resetHeld = s.resetHeld ∧ (s.orphanAdopt p q i b).ready = s.ready
      ∧ (s.orphanAdopt p q i b).lastGranted = s.lastGranted ∧ (s.orphanAdopt p q i b).ports = s.ports
      ∧ (s.orphanAdopt p q i b).notices = s.notices ∧ (s.orphanAdopt p q i b).lease = s.lease
      ∧ (s.orphanAdopt p q i b).settings = s.settings ∧ (s.orphanAdopt p q i b).timebase = s.timebase
      ∧ (s.orphanAdopt p q i b).portCounters = s.portCounters
      ∧ (s.orphanAdopt p q i b).deviceCounters = s.deviceCounters ∧ (s.orphanAdopt p q i b).pending = s.pending := by simp [State.orphanAdopt]

@[simp] theorem State.orphanAction_frame (s : State) (v : View) (p : Port) (i : Nat) (b : Binding) :
    (s.orphanAction v p i b).resetHeld = s.resetHeld ∧ (s.orphanAction v p i b).ready = s.ready
      ∧ (s.orphanAction v p i b).lastGranted = s.lastGranted ∧ (s.orphanAction v p i b).ports = s.ports
      ∧ (s.orphanAction v p i b).notices = s.notices ∧ (s.orphanAction v p i b).lease = s.lease
      ∧ (s.orphanAction v p i b).settings = s.settings ∧ (s.orphanAction v p i b).timebase = s.timebase
      ∧ (s.orphanAction v p i b).portCounters = s.portCounters
      ∧ (s.orphanAction v p i b).deviceCounters = s.deviceCounters ∧ (s.orphanAction v p i b).pending = s.pending := by
  unfold State.orphanAction; dsimp only; split
  · simp
  · simp
  · simp
  · split <;> simp

@[simp] theorem State.settleLostGiver_frame (s : State) (v : View) (p : Port) (i : Nat) (b : Binding) (x : TransferIndex) (t : Transfer) :
    (s.settleLostGiver v p i b x t).resetHeld = s.resetHeld ∧ (s.settleLostGiver v p i b x t).ready = s.ready
      ∧ (s.settleLostGiver v p i b x t).lastGranted = s.lastGranted ∧ (s.settleLostGiver v p i b x t).ports = s.ports
      ∧ (s.settleLostGiver v p i b x t).notices = s.notices ∧ (s.settleLostGiver v p i b x t).lease = s.lease
      ∧ (s.settleLostGiver v p i b x t).settings = s.settings ∧ (s.settleLostGiver v p i b x t).timebase = s.timebase
      ∧ (s.settleLostGiver v p i b x t).portCounters = s.portCounters
      ∧ (s.settleLostGiver v p i b x t).deviceCounters = s.deviceCounters
      ∧ (s.settleLostGiver v p i b x t).pending = s.pending := by
  unfold State.settleLostGiver; split <;> simp

@[simp] theorem State.settleLostTaker_frame (s : State) (i : Nat) (b : Binding) (x : TransferIndex) (t : Transfer) :
    (s.settleLostTaker i b x t).resetHeld = s.resetHeld ∧ (s.settleLostTaker i b x t).ready = s.ready
      ∧ (s.settleLostTaker i b x t).lastGranted = s.lastGranted ∧ (s.settleLostTaker i b x t).ports = s.ports
      ∧ (s.settleLostTaker i b x t).notices = s.notices ∧ (s.settleLostTaker i b x t).lease = s.lease
      ∧ (s.settleLostTaker i b x t).settings = s.settings ∧ (s.settleLostTaker i b x t).timebase = s.timebase
      ∧ (s.settleLostTaker i b x t).portCounters = s.portCounters
      ∧ (s.settleLostTaker i b x t).deviceCounters = s.deviceCounters
      ∧ (s.settleLostTaker i b x t).pending = s.pending := by simp [State.settleLostTaker]

@[simp] theorem sweepSlot_frame (s : State) (f : List Nat) (i : Nat) :
    (sweepSlot f i s).resetHeld = s.resetHeld ∧ (sweepSlot f i s).ready = s.ready
      ∧ (sweepSlot f i s).lastGranted = s.lastGranted ∧ (sweepSlot f i s).ports = s.ports
      ∧ (sweepSlot f i s).notices = s.notices ∧ (sweepSlot f i s).lease = s.lease
      ∧ (sweepSlot f i s).settings = s.settings ∧ (sweepSlot f i s).timebase = s.timebase
      ∧ (sweepSlot f i s).portCounters = s.portCounters ∧ (sweepSlot f i s).deviceCounters = s.deviceCounters
      ∧ (sweepSlot f i s).pending = s.pending := by
  unfold sweepSlot State.readBinding; split
  · split
    · simp
    · dsimp only; split <;> simp
  all_goals simp

@[simp] theorem purgeSlot_frame (s : State) (m : PurgeFilter) (f : List Nat) (i : Nat) :
    (purgeSlot m f i s).resetHeld = s.resetHeld ∧ (purgeSlot m f i s).ready = s.ready
      ∧ (purgeSlot m f i s).lastGranted = s.lastGranted ∧ (purgeSlot m f i s).ports = s.ports
      ∧ (purgeSlot m f i s).notices = s.notices ∧ (purgeSlot m f i s).lease = s.lease
      ∧ (purgeSlot m f i s).settings = s.settings ∧ (purgeSlot m f i s).timebase = s.timebase
      ∧ (purgeSlot m f i s).portCounters = s.portCounters ∧ (purgeSlot m f i s).deviceCounters = s.deviceCounters
      ∧ (purgeSlot m f i s).pending = s.pending := by
  unfold purgeSlot State.readBinding; split
  · split
    · simp
    · dsimp only; split <;> simp
  all_goals simp

@[simp] theorem retestSlot_frame (s : State) (f : List Nat) (i : Nat) (x : Slot) :
    (retestSlot f i x s).resetHeld = s.resetHeld ∧ (retestSlot f i x s).ready = s.ready
      ∧ (retestSlot f i x s).lastGranted = s.lastGranted ∧ (retestSlot f i x s).ports = s.ports
      ∧ (retestSlot f i x s).notices = s.notices ∧ (retestSlot f i x s).lease = s.lease
      ∧ (retestSlot f i x s).settings = s.settings ∧ (retestSlot f i x s).timebase = s.timebase
      ∧ (retestSlot f i x s).portCounters = s.portCounters ∧ (retestSlot f i x s).deviceCounters = s.deviceCounters
      ∧ (retestSlot f i x s).pending = s.pending := by
  unfold retestSlot; split <;> split <;> simp

@[simp] theorem rewriteSlot_frame (s : State) (f : List Nat) (i : Nat) :
    (rewriteSlot f i s).resetHeld = s.resetHeld ∧ (rewriteSlot f i s).ready = s.ready
      ∧ (rewriteSlot f i s).lastGranted = s.lastGranted ∧ (rewriteSlot f i s).ports = s.ports
      ∧ (rewriteSlot f i s).notices = s.notices ∧ (rewriteSlot f i s).lease = s.lease
      ∧ (rewriteSlot f i s).settings = s.settings ∧ (rewriteSlot f i s).timebase = s.timebase
      ∧ (rewriteSlot f i s).portCounters = s.portCounters ∧ (rewriteSlot f i s).deviceCounters = s.deviceCounters
      ∧ (rewriteSlot f i s).pending = s.pending := by
  unfold rewriteSlot; split <;> simp

@[simp] theorem State.reachBucket_frame (s : State) (b : Nat) :
    (s.reachBucket b).resetHeld = s.resetHeld ∧ (s.reachBucket b).ready = s.ready
      ∧ (s.reachBucket b).lastGranted = s.lastGranted ∧ (s.reachBucket b).grant = s.grant
      ∧ (s.reachBucket b).domains = s.domains ∧ (s.reachBucket b).transfers = s.transfers
      ∧ (s.reachBucket b).maintenance = s.maintenance ∧ (s.reachBucket b).ports = s.ports
      ∧ (s.reachBucket b).notices = s.notices ∧ (s.reachBucket b).lease = s.lease
      ∧ (s.reachBucket b).settings = s.settings ∧ (s.reachBucket b).timebase = s.timebase
      ∧ (s.reachBucket b).portCounters = s.portCounters ∧ (s.reachBucket b).deviceCounters = s.deviceCounters
      ∧ (s.reachBucket b).pending = s.pending := by
  refine ⟨rfl, rfl, rfl, rfl, rfl, rfl, rfl, rfl, rfl, rfl, rfl, rfl, rfl, rfl, rfl⟩

@[simp] theorem startupSlot_frame (s : State) (b : Nat) (f : List Nat) (i : Nat) :
    (startupSlot b f i s).resetHeld = s.resetHeld ∧ (startupSlot b f i s).ready = s.ready
      ∧ (startupSlot b f i s).lastGranted = s.lastGranted ∧ (startupSlot b f i s).ports = s.ports
      ∧ (startupSlot b f i s).notices = s.notices ∧ (startupSlot b f i s).lease = s.lease
      ∧ (startupSlot b f i s).settings = s.settings ∧ (startupSlot b f i s).timebase = s.timebase
      ∧ (startupSlot b f i s).portCounters = s.portCounters ∧ (startupSlot b f i s).deviceCounters = s.deviceCounters
      ∧ (startupSlot b f i s).pending = s.pending := by
  unfold startupSlot; split <;> simp

@[simp] theorem orphanSlot_frame (s : State) (v : View) (p : Port) (f : List Nat) (i : Nat) :
    (orphanSlot v p f i s).resetHeld = s.resetHeld ∧ (orphanSlot v p f i s).ready = s.ready
      ∧ (orphanSlot v p f i s).lastGranted = s.lastGranted ∧ (orphanSlot v p f i s).ports = s.ports
      ∧ (orphanSlot v p f i s).notices = s.notices ∧ (orphanSlot v p f i s).lease = s.lease
      ∧ (orphanSlot v p f i s).settings = s.settings ∧ (orphanSlot v p f i s).timebase = s.timebase
      ∧ (orphanSlot v p f i s).portCounters = s.portCounters
      ∧ (orphanSlot v p f i s).deviceCounters = s.deviceCounters ∧ (orphanSlot v p f i s).pending = s.pending := by
  unfold orphanSlot State.readBinding; split
  · split
    · simp
    · dsimp only; split
      · simp
      · split <;> simp
      · split
        · simp
        · split
          · simp
          · split <;> simp
  all_goals simp

end Sys2Proof.Machine
end

