-- ==== Sys2Proof/Laws/Ops.lean ====
section
/-! SUPPORT. What each shared operation can do, said once: the arbiter, the runners of requests and bucket grants,
responses, notices, counts, lookups, transfer endings and departures from ONLINE. -/

namespace Sys2Proof.Machine

/-! ### The arbiter -/

theorem State.grantOf_eq_some {s : State} {c : Client} {g : Grant} :
    s.grantOf c = some g ↔ s.grant = some g ∧ g.client = c := by
  unfold State.grantOf
  cases hg : s.grant with
  | none => simp
  | some h =>
    by_cases hc : h.client = c
    · simp only [hc, if_true, Option.some.injEq]
      exact ⟨fun he => ⟨he, he ▸ hc⟩, And.left⟩
    · simp only [hc, if_false, Option.some.injEq, reduceCtorEq, false_iff, not_and]
      rintro rfl
      exact hc

/-- The arbiter changes nothing, or grants the first waiting client after the last granted one. -/
theorem State.arbitrate_cases (s : State) :
    s.arbitrate = s ∨ ∃ c, s.resetHeld = false ∧ s.grant = none
      ∧ (clientsAfter s.lastGranted).find? s.waiting = some c
      ∧ s.arbitrate = (s.withGrant (some (.fresh c s.view))).withLastGranted c := by
  unfold State.arbitrate
  split
  · exact .inl rfl
  · rename_i h
    split
    · rename_i c hc
      refine .inr ⟨c, ?_, ?_, hc, rfl⟩ <;> simp_all
    · exact .inl rfl

/-- While a grant is in progress, or RESET_N is low, the arbiter changes nothing. -/
theorem State.arbitrate_busy {s : State} (h : s.resetHeld = true ∨ s.grant.isSome = true) : s.arbitrate = s := by
  unfold State.arbitrate
  rcases h with h | h <;> simp [h]

/-- Every client stands in the circular order after any other. -/
theorem mem_clientsAfter (c d : Client) : c ∈ clientsAfter d := by
  rcases c with p | _ | _ <;> rcases d with q | _ | _ <;> (try cases p) <;> (try cases q) <;> decide

/-! ### The runners -/

/-- A request row that needs no grant: nothing happens, or the request is answered at once. -/
theorem runDirect_cases {p : Port} {s t : State} {row : RequestFrame → Option (State → Reply)}
    (h : runDirect p s row = .next t) :
    t = s ∨ ∃ rq act, (s.port p).executor = .busy rq ∧ row rq = some act
      ∧ t = (s.answer s.view p rq act).arbitrate := by
  unfold runDirect at h
  split at h
  · rename_i rq hrq
    split at h
    · rename_i act hact
      exact .inr ⟨rq, act, hrq, hact, (Host.Outcome.next.inj h).symm⟩
    · exact .inl (Host.Outcome.next.inj h).symm
  · exact .inl (Host.Outcome.next.inj h).symm

theorem runDirect_eq {p : Port} {s : State} {row : RequestFrame → Option (State → Reply)} {rq : RequestFrame}
    {act : State → Reply} (hrq : (s.port p).executor = .busy rq) (hact : row rq = some act) :
    runDirect p s row = .next (s.answer s.view p rq act).arbitrate := by
  unfold runDirect
  simp [hrq, hact]

/-! ### Responses -/

theorem checkedReply_refused {v : View} {p : Port} {rq : RequestFrame} {st : Status}
    (h : commonCheck v p rq.body = some st) (act : State → Reply) (s : State) :
    checkedReply v p rq act s = refuse s st := by
  simp [checkedReply, h]

theorem checkedReply_passed {v : View} {p : Port} {rq : RequestFrame} (h : commonCheck v p rq.body = none)
    (act : State → Reply) (s : State) : checkedReply v p rq act s = act s := by
  simp [checkedReply, h]

/-- A request that passes the common checks is answered by its own rule. -/
theorem State.answer_passed {s : State} {v : View} {p : Port} {rq : RequestFrame}
    (h : commonCheck v p rq.body = none) (act : State → Reply) :
    s.answer v p rq act = (act s).state.respond p rq (act s).status (act s).result := by
  simp [State.answer, checkedReply_passed h]

/-- A response that is no refusal changes its port's Port Controller alone. -/
theorem State.respond_success {st : Status} (h : st.isRefusal = false) (s : State) (p : Port) (rq : RequestFrame)
    (res : Result) :
    s.respond p rq st res = s.modifyPort p (fun c => c.answered ⟨rq.kind, rq.tag, st, res⟩) := by
  simp [State.respond, h, PortController.answered]

/-- A refusal is counted besides (R191). -/
theorem State.respond_refusal {st : Status} (h : st.isRefusal = true) (s : State) (p : Port) (rq : RequestFrame)
    (res : Result) :
    s.respond p rq st res
      = (s.modifyPort p (fun c => c.answered ⟨rq.kind, rq.tag, st, res⟩)).count (.port p .refusals) := by
  simp [State.respond, h, PortController.answered]

/-- Whatever the status, the port is answered and the other ports are left. -/
theorem State.respond_ports (s : State) (p : Port) (rq : RequestFrame) (st : Status) (res : Result) :
    (s.respond p rq st res).ports = s.ports.set p ((s.port p).answered ⟨rq.kind, rq.tag, st, res⟩) := by
  unfold State.respond
  dsimp only
  split <;> simp [State.modifyPort, PortController.answered, State.port]

/-! ### Notices and counts -/

/-- A notice for which no port receives a copy changes nothing. -/
theorem State.offerCopies_none {s : State} {a : Audience} {l : List Port} (h : ∀ p ∈ l, s.receives a p = false)
    (n : Notice) : s.offerCopies a n l = (s, []) := by
  induction l with
  | nil => rfl
  | cons p rest ih =>
    simp [State.offerCopies, h p List.mem_cons_self, ih fun q hq => h q (List.mem_cons_of_mem _ hq)]

theorem State.notify_none {s : State} {a : Audience} (h : ∀ p, s.receives a p = false) (n : Notice) :
    s.notify a n = s := by
  simp [State.notify, State.handOver, State.offerCopies_none fun p _ => h p]

/-- A directed notice for a port that is not ONLINE is dropped (R160). -/
theorem State.notify_directed_offline {s : State} {p : Port} (h : (s.port p).session ≠ .online) (n : Notice) :
    s.notify (.directed p) n = s := by
  refine State.notify_none (fun q => ?_) n
  by_cases hq : q = p
  · subst hq; simp [State.receives, State.online, h]
  · simp [State.receives, hq]

/-- Who receives a notice depends on the Port Controllers alone. -/
theorem State.receives_congr {s t : State} (h : t.ports = s.ports) (a : Audience) (p : Port) :
    t.receives a p = s.receives a p := by
  have hp : t.port p = s.port p := congrArg (fun x => x.get p) h
  unfold State.receives State.online
  rw [hp]

/-- A copy that finds room joins the tail of its queue, and nothing is counted (R162). -/
theorem State.offerCopy_room {s : State} {p : Port} (h : (s.noticePort p).queue.length < Config.noticeQueueSize)
    (n : Notice) :
    s.offerCopy n p = (s.modifyNotices p (fun q => { q with queue := q.queue ++ [n] }), []) := by
  simp [State.offerCopy, h]

/-- A copy that finds its queue full is discarded: the lost count and NOTICES_LOST rise (R163). -/
theorem State.offerCopy_full {s : State} {p : Port} (h : ¬ (s.noticePort p).queue.length < Config.noticeQueueSize)
    (n : Notice) :
    (s.offerCopy n p).1 =
      (s.modifyNotices p (fun q => { q with lostCount := min Config.lostCountMax (q.lostCount + 1) })).setCounter
        (.port p .noticesLost) (s.counter (.port p .noticesLost) + 1) := by
  simp [State.offerCopy, h, State.bump, State.counter]

/-- With room in the queue of every receiver, each receives one copy at its tail and no other queue changes. -/
theorem State.offerCopies_room {a : Audience} {n : Notice} {l : List Port} (hl : l.Nodup) {s : State}
    (h : ∀ p ∈ l, s.receives a p = true → (s.noticePort p).queue.length < Config.noticeQueueSize) :
    (s.offerCopies a n l).2 = []
      ∧ (s.offerCopies a n l).1.portCounters = s.portCounters
      ∧ ∀ p, (s.offerCopies a n l).1.noticePort p =
          if p ∈ l ∧ s.receives a p = true then { s.noticePort p with queue := (s.noticePort p).queue ++ [n] }
          else s.noticePort p := by
  induction l generalizing s with
  | nil => exact ⟨rfl, rfl, fun p => by simp [State.offerCopies]⟩
  | cons q rest ih =>
    obtain ⟨hq, hrest⟩ := List.nodup_cons.1 hl
    by_cases hr : s.receives a q = true
    · have hroom := h q List.mem_cons_self hr
      simp only [State.offerCopies, hr, if_true, State.offerCopy_room hroom, List.nil_append]
      have hports : ∀ (f : NoticePort → NoticePort), (s.modifyNotices q f).ports = s.ports := fun f => rfl
      have := ih hrest (s := s.modifyNotices q (fun q => { q with queue := q.queue ++ [n] })) (fun p hp hrp => by
        rw [State.receives_congr (hports _)] at hrp
        have hne : p ≠ q := fun he => hq (he ▸ hp)
        simpa [State.noticePort, State.modifyNotices, PerPort.get_set, hne] using
          h p (List.mem_cons_of_mem _ hp) hrp)
      refine ⟨this.1, this.2.1, fun p => ?_⟩
      rw [this.2.2 p, State.receives_congr (hports _)]
      by_cases hpq : p = q
      · subst hpq
        simp [hq, hr, State.noticePort, State.modifyNotices]
      · simp [hpq, State.noticePort, State.modifyNotices]
    · simp only [State.offerCopies, hr, Bool.false_eq_true, if_false]
      have := ih hrest (s := s) fun p hp => h p (List.mem_cons_of_mem _ hp)
      refine ⟨this.1, this.2.1, fun p => ?_⟩
      rw [this.2.2 p]
      by_cases hpq : p = q
      · subst hpq; simp [hr]
      · simp [hpq]

theorem mem_allPorts (p : Port) : p ∈ allPorts := by cases p <;> decide

/-- R160, R162: with room in the queue of every receiver, a notice joins the tail of each receiver's queue, and nothing
else of the Notice Unit or the Statistics Unit changes. -/
theorem State.notify_room {s : State} {a : Audience}
    (h : ∀ p, s.receives a p = true → (s.noticePort p).queue.length < Config.noticeQueueSize) (n : Notice) :
    (s.notify a n).portCounters = s.portCounters
      ∧ ∀ p, (s.notify a n).noticePort p =
          if s.receives a p = true then { s.noticePort p with queue := (s.noticePort p).queue ++ [n] }
          else s.noticePort p := by
  have := State.offerCopies_room (n := n) (l := allPorts) (by decide) (s := s) (a := a) fun p _ => h p
  simp only [State.notify, State.handOver, this.1, List.append_nil]
  cases hk : (s.offerCopies a n allPorts).1 with
  | _ => simpa [hk, mem_allPorts, State.handOver] using this.2

/-- A count that does not reach half range adds 1 and does nothing else (R188). -/
theorem State.count_plain {s : State} {c : CounterId} (h : s.counter c + 1 ≠ halfRange) :
    s.count c = s.setCounter c (s.counter c + 1) := by
  have h' : (s.counter c + 1 == halfRange) = false := by simpa using h
  simp only [State.count, State.bump, h', Bool.false_eq_true, if_false]

/-- A count that reaches half range also hands COUNTER_HALF over (R190). -/
theorem State.count_half {s : State} {c : CounterId} (h : s.counter c + 1 = halfRange) :
    s.count c = (s.setCounter c halfRange).notify (.subscribers .counterHalf) (.counterHalf c) := by
  simp only [State.count, State.bump, h, counterHalfNotice, beq_self_eq_true, if_true]

/-! ### Lookups -/

/-- A lookup that meets no failing slot changes nothing. -/
theorem State.lookupIn_state {s : State} {f l : List Nat} (h : ∀ i ∈ l, i ∉ f) (d : DomainId) (k : Key) :
    (s.lookupIn f d k l).1 = s := by
  induction l with
  | nil => rfl
  | cons i rest ih =>
    have hi : f.contains i = false := by simpa using h i List.mem_cons_self
    have hrest := ih fun j hj => h j (List.mem_cons_of_mem _ hj)
    unfold State.lookupIn
    split
    · simp only [hi, Bool.false_eq_true, if_false]; split
      · rfl
      · exact hrest
    all_goals exact hrest

/-- What a lookup finds is a binding of the identifier in a slot of its list (R6). -/
theorem State.lookupIn_found {s : State} {f l : List Nat} {d : DomainId} {k : Key} {i : Nat} {b : Binding}
    (h : (s.lookupIn f d k l).2 = some (i, b)) :
    i ∈ l ∧ b.domain = d ∧ b.key = k ∧ i ∉ f ∧ (s.lookupIn f d k l).1.slot i = .occupied b := by
  induction l generalizing s with
  | nil => simp [State.lookupIn] at h
  | cons j rest ih =>
    have skip : ∀ {u : State}, (u.lookupIn f d k rest).2 = some (i, b) → i ∈ j :: rest ∧ b.domain = d ∧ b.key = k
        ∧ i ∉ f ∧ (u.lookupIn f d k rest).1.slot i = .occupied b := fun hu =>
      ⟨List.mem_cons_of_mem _ (ih hu).1, (ih hu).2⟩
    cases hc : s.slot j with
    | occupied c =>
      simp only [State.lookupIn, hc] at h ⊢
      by_cases hf : f.contains j = true
      · simp only [hf, if_true] at h ⊢
        exact skip h
      · simp only [hf, Bool.false_eq_true, if_false] at h ⊢
        by_cases hm : c.domain = d ∧ c.key = k
        · simp only [hm, and_self, if_true, Option.some.injEq, Prod.mk.injEq] at h ⊢
          obtain ⟨rfl, rfl⟩ := h
          exact ⟨List.mem_cons_self, hm.1, hm.2, by simpa using hf, hc⟩
        · simp only [hm, if_false] at h ⊢
          exact skip h
    | undefined => simp only [State.lookupIn, hc] at h ⊢; exact skip h
    | free => simp only [State.lookupIn, hc] at h ⊢; exact skip h
    | defective => simp only [State.lookupIn, hc] at h ⊢; exact skip h

/-! ### Transfers and departures -/

/-- The entry of a transfer that ends is FREE (R73). -/
theorem State.endTransfer_entry (s : State) (i : TransferIndex) (t : Transfer) (o : TransferOutcome) (d : DomainId)
    (k : Key) (j : TransferIndex) : (s.endTransfer i t o d k).entry j = if j = i then none else s.entry j := by
  have : (s.endTransfer i t o d k).transfers = (s.freeEntry i).transfers := by simp [State.endTransfer]
  unfold State.entry
  rw [this]
  simp only [State.freeEntry, State.withTransfers, State.setEntry, Vector.get_eq_getElem, Vector.getElem_set]
  by_cases h : j = i
  · simp [h]
  · have : ¬ i.val = j.val := fun he => h (Fin.ext he.symm)
    simp [h, this]

theorem State.leaveOnline_ports (s : State) (p : Port) (c : LeaveCause) :
    (s.leaveOnline p c).1.ports = s.ports.set p (s.port p).left := by
  unfold State.leaveOnline
  dsimp only
  split <;> simp [State.modifyPort, State.port, PortController.left]

theorem State.leaveOnline_lease (s : State) (p : Port) (c : LeaveCause) :
    (s.leaveOnline p c).1.lease = if s.lease.holder = some p then Lease.free else s.lease := by
  unfold State.leaveOnline
  dsimp only
  split <;> simp_all

/-- The ORPHAN job of a port that leaves ONLINE joins the tail with the next id (R92, R143). -/
theorem State.leaveOnline_maintenance (s : State) (p : Port) (c : LeaveCause) :
    (s.leaveOnline p c).1.maintenance
        = { s.maintenance with
            queue := s.maintenance.queue ++ [⟨s.maintenance.newId, .orphan p c, none, 0, JobCounts.zero⟩]
            nextId := nextJobId s.maintenance.newId }
      ∧ (s.leaveOnline p c).2 = s.maintenance.newId := by
  unfold State.leaveOnline State.enqueueJob
  dsimp only
  split <;> simp

/-- The slots of a bucket (R1). -/
theorem mem_bucketSlots {b i : Nat} : i ∈ bucketSlots b ↔ 8 * b ≤ i ∧ i < 8 * b + 8 := by
  simp only [bucketSlots, Config.ways, List.mem_map, List.mem_range]
  constructor
  · rintro ⟨w, hw, rfl⟩; omega
  · rintro ⟨h1, h2⟩; exact ⟨i - 8 * b, by omega, by omega⟩

end Sys2Proof.Machine
end

