-- ==== Sys2Proof/Laws/Notices.lean ====
section
/-! SUPPORT. What handing over a notice, counting an event and delivering a report do to the notice queues and the counters:
a queue only gains notices at its tail, a receiver gains the notice or counts its loss, and no counter but NOTICES_LOST and
the counted one moves. -/

namespace Sys2Proof.Machine

/-! ### Queues -/

/-- A copy offered to one port leaves the other ports' queues. -/
theorem State.offerCopy_noticePort_ne (s : State) (n : Notice) {p q : Port} (h : q ≠ p) :
    (s.offerCopy n p).1.noticePort q = s.noticePort q := by
  unfold State.offerCopy
  split
  · simp [State.noticePort_modifyNotices, h]
  · simp only [State.bump, State.noticePort_setCounter, State.noticePort_modifyNotices, h, if_false]

/-- A copy offered to a port adds to its queue at the tail, if at all. -/
theorem State.offerCopy_prefix (s : State) (n : Notice) (p q : Port) :
    (s.noticePort q).queue <+: ((s.offerCopy n p).1.noticePort q).queue := by
  by_cases h : q = p
  · subst h
    unfold State.offerCopy
    split
    · simp [State.noticePort_modifyNotices]
    · simp [State.bump, State.noticePort_setCounter, State.noticePort_modifyNotices]
  · rw [State.offerCopy_noticePort_ne s n h]

theorem State.offerCopies_prefix (s : State) (a : Audience) (n : Notice) (l : List Port) (q : Port) :
    (s.noticePort q).queue <+: ((s.offerCopies a n l).1.noticePort q).queue := by
  induction l generalizing s with
  | nil => exact List.prefix_rfl
  | cons p rest ih =>
    unfold State.offerCopies
    split
    · exact (State.offerCopy_prefix s n p q).trans (ih _)
    · exact ih _

theorem State.handOver_prefix (s : State) (k : Nat) (l : List (Audience × Notice)) (q : Port) :
    (s.noticePort q).queue <+: ((s.handOver k l).noticePort q).queue := by
  induction k generalizing s l with
  | zero => exact List.prefix_rfl
  | succ k ih =>
    cases l with
    | nil => exact List.prefix_rfl
    | cons x rest => exact (State.offerCopies_prefix s x.1 x.2 allPorts q).trans (ih _ _)

/-- Handing over a notice only adds to the queues (R160, R162). -/
theorem State.notify_prefix (s : State) (a : Audience) (n : Notice) (q : Port) :
    (s.noticePort q).queue <+: ((s.notify a n).noticePort q).queue := State.handOver_prefix s 5 _ q

/-- Counting an event only adds to the queues (R190). -/
theorem State.count_prefix (s : State) (c : CounterId) (q : Port) :
    (s.noticePort q).queue <+: ((s.count c).noticePort q).queue := by
  unfold State.count
  dsimp only
  split
  · refine List.IsPrefix.trans ?_ (State.notify_prefix _ _ _ q)
    simp [State.bump]
  · simp [State.bump]

/-- The lost count of a port only rises, and saturates (R163). -/
def LostRises (a b : Nat) : Prop := b = a ∨ (a < b ∧ b ≤ 65535) ∨ b = 65535

/-- A port's queue keeps what it holds, and its lost count only rises. -/
structure NoticePort.Grows (m n : NoticePort) : Prop where
  queue : m.queue <+: n.queue
  lost : LostRises m.lostCount n.lostCount

theorem NoticePort.Grows.refl (m : NoticePort) : m.Grows m := ⟨List.prefix_rfl, .inl rfl⟩

theorem NoticePort.Grows.trans {a b c : NoticePort} (h : a.Grows b) (k : b.Grows c) : a.Grows c :=
  ⟨h.queue.trans k.queue, by have := h.lost; have := k.lost; unfold LostRises at *; omega⟩

/-- A port's queue gains a notice, or is full and has counted a loss. -/
def NoticePort.Gains (m n : NoticePort) (x : Notice) : Prop :=
  m.Grows n ∧ ((∃ l, m.queue ++ l ++ [x] <+: n.queue)
    ∨ (32 ≤ n.queue.length ∧ ((m.lostCount < n.lostCount ∧ n.lostCount ≤ 65535) ∨ n.lostCount = 65535)))

theorem NoticePort.Gains.before {a b c : NoticePort} {x : Notice} (h : a.Grows b) (k : b.Gains c x) : a.Gains c x := by
  refine ⟨h.trans k.1, ?_⟩
  obtain ⟨l0, hl0⟩ := h.queue
  rcases k.2 with ⟨l, hl⟩ | ⟨hlen, hlost⟩
  · exact .inl ⟨l0 ++ l, by simpa [← hl0] using hl⟩
  · refine .inr ⟨hlen, ?_⟩
    have := h.lost
    unfold LostRises at this
    omega

theorem NoticePort.Gains.after {a b c : NoticePort} {x : Notice} (h : a.Gains b x) (k : b.Grows c) : a.Gains c x := by
  refine ⟨h.1.trans k, ?_⟩
  rcases h.2 with ⟨l, hl⟩ | ⟨hlen, hlost⟩
  · exact .inl ⟨l, hl.trans k.queue⟩
  · refine .inr ⟨hlen.trans k.queue.length_le, ?_⟩
    have := k.lost
    unfold LostRises at this
    omega

/-- A copy offered to one port: the queues and lost counts of every port only grow. -/
theorem State.offerCopy_grows (s : State) (n : Notice) (p q : Port) :
    (s.noticePort q).Grows ((s.offerCopy n p).1.noticePort q) := by
  refine ⟨State.offerCopy_prefix s n p q, ?_⟩
  by_cases h : q = p
  · subst h
    unfold State.offerCopy
    split
    · exact .inl (by simp [State.noticePort_modifyNotices])
    · simp only [State.bump, State.noticePort_setCounter, State.noticePort_modifyNotices, if_true, LostRises,
        Config.lostCountMax]
      omega
  · rw [State.offerCopy_noticePort_ne s n h]
    exact .inl rfl

/-- The port to which a copy is offered gains it, or counts its loss (R162, R163). -/
theorem State.offerCopy_gains (s : State) (n : Notice) (p : Port) :
    (s.noticePort p).Gains ((s.offerCopy n p).1.noticePort p) n := by
  refine ⟨State.offerCopy_grows s n p p, ?_⟩
  unfold State.offerCopy
  split
  · exact .inl ⟨[], by simp [State.noticePort_modifyNotices]⟩
  · rename_i hfull
    simp only [Config.noticeQueueSize, not_lt] at hfull
    refine .inr ?_
    simp only [State.bump, State.noticePort_setCounter, State.noticePort_modifyNotices, if_true, Config.lostCountMax]
    omega

theorem State.offerCopies_grows (s : State) (a : Audience) (n : Notice) (l : List Port) (q : Port) :
    (s.noticePort q).Grows ((s.offerCopies a n l).1.noticePort q) := by
  induction l generalizing s with
  | nil => exact .refl _
  | cons p rest ih =>
    unfold State.offerCopies
    split
    · exact (State.offerCopy_grows s n p q).trans (ih _)
    · exact ih _

theorem State.offerCopies_gains {s : State} {a : Audience} {n : Notice} {l : List Port} {q : Port} (hl : q ∈ l)
    (hr : s.receives a q = true) : (s.noticePort q).Gains ((s.offerCopies a n l).1.noticePort q) n := by
  induction l generalizing s with
  | nil => exact absurd hl List.not_mem_nil
  | cons p rest ih =>
    unfold State.offerCopies
    by_cases hqp : q = p
    · subst hqp
      rw [if_pos hr]
      exact (State.offerCopy_gains s n q).after (State.offerCopies_grows _ a n rest q)
    · have hq : q ∈ rest := by simpa [hqp] using hl
      split
      · have hports : (s.offerCopy n p).1.ports = s.ports := by simp
        exact .before (State.offerCopy_grows s n p q) (ih hq (by rw [State.receives_congr hports]; exact hr))
      · exact ih hq hr

theorem State.handOver_grows (s : State) (k : Nat) (l : List (Audience × Notice)) (q : Port) :
    (s.noticePort q).Grows ((s.handOver k l).noticePort q) := by
  induction k generalizing s l with
  | zero => exact .refl _
  | succ k ih =>
    cases l with
    | nil => exact .refl _
    | cons x rest => exact (State.offerCopies_grows s x.1 x.2 allPorts q).trans (ih _ _)

/-- Handing over a notice: every queue keeps what it holds (R160 to R163). -/
theorem State.notify_grows (s : State) (a : Audience) (n : Notice) (q : Port) :
    (s.noticePort q).Grows ((s.notify a n).noticePort q) := State.handOver_grows s 5 _ q

/-- Handing over a notice: each receiver gains it, or counts its loss (R160 to R163). -/
theorem State.notify_gains {s : State} {a : Audience} {q : Port} (hr : s.receives a q = true) (n : Notice) :
    (s.noticePort q).Gains ((s.notify a n).noticePort q) n :=
  (State.offerCopies_gains (mem_allPorts q) hr).after (State.handOver_grows _ 4 _ q)

theorem State.count_grows (s : State) (c : CounterId) (q : Port) :
    (s.noticePort q).Grows ((s.count c).noticePort q) := by
  have hb : (s.bump c).1.noticePort q = s.noticePort q := by cases c <;> rfl
  unfold State.count
  dsimp only
  split
  · exact hb ▸ State.notify_grows _ _ _ q
  · exact hb ▸ .refl _

/-- A delivered report: every queue keeps what it holds. -/
theorem State.deliver_grows (s : State) (r : Report) (q : Port) :
    (s.noticePort q).Grows ((s.deliver r).noticePort q) := by
  cases r with
  | count c => exact State.count_grows s c q
  | notice a n => exact State.notify_grows s a n q

theorem State.deliverAll_grows (s : State) (l : List Report) (q : Port) :
    (s.noticePort q).Grows ((l.foldl State.deliver s).noticePort q) := by
  induction l generalizing s with
  | nil => exact .refl _
  | cons r rest ih => exact (State.deliver_grows s r q).trans (ih _)

/-- Reports that hold a notice for a port hand it over to it, or its loss is counted. -/
theorem State.deliverAll_gains {s : State} {l : List Report} {a : Audience} {n : Notice} {q : Port}
    (h : .notice a n ∈ l) (hr : s.receives a q = true) :
    (s.noticePort q).Gains ((l.foldl State.deliver s).noticePort q) n := by
  induction l generalizing s with
  | nil => exact absurd h List.not_mem_nil
  | cons r rest ih =>
    rcases List.mem_cons.1 h with rfl | h
    · exact (State.notify_gains hr n).after (State.deliverAll_grows _ rest q)
    · have hports : (s.deliver r).ports = s.ports := by simp
      exact .before (State.deliver_grows s r q) (ih h (by rw [State.receives_congr hports]; exact hr))

/-- What a gain says of `Queues`. -/
theorem State.Queues.of_gains {s t : State} {p : Port} {n : Notice}
    (h : (s.port p).session = .online → (s.noticePort p).Gains (t.noticePort p) n) : s.Queues t p n := by
  intro hs
  rcases (h hs).2 with ⟨l, m, hm⟩ | ⟨hlen, hlost⟩
  · exact .inl ⟨l, m, by simpa using hm.symm⟩
  · exact .inr ⟨hlen, by omega⟩

/-! ### Counters -/

theorem State.offerCopy_counter (s : State) (n : Notice) (p : Port) {d : CounterId}
    (hd : ∀ q, d ≠ .port q .noticesLost) : (s.offerCopy n p).1.counter d = s.counter d := by
  unfold State.offerCopy
  split
  · rfl
  · simp only [State.bump, State.counter_setCounter, if_neg (hd p)]
    rfl

theorem State.offerCopies_counter (s : State) (a : Audience) (n : Notice) (l : List Port) {d : CounterId}
    (hd : ∀ q, d ≠ .port q .noticesLost) : (s.offerCopies a n l).1.counter d = s.counter d := by
  induction l generalizing s with
  | nil => rfl
  | cons p rest ih =>
    unfold State.offerCopies
    split
    · exact (ih _).trans (State.offerCopy_counter s n p hd)
    · exact ih _

theorem State.handOver_counter (s : State) (k : Nat) (l : List (Audience × Notice)) {d : CounterId}
    (hd : ∀ q, d ≠ .port q .noticesLost) : (s.handOver k l).counter d = s.counter d := by
  induction k generalizing s l with
  | zero => rfl
  | succ k ih =>
    cases l with
    | nil => rfl
    | cons x rest => exact (ih _ _).trans (State.offerCopies_counter s x.1 x.2 allPorts hd)

/-- Handing over a notice moves no counter but the four NOTICES_LOST (R163). -/
theorem State.notify_counter (s : State) (a : Audience) (n : Notice) {d : CounterId}
    (hd : ∀ q, d ≠ .port q .noticesLost) : (s.notify a n).counter d = s.counter d :=
  State.handOver_counter s 5 _ hd

/-- Counting an event adds 1 to its counter and moves no other but NOTICES_LOST (R188). -/
theorem State.count_counter (s : State) (c : CounterId) {d : CounterId} (hd : ∀ q, d ≠ .port q .noticesLost) :
    (s.count c).counter d = if d = c then s.counter c + 1 else s.counter d := by
  unfold State.count
  dsimp only
  split
  · rw [State.notify_counter _ _ _ hd]; simp [State.bump, State.counter_setCounter]
  · simp [State.bump, State.counter_setCounter]

/-- A delivered count adds 1 to its counter, and no delivery moves another counter but NOTICES_LOST. -/
theorem State.deliver_counter (s : State) (r : Report) {d : CounterId} (hd : ∀ q, d ≠ .port q .noticesLost) :
    (s.deliver r).counter d = if r = .count d then s.counter d + 1 else s.counter d := by
  cases r with
  | count c =>
    rw [State.deliver, State.count_counter s c hd]
    by_cases h : d = c
    · subst h; simp
    · simp [h, Ne.symm h]
  | notice a n => simp [State.deliver, State.notify_counter s a n hd]

/-- Reports add to a counter as often as they hold its count (R189). -/
theorem State.deliverAll_counter (s : State) (l : List Report) {d : CounterId} (hd : ∀ q, d ≠ .port q .noticesLost) :
    (l.foldl State.deliver s).counter d = s.counter d + BitVec.ofNat 32 (l.count (.count d)) := by
  induction l generalizing s with
  | nil => simp
  | cons r rest ih =>
    rw [List.foldl_cons, ih, State.deliver_counter s r hd, List.count_cons]
    by_cases h : r = .count d
    · rw [if_pos h, if_pos (by simpa using h), BitVec.ofNat_add, BitVec.add_assoc]
      exact congrArg _ (BitVec.add_comm _ _)
    · simp [h]

/-! ### The grant -/

theorem State.offerCopy_withGrant (s : State) (g : Option Grant) (n : Notice) (p : Port) :
    (s.withGrant g).offerCopy n p = ((s.offerCopy n p).1.withGrant g, (s.offerCopy n p).2) := by
  unfold State.offerCopy
  rw [show (s.withGrant g).noticePort p = s.noticePort p from rfl]
  split <;> rfl

theorem State.offerCopies_withGrant (s : State) (g : Option Grant) (a : Audience) (n : Notice) (l : List Port) :
    (s.withGrant g).offerCopies a n l = ((s.offerCopies a n l).1.withGrant g, (s.offerCopies a n l).2) := by
  induction l generalizing s with
  | nil => rfl
  | cons p rest ih =>
    unfold State.offerCopies
    rw [show (s.withGrant g).receives a p = s.receives a p from rfl]
    split
    · simp only [State.offerCopy_withGrant, ih]
    · exact ih s

theorem State.handOver_withGrant (s : State) (g : Option Grant) (k : Nat) (l : List (Audience × Notice)) :
    (s.withGrant g).handOver k l = (s.handOver k l).withGrant g := by
  induction k generalizing s l with
  | zero => rfl
  | succ k ih =>
    cases l with
    | nil => rfl
    | cons x rest => simp only [State.handOver, State.offerCopies_withGrant, ih]

theorem State.notify_withGrant (s : State) (g : Option Grant) (a : Audience) (n : Notice) :
    (s.withGrant g).notify a n = (s.notify a n).withGrant g := State.handOver_withGrant s g 5 _

theorem State.count_withGrant (s : State) (g : Option Grant) (c : CounterId) :
    (s.withGrant g).count c = (s.count c).withGrant g := by
  have hb : (s.withGrant g).bump c = ((s.bump c).1.withGrant g, (s.bump c).2) := by cases c <;> rfl
  unfold State.count
  simp only [hb]
  split
  · exact State.notify_withGrant _ g _ _
  · rfl

/-- A delivery does not depend on the grant. -/
theorem State.deliver_withGrant (s : State) (g : Option Grant) (r : Report) :
    (s.withGrant g).deliver r = (s.deliver r).withGrant g := by
  cases r with
  | count c => exact State.count_withGrant s g c
  | notice a n => exact State.notify_withGrant s g a n

theorem State.deliverAll_withGrant (s : State) (g : Option Grant) (l : List Report) :
    l.foldl State.deliver (s.withGrant g) = (l.foldl State.deliver s).withGrant g := by
  induction l generalizing s with
  | nil => rfl
  | cons r rest ih => rw [List.foldl_cons, List.foldl_cons, State.deliver_withGrant, ih]

end Sys2Proof.Machine
end

