-- ==== Sys2Proof/Laws/Grants.lean ====
section
/-! SUPPORT. The course of a grant, said once: what each runner does, and what is left of a grant after some of its
reports. -/

namespace Sys2Proof.Machine

/-! ### Reports of an operation -/

@[simp] theorem State.report_grant (s : State) (r : Report) :
    (s.report r).grant = s.grant.map (fun g => { g with reports := g.reports ++ [r] }) := rfl

@[simp] theorem State.notifyInGrant_grant (s : State) (a : Audience) (n : Notice) :
    (s.notifyInGrant a n).grant = s.grant.map (fun g => { g with reports := g.reports ++ [.notice a n] }) := rfl

@[simp] theorem State.countInGrant_grant (s : State) (c : CounterId) :
    (s.countInGrant c).grant = s.grant.map (fun g => { g with reports := g.reports ++ [.count c] }) := rfl

@[simp] theorem State.acted_grant (s : State) (e : Ending) :
    (s.acted e).grant = s.grant.map (fun g => { g with ending := some e }) := rfl

/-! ### The course of a grant -/

/-- A whole grant: every report is delivered, and the grant ends by its ending. -/
theorem State.advance_none {s : State} {g : Grant} {e : Ending} (hg : s.grant = some g) (he : g.ending = some e) :
    s.advance none = (((g.reports.foldl State.deliver s).withGrant (some { g with reports := [] })).conclude g.client
      e).endGrant := by
  unfold State.advance
  simp only [hg, Option.getD_none, List.take_of_length_le (Nat.le_succ _), List.drop_of_length_le (Nat.le_succ _),
    Nat.lt_succ_self, if_true, State.deliverAll_withGrant, State.finishGrant, State.withGrant_grant, he]

/-- Part of a grant: the first `n` reports are delivered, and the others stay. -/
theorem State.advance_some {s : State} {g : Grant} {n : Nat} (hg : s.grant = some g) (hn : n ≤ g.reports.length) :
    s.advance (some n)
      = ((g.reports.take n).foldl State.deliver s).withGrant (some { g with reports := g.reports.drop n }) := by
  unfold State.advance
  simp only [hg, Option.getD_some, if_neg (not_lt.2 hn), State.deliverAll_withGrant]

/-- More than what is left of a grant is all of it. -/
theorem State.advance_beyond {s : State} {g : Grant} {n : Nat} (hg : s.grant = some g) (hn : g.reports.length < n) :
    s.advance (some n) = s.advance none := by
  unfold State.advance
  simp only [hg, Option.getD_some, Option.getD_none, hn, Nat.lt_succ_self, if_true, List.take_of_length_le hn.le,
    List.take_of_length_le (Nat.le_succ _), List.drop_of_length_le hn.le, List.drop_of_length_le (Nat.le_succ _)]

/-! ### The runners -/

/-- A request row that runs in a grant: nothing happens, or the request acts if it has not yet, and its grant goes on. -/
theorem runGranted_cases {p : Port} {s t : State} {u : Option Nat} {row : View → RequestFrame → Option (State → Reply)}
    (h : runGranted p s u row = .next t) :
    t = s ∨ ∃ g rq act, s.grant = some g ∧ g.client = .executor p ∧ (s.port p).executor = .busy rq
      ∧ row g.view rq = some act ∧ t = (if g.begun then s else s.actRequest g.view p rq act).advance u := by
  unfold runGranted at h
  split at h
  · rename_i g rq hg hrq
    split at h
    · rename_i act hact
      have := State.grantOf_eq_some.1 hg
      exact .inr ⟨g, rq, act, this.1, this.2, hrq, hact, (Host.Outcome.next.inj h).symm⟩
    · exact .inl (Host.Outcome.next.inj h).symm
  · exact .inl (Host.Outcome.next.inj h).symm

theorem runGranted_eq {p : Port} {s : State} {u : Option Nat} {row : View → RequestFrame → Option (State → Reply)}
    {g : Grant} {rq : RequestFrame} {act : State → Reply} (hg : s.grant = some g) (hc : g.client = .executor p)
    (hrq : (s.port p).executor = .busy rq) (hact : row g.view rq = some act) :
    runGranted p s u row = .next ((if g.begun then s else s.actRequest g.view p rq act).advance u) := by
  unfold runGranted
  simp [State.grantOf_eq_some.2 ⟨hg, hc⟩, hrq, hact]

/-- A bucket row: nothing happens, or the head job's bucket is processed if it is not yet, and its grant goes on. -/
theorem runBucket_cases {s t : State} {u : Option Nat} {row : View → Job → Option (Nat → State → State)}
    (h : runBucket s u row = .next t) :
    t = s ∨ ∃ g j rest f, s.grant = some g ∧ g.client = .maintenance ∧ s.maintenance.queue = j :: rest
      ∧ row g.view j = some f ∧ t = (if g.begun then s else s.actBucket j f).advance u := by
  unfold runBucket at h
  split at h
  · rename_i g j rest hg hq
    split at h
    · rename_i f hf
      have := State.grantOf_eq_some.1 hg
      exact .inr ⟨g, j, rest, f, this.1, this.2, hq, hf, (Host.Outcome.next.inj h).symm⟩
    · exact .inl (Host.Outcome.next.inj h).symm
  · exact .inl (Host.Outcome.next.inj h).symm

theorem runBucket_eq {s : State} {u : Option Nat} {row : View → Job → Option (Nat → State → State)} {g : Grant} {j : Job}
    {rest : List Job} {f : Nat → State → State} (hg : s.grant = some g) (hc : g.client = .maintenance)
    (hq : s.maintenance.queue = j :: rest) (hf : row g.view j = some f) :
    runBucket s u row = .next ((if g.begun then s else s.actBucket j f).advance u) := by
  unfold runBucket
  simp [State.grantOf_eq_some.2 ⟨hg, hc⟩, hq, hf]

/-- The expiry row: nothing happens, or the head of the expiry list is resolved if it is not yet, and the grant goes on. -/
theorem runResolution_cases {s t : State} {u : Option Nat} {row : View → TransferIndex → State → State}
    (h : runResolution s u row = .next t) :
    t = s ∨ ∃ g, s.grant = some g ∧ g.client = .transferController
      ∧ ((g.begun = true ∧ t = s.advance u)
        ∨ ∃ x rest, g.begun = false ∧ s.transfers.expiryList = x :: rest
            ∧ t = ((row g.view x s).acted .resolution).advance u) := by
  unfold runResolution at h
  split at h
  · rename_i g hg
    have := State.grantOf_eq_some.1 hg
    split at h
    · rename_i hb
      exact .inr ⟨g, this.1, this.2, .inl ⟨hb, (Host.Outcome.next.inj h).symm⟩⟩
    · rename_i hb
      split at h
      · rename_i x rest hx
        exact .inr ⟨g, this.1, this.2, .inr ⟨x, rest, by simpa using hb, hx, (Host.Outcome.next.inj h).symm⟩⟩
      · exact .inl (Host.Outcome.next.inj h).symm
  · exact .inl (Host.Outcome.next.inj h).symm

end Sys2Proof.Machine
end

