-- ==== Sys2Proof/Laws/Lookup.lean ====
section
/-! SUPPORT. What a lookup, an insertion's search and a scan give when no slot fails its check. -/

namespace Sys2Proof.Machine

/-- The slots of a list rise. -/
theorem bucketSlots_rising (b : Nat) : (bucketSlots b).Pairwise (· < ·) := by
  unfold bucketSlots
  rw [List.pairwise_map]
  exact List.pairwise_lt_range.imp (by intros; omega)

/-- R6: the first slot of a list that holds the identifier is the hit. -/
theorem State.lookupIn_hit {s : State} {f l : List Nat} {d : DomainId} {k : Key} {i : Nat} {b : Binding}
    (hs : ∀ j ∈ l, j ∉ f) (hl : l.Pairwise (· < ·)) (hi : i ∈ l) (hb : s.slot i = .occupied b) (hh : b.Holds d k)
    (hf : ∀ j ∈ l, j < i → ∀ c, s.slot j = .occupied c → ¬ c.Holds d k) :
    s.lookupIn f d k l = (s, some (i, b)) := by
  induction l with
  | nil => exact absurd hi List.not_mem_nil
  | cons j rest ih =>
    have hj : f.contains j = false := by simpa using hs j List.mem_cons_self
    have hrest := List.pairwise_cons.1 hl
    by_cases hij : i = j
    · subst hij
      unfold State.lookupIn
      rw [hb]
      simp only [hj, Bool.false_eq_true, if_false]
      rw [if_pos (by exact hh)]
    · have hi' : i ∈ rest := by simpa [hij] using hi
      have := ih (fun j h => hs j (List.mem_cons_of_mem _ h)) hrest.2 hi'
        (fun j h => hf j (List.mem_cons_of_mem _ h))
      unfold State.lookupIn
      cases hc : s.slot j with
      | occupied c =>
        have hno := hf j List.mem_cons_self (hrest.1 i hi') c hc
        simp only [hj, Bool.false_eq_true, if_false]
        rw [if_neg (by exact hno)]
        exact this
      | undefined => exact this
      | free => exact this
      | defective => exact this

/-- R6: a list of which no slot holds the identifier is a miss. -/
theorem State.lookupIn_miss {s : State} {f l : List Nat} {d : DomainId} {k : Key} (hs : ∀ j ∈ l, j ∉ f)
    (hn : ∀ j ∈ l, ∀ c, s.slot j = .occupied c → ¬ c.Holds d k) : s.lookupIn f d k l = (s, none) := by
  induction l with
  | nil => rfl
  | cons j rest ih =>
    have hj : f.contains j = false := by simpa using hs j List.mem_cons_self
    have := ih (fun j h => hs j (List.mem_cons_of_mem _ h)) (fun j h => hn j (List.mem_cons_of_mem _ h))
    unfold State.lookupIn
    cases hc : s.slot j with
    | occupied c =>
      simp only [hj, Bool.false_eq_true, if_false]
      rw [if_neg (by exact hn j List.mem_cons_self c hc)]
      exact this
    | undefined => exact this
    | free => exact this
    | defective => exact this

theorem State.Finds.lookup {s : State} {f : List Nat} {d : DomainId} {k : Key} {i : Nat} {b : Binding}
    (h : s.Finds f d k i b) : s.lookup f d k = (s, some (i, b)) :=
  State.lookupIn_hit h.sound (bucketSlots_rising _) h.bucket h.slot h.holds h.first

theorem State.Misses.lookup {s : State} {f : List Nat} {d : DomainId} {k : Key} (h : s.Misses f d k) :
    s.lookup f d k = (s, Option.none) :=
  State.lookupIn_miss h.sound h.none

/-- R7: the lowest FREE slot of a list whose slots pass their checks. -/
theorem State.freeWayIn_lowest {s : State} {f l : List Nat} {i : Nat} (hs : ∀ j ∈ l, j ∉ f)
    (hl : l.Pairwise (· < ·)) (hi : i ∈ l) (hb : s.slot i = .free) (hf : ∀ j ∈ l, j < i → s.slot j ≠ .free) :
    s.freeWayIn f l = (s, some i) := by
  induction l with
  | nil => exact absurd hi List.not_mem_nil
  | cons j rest ih =>
    have hj : f.contains j = false := by simpa using hs j List.mem_cons_self
    have hrest := List.pairwise_cons.1 hl
    by_cases hij : i = j
    · subst hij
      unfold State.freeWayIn
      rw [hb]
      simp only [hj, Bool.false_eq_true, if_false]
    · have hi' : i ∈ rest := by simpa [hij] using hi
      have := ih (fun j h => hs j (List.mem_cons_of_mem _ h)) hrest.2 hi'
        (fun j h => hf j (List.mem_cons_of_mem _ h))
      unfold State.freeWayIn
      cases hc : s.slot j with
      | free => exact absurd hc (hf j List.mem_cons_self (hrest.1 i hi'))
      | undefined => exact this
      | occupied c => exact this
      | defective => exact this

/-- A search reads the slots alone. -/
theorem State.freeWayIn_congr {s t : State} {f l : List Nat} {i : Nat} (h : t.directory = s.directory)
    (hi : s.freeWayIn f l = (s, some i)) (hs : ∀ j ∈ l, j ∉ f) : t.freeWayIn f l = (t, some i) := by
  have hslot : ∀ j, t.slot j = s.slot j := fun j => by simp [State.slot, h]
  induction l with
  | nil => simp [State.freeWayIn] at hi
  | cons j rest ih =>
    have hj : f.contains j = false := by simpa using hs j List.mem_cons_self
    unfold State.freeWayIn at hi ⊢
    rw [hslot]
    cases hc : s.slot j with
    | free => simp_all
    | undefined => simp only [hc] at hi ⊢; exact ih hi fun j h => hs j (List.mem_cons_of_mem _ h)
    | occupied c => simp only [hc] at hi ⊢; exact ih hi fun j h => hs j (List.mem_cons_of_mem _ h)
    | defective => simp only [hc] at hi ⊢; exact ih hi fun j h => hs j (List.mem_cons_of_mem _ h)

/-- R49: the first slot of a list whose binding matches the filter. -/
theorem State.scanIn_first {s : State} {f l : List Nat} {x : ScanFilter} {i : Nat} {b : Binding}
    (hs : ∀ j ∈ l, j ∉ f) (hl : l.Pairwise (· < ·)) (hi : i ∈ l) (hb : s.slot i = .occupied b)
    (hm : x.matches b = true) (hf : ∀ j ∈ l, j < i → ∀ c, s.slot j = .occupied c → x.matches c = false) :
    s.scanIn f x l = (s, some (i, b)) := by
  induction l with
  | nil => exact absurd hi List.not_mem_nil
  | cons j rest ih =>
    have hj : f.contains j = false := by simpa using hs j List.mem_cons_self
    have hrest := List.pairwise_cons.1 hl
    by_cases hij : i = j
    · subst hij
      unfold State.scanIn
      rw [hb]
      simp only [hj, Bool.false_eq_true, if_false, hm, if_true]
    · have hi' : i ∈ rest := by simpa [hij] using hi
      have := ih (fun j h => hs j (List.mem_cons_of_mem _ h)) hrest.2 hi'
        (fun j h => hf j (List.mem_cons_of_mem _ h))
      unfold State.scanIn
      cases hc : s.slot j with
      | occupied c =>
        simp only [hj, Bool.false_eq_true, if_false, hf j List.mem_cons_self (hrest.1 i hi') c hc]
        exact this
      | undefined => exact this
      | free => exact this
      | defective => exact this

theorem State.scanIn_none {s : State} {f l : List Nat} {x : ScanFilter} (hs : ∀ j ∈ l, j ∉ f)
    (hf : ∀ j ∈ l, ∀ c, s.slot j = .occupied c → x.matches c = false) : s.scanIn f x l = (s, none) := by
  induction l with
  | nil => rfl
  | cons j rest ih =>
    have hj : f.contains j = false := by simpa using hs j List.mem_cons_self
    have := ih (fun j h => hs j (List.mem_cons_of_mem _ h)) (fun j h => hf j (List.mem_cons_of_mem _ h))
    unfold State.scanIn
    cases hc : s.slot j with
    | occupied c =>
      simp only [hj, Bool.false_eq_true, if_false, hf j List.mem_cons_self c hc]
      exact this
    | undefined => exact this
    | free => exact this
    | defective => exact this

/-- The slots of the rest of a window (R49). -/
theorem mem_windowSlots {start i : Nat} : i ∈ windowSlots start ↔ start ≤ i ∧ i ≤ 64 * (start / 64) + 63 := by
  simp only [windowSlots, nextWindow, List.mem_range'_1]
  omega

theorem windowSlots_rising (start : Nat) : (windowSlots start).Pairwise (· < ·) := by
  unfold windowSlots
  exact List.pairwise_lt_range'

end Sys2Proof.Machine
end

