-- ==== Sys2Proof/Laws/Requests.lean ====
section
/-! SUPPORT. Running a request: what its response, the end of its grant and the arbiter leave of every read of the state,
and the one equation by which a request that passes the common checks runs. -/

namespace Sys2Proof.Machine

/-! ### Reads through operations that do not touch them -/

@[simp] theorem State.arbitrate_slot (s : State) (i : Nat) : s.arbitrate.slot i = s.slot i := by simp [State.slot]

@[simp] theorem State.endGrant_slot (s : State) (i : Nat) : s.endGrant.slot i = s.slot i := by simp [State.slot]

@[simp] theorem State.respond_slot (s : State) (p : Port) (rq : RequestFrame) (st : Status) (res : Result) (i : Nat) :
    (s.respond p rq st res).slot i = s.slot i := by simp [State.slot]

@[simp] theorem State.count_slot (s : State) (c : CounterId) (i : Nat) : (s.count c).slot i = s.slot i := by
  simp [State.slot]

@[simp] theorem State.notify_slot (s : State) (a : Audience) (n : Notice) (i : Nat) :
    (s.notify a n).slot i = s.slot i := by simp [State.slot]

@[simp] theorem State.arbitrate_owned (s : State) (q : Port) : s.arbitrate.owned q = s.owned q := by
  simp [State.owned]

@[simp] theorem State.endGrant_owned (s : State) (q : Port) : s.endGrant.owned q = s.owned q := by simp [State.owned]

@[simp] theorem State.respond_owned (s : State) (p : Port) (rq : RequestFrame) (st : Status) (res : Result) (q : Port) :
    (s.respond p rq st res).owned q = s.owned q := by simp [State.owned]

@[simp] theorem State.count_owned (s : State) (c : CounterId) (q : Port) : (s.count c).owned q = s.owned q := by
  simp [State.owned]

@[simp] theorem State.notify_owned (s : State) (a : Audience) (n : Notice) (q : Port) :
    (s.notify a n).owned q = s.owned q := by simp [State.owned]

@[simp] theorem State.putBinding_owned (s : State) (i : Nat) (b : Binding) (q : Port) :
    (s.putBinding i b).owned q = s.owned q := rfl

@[simp] theorem State.writeSlot_owned (s : State) (i : Nat) (x : Slot) (q : Port) :
    (s.writeSlot i x).owned q = s.owned q := rfl

@[simp] theorem State.putBinding_orphanTotal (s : State) (i : Nat) (b : Binding) :
    (s.putBinding i b).directory.orphanTotal = s.directory.orphanTotal := rfl

@[simp] theorem State.writeSlot_orphanTotal (s : State) (i : Nat) (x : Slot) :
    (s.writeSlot i x).directory.orphanTotal = s.directory.orphanTotal := rfl

theorem State.modifyOwned_owned (s : State) (p q : Port) (f : Nat → Nat) :
    (s.modifyOwned p f).owned q = if q = p then f (s.owned p) else s.owned q := by
  simp [State.modifyOwned, State.owned, PerPort.get_set]

@[simp] theorem State.modifyCount_owned (s : State) (d : DomainId) (f : Nat → Nat) (q : Port) :
    (s.modifyCount d f).owned q = s.owned q := rfl

@[simp] theorem State.arbitrate_domain (s : State) (d : DomainId) : s.arbitrate.domain d = s.domain d := by
  simp [State.domain]

@[simp] theorem State.endGrant_domain (s : State) (d : DomainId) : s.endGrant.domain d = s.domain d := by
  simp [State.domain]

@[simp] theorem State.respond_domain (s : State) (p : Port) (rq : RequestFrame) (st : Status) (res : Result)
    (d : DomainId) : (s.respond p rq st res).domain d = s.domain d := by simp [State.domain]

@[simp] theorem State.count_domain (s : State) (c : CounterId) (d : DomainId) : (s.count c).domain d = s.domain d := by
  simp [State.domain]

@[simp] theorem State.notify_domain (s : State) (a : Audience) (n : Notice) (d : DomainId) :
    (s.notify a n).domain d = s.domain d := by simp [State.domain]

@[simp] theorem State.putBinding_domain (s : State) (i : Nat) (b : Binding) (d : DomainId) :
    (s.putBinding i b).domain d = s.domain d := rfl

@[simp] theorem State.arbitrate_entry (s : State) (x : TransferIndex) : s.arbitrate.entry x = s.entry x := by
  simp [State.entry]

@[simp] theorem State.endGrant_entry (s : State) (x : TransferIndex) : s.endGrant.entry x = s.entry x := by
  simp [State.entry]

@[simp] theorem State.respond_entry (s : State) (p : Port) (rq : RequestFrame) (st : Status) (res : Result)
    (x : TransferIndex) : (s.respond p rq st res).entry x = s.entry x := by simp [State.entry]

@[simp] theorem State.count_entry (s : State) (c : CounterId) (x : TransferIndex) :
    (s.count c).entry x = s.entry x := by simp [State.entry]

@[simp] theorem State.notify_entry (s : State) (a : Audience) (n : Notice) (x : TransferIndex) :
    (s.notify a n).entry x = s.entry x := by simp [State.entry]

@[simp] theorem State.putBinding_entry (s : State) (i : Nat) (b : Binding) (x : TransferIndex) :
    (s.putBinding i b).entry x = s.entry x := rfl

@[simp] theorem State.arbitrate_port (s : State) (q : Port) : s.arbitrate.port q = s.port q := by simp [State.port]

@[simp] theorem State.endGrant_port (s : State) (q : Port) : s.endGrant.port q = s.port q := by simp [State.port]

@[simp] theorem State.count_port (s : State) (c : CounterId) (q : Port) : (s.count c).port q = s.port q := by
  simp [State.port]

@[simp] theorem State.notify_port (s : State) (a : Audience) (n : Notice) (q : Port) :
    (s.notify a n).port q = s.port q := by simp [State.port]

@[simp] theorem State.arbitrate_noticePort (s : State) (q : Port) : s.arbitrate.noticePort q = s.noticePort q := by
  simp [State.noticePort]

@[simp] theorem State.endGrant_noticePort (s : State) (q : Port) : s.endGrant.noticePort q = s.noticePort q := by
  simp [State.noticePort]

@[simp] theorem State.modifyPort_noticePort (s : State) (p q : Port) (f : PortController → PortController) :
    (s.modifyPort p f).noticePort q = s.noticePort q := rfl

@[simp] theorem State.arbitrate_counter (s : State) (c : CounterId) : s.arbitrate.counter c = s.counter c := by
  cases c <;> simp [State.counter]

@[simp] theorem State.endGrant_counter (s : State) (c : CounterId) : s.endGrant.counter c = s.counter c := by
  cases c <;> simp [State.counter]

@[simp] theorem State.modifyPort_counter (s : State) (p : Port) (f : PortController → PortController)
    (c : CounterId) : (s.modifyPort p f).counter c = s.counter c := by cases c <;> simp [State.counter]

@[simp] theorem State.putBinding_counter (s : State) (i : Nat) (b : Binding) (c : CounterId) :
    (s.putBinding i b).counter c = s.counter c := by cases c <;> rfl

/-- Counting an event of a port leaves the device counters. -/
@[simp] theorem State.count_port_deviceCounters (s : State) (p : Port) (n : PortCounter) :
    (s.count (.port p n)).deviceCounters = s.deviceCounters := by
  unfold State.count
  dsimp only
  split <;> simp [State.bump, State.setCounter]

/-! ### Responses -/

@[simp] theorem State.respond_deviceCounters (s : State) (p : Port) (rq : RequestFrame) (st : Status) (res : Result) :
    (s.respond p rq st res).deviceCounters = s.deviceCounters := by
  unfold State.respond
  dsimp only
  split <;> simp

/-- A response that is no refusal counts nothing and sends nothing. -/
theorem State.respond_success_counts {st : Status} (h : st.isRefusal = false) (s : State) (p : Port)
    (rq : RequestFrame) (res : Result) :
    (s.respond p rq st res).portCounters = s.portCounters ∧ (s.respond p rq st res).notices = s.notices := by
  rw [State.respond_success h]
  simp

/-- A refusal adds 1 to REFUSALS, and no response moves another counter but NOTICES_LOST (R191). -/
theorem State.respond_counter (s : State) (p : Port) (rq : RequestFrame) (st : Status) (res : Result) {c : CounterId}
    (hc : ∀ q, c ≠ .port q .noticesLost) :
    (s.respond p rq st res).counter c
      = if st.isRefusal = true ∧ c = .port p .refusals then s.counter c + 1 else s.counter c := by
  by_cases h : st.isRefusal = true
  · rw [State.respond_refusal h, State.count_counter _ _ hc]
    by_cases h2 : c = .port p .refusals
    · subst h2; simp [h]
    · simp [h, h2]
  · have h' : st.isRefusal = false := by simpa using h
    rw [State.respond_success h']
    simp [h]

/-- A response does not depend on the grant. -/
theorem State.respond_withGrant (s : State) (g : Option Grant) (p : Port) (rq : RequestFrame) (st : Status)
    (res : Result) : (s.withGrant g).respond p rq st res = (s.respond p rq st res).withGrant g := by
  unfold State.respond
  dsimp only
  split
  · exact State.count_withGrant (s.modifyPort p (fun c => c.answered ⟨rq.kind, rq.tag, st, res⟩)) g _
  · rfl

/-- A response only adds to the notice queues. -/
theorem State.respond_prefix (s : State) (p : Port) (rq : RequestFrame) (st : Status) (res : Result) (q : Port) :
    (s.noticePort q).queue <+: ((s.respond p rq st res).noticePort q).queue := by
  by_cases h : st.isRefusal = true
  · rw [State.respond_refusal h]
    refine List.IsPrefix.trans ?_ (State.count_prefix _ _ _)
    rw [State.modifyPort_noticePort]
  · have h' : st.isRefusal = false := by simpa using h
    rw [State.respond_success h', State.modifyPort_noticePort]

/-- A response to a state whose Port Controllers are `s`'s answers the request in `s`. -/
theorem State.respond_answers {s u : State} (h : u.ports = s.ports) (p : Port) (rq : RequestFrame) (st : Status)
    (res : Result) : s.Answers (u.respond p rq st res) p rq st res := by
  refine ⟨?_, fun q hq => ?_⟩
  · simp [State.port, State.respond_ports, h]
  · simp [State.port, State.respond_ports, h, hq]

theorem State.Answers.endGrant {s t : State} {p : Port} {rq : RequestFrame} {st : Status} {res : Result}
    (h : s.Answers t p rq st res) : s.Answers t.endGrant p rq st res :=
  ⟨by rw [State.endGrant_port]; exact h.1, fun q hq => by rw [State.endGrant_port]; exact h.2 q hq⟩

theorem State.Answers.arbitrate {s t : State} {p : Port} {rq : RequestFrame} {st : Status} {res : Result}
    (h : s.Answers t p rq st res) : s.Answers t.arbitrate p rq st res :=
  ⟨by rw [State.arbitrate_port]; exact h.1, fun q hq => by rw [State.arbitrate_port]; exact h.2 q hq⟩

/-! ### Frames -/

theorem State.ChangesOnly.mono {s t : State} {a b : List Part} (h : s.ChangesOnly t a) (hs : ∀ x ∈ a, x ∈ b) :
    s.ChangesOnly t b := fun x hx => h x fun h => hx (hs x h)

/-- What a response and the end of its grant change at most. -/
theorem State.respond_endGrant_changes (s : State) (p : Port) (rq : RequestFrame) (st : Status) (res : Result) :
    s.ChangesOnly (s.respond p rq st res).endGrant [.arbiter, .ports, .notices, .portCounters] := by
  intro x hx
  cases x <;> simp [State.Same] at hx ⊢

theorem State.respond_arbitrate_changes (s : State) (p : Port) (rq : RequestFrame) (st : Status) (res : Result) :
    s.ChangesOnly (s.respond p rq st res).arbitrate [.arbiter, .ports, .notices, .portCounters] := by
  intro x hx
  cases x <;> simp [State.Same] at hx ⊢

theorem State.success_endGrant_changes {st : Status} (h : st.isRefusal = false) (s : State) (p : Port)
    (rq : RequestFrame) (res : Result) : s.ChangesOnly (s.respond p rq st res).endGrant [.arbiter, .ports] := by
  intro x hx
  cases x <;> simp [State.Same] at hx ⊢ <;> simp [State.respond_success_counts h]

theorem State.success_arbitrate_changes {st : Status} (h : st.isRefusal = false) (s : State) (p : Port)
    (rq : RequestFrame) (res : Result) : s.ChangesOnly (s.respond p rq st res).arbitrate [.arbiter, .ports] := by
  intro x hx
  cases x <;> simp [State.Same] at hx ⊢ <;> simp [State.respond_success_counts h]

/-! ### Running a request -/

/-- A request in its grant that passes the common checks: its own rule, its reports, its response, the end of the grant. -/
theorem State.InGrant.runs {s u : State} {p : Port} {v : View} {rq : RequestFrame}
    {row : View → RequestFrame → Option (State → Reply)} {act : State → Reply} {st : Status} {res : Result}
    {l : List Report} (h : s.InGrant p v rq) (hrow : row v rq = some act) (ha : act s = ⟨u, st, res⟩)
    (hg : u.grant = some ⟨.executor p, v, l, none⟩) (hu : (u.port p).executor = .busy rq) :
    runGranted p s none row = .next (((l.foldl State.deliver u).respond p rq st res).endGrant) := by
  rw [runGranted_eq h.grant rfl h.executor hrow]
  have hact : s.actRequest v p rq act = u.acted (.response st res) := by
    simp [State.actRequest, checkedReply_passed h.passes, ha]
  simp only [Grant.begun, Grant.fresh, Option.isSome_none, Bool.false_eq_true, if_false, hact]
  rw [State.advance_none (g := ⟨.executor p, v, l, some (.response st res)⟩) (by simp [hg]) rfl]
  simp only [State.conclude, State.endRequest, State.acted, State.deliverAll_withGrant]
  rw [show ∀ x y, ((((l.foldl State.deliver u).withGrant x).withGrant y).port p).executor = .busy rq from fun x y => by
    rw [← hu]; simp [State.port]]
  simp only [State.endGrant, State.respond_withGrant]
  rfl

/-- A request of another kind that passes the common checks: its own rule and its response, at once. -/
theorem State.AtOnce.runs {s u : State} {p : Port} {rq : RequestFrame} {row : RequestFrame → Option (State → Reply)}
    {act : State → Reply} {st : Status} {res : Result} (h : s.AtOnce p rq) (hrow : row rq = some act)
    (ha : act s = ⟨u, st, res⟩) : runDirect p s row = .next (u.respond p rq st res).arbitrate := by
  rw [runDirect_eq h.executor hrow, State.answer_passed h.passes, ha]

/-- The claim policy's refusal, for a port that it allows (R62). -/
theorem Policy.Allows.refusalFor {pol : Policy} {p : Port} (h : pol.Allows p) : pol.refusalFor p = none := by
  rcases h with h | h <;> simp [Policy.refusalFor, h]

end Sys2Proof.Machine
end

