-- ==== Sys2Proof/Laws/ResultArea.lean ====
section
/-! SUPPORT. What stands in a result area that R203 does not lay out: bit by bit, in the order of sending, and that the places
of its fields stand apart. -/

namespace Sys2Proof.Machine

/-- A bit of the result area, in the order of sending, belongs to the field at number `i`. -/
def bitOf (place : Nat → Nat) (width : AreaField → Nat) (f : AreaField) (i n : Nat) : Bool :=
  decide (place i ≤ n) && decide (n < place i + width f)

theorem fieldWord_getMsbD (v w p n : Nat) (h : p + w ≤ 88) :
    (BitVec.ofNat Config.areaBits (v % 2 ^ w * 2 ^ (Config.areaBits - p - w))).getMsbD n
      = (decide (p ≤ n) && decide (n < p + w) && v.testBit (w - 1 - (n - p))) := by
  have hl : (BitVec.ofNat Config.areaBits (v % 2 ^ w * 2 ^ (Config.areaBits - p - w))).getMsbD n
      = (decide (n < 88) && (decide (87 - n < 88) && (decide (88 - p - w ≤ 87 - n)
          && (decide (87 - n - (88 - p - w) < w) && v.testBit (87 - n - (88 - p - w)))))) := by
    simp only [BitVec.getMsbD, BitVec.getLsbD_ofNat, Nat.testBit_mul_two_pow, Nat.testBit_mod_two_pow, Config.areaBits,
      show 88 - 1 - n = 87 - n by omega]
  rw [hl]
  by_cases hc : p ≤ n ∧ n < p + w
  · have h1 : 87 - n - (88 - p - w) = w - 1 - (n - p) := by omega
    rw [h1]
    simp [hc.1, hc.2, show n < 88 by omega, show 87 - n < 88 by omega, show 88 - p - w ≤ 87 - n by omega,
      show w - 1 - (n - p) < w by omega]
  · have h2 : (decide (p ≤ n) && decide (n < p + w)) = false := by simp; omega
    rw [h2, Bool.false_and]
    by_cases hn : n < 88 ∧ 88 - p - w ≤ 87 - n ∧ 87 - n - (88 - p - w) < w
    · omega
    · simp only [Bool.and_eq_false_iff, decide_eq_false_iff_not]
      omega

/-- A bit of the area is 1 exactly where a field stands that has a 1 there. -/
theorem areaWord_getMsbD (place : Nat → Nat) (width : AreaField → Nat) (n : Nat) :
    ∀ (fs : List AreaField) (i : Nat), (∀ f j, (f, j) ∈ fs.zipIdx i → place j + width f ≤ 88) →
      (areaWord place width fs i).getMsbD n
        = (fs.zipIdx i).any (fun x =>
            bitOf place width x.1 x.2 n && x.1.value.testBit (width x.1 - 1 - (n - place x.2)))
  | [], _, _ => by simp [areaWord]
  | f :: rest, i, h => by
    rw [areaWord, BitVec.getMsbD_or, fieldWord_getMsbD _ _ _ _ (h f i (by simp)),
      areaWord_getMsbD place width n rest (i + 1) (fun g j hg => h g j (by simp [hg]))]
    simp [bitOf]

/-- The bytes of the area, bit by bit in the order of sending. -/
theorem areaOfWord_getMsbD (w : BitVec Config.areaBits) (k : Nat) (hk : k < 11) (b : Nat) (hb : b < 8) :
    ((areaOfWord w)[k]'hk).getMsbD b = w.getMsbD (8 * k + b) := by
  have h1 : 8 * (10 - k) + (8 - 1 - b) = 88 - 1 - (8 * k + b) := by omega
  simp only [areaOfWord, Vector.getElem_ofFn, BitVec.getMsbD, BitVec.getLsbD_extractLsb', Config.areaBits, h1]
  simp [hb, show 7 - b < 8 by omega, show 8 * k + b < 88 by omega]

theorem wellFrom_le (s w : Nat) : s ≤ wellFrom s w := by
  unfold wellFrom; split <;> omega

theorem wellFrom_wellFrom (s w : Nat) : startsWell (wellFrom s w) w = true := by
  unfold wellFrom; split
  · assumption
  · simp [startsWell]

/-- What a packed layout is: each field starts well, at or behind the end of every earlier one. -/
theorem packedPlaces_spec (ws : List Nat) (start : Nat) :
    start ≤ (packedPlaces start ws).getD 0 0
    ∧ (∀ i, i < ws.length →
        startsWell ((packedPlaces start ws).getD i 0) (ws.getD i 0) = true
        ∧ (packedPlaces start ws).getD i 0 + ws.getD i 0 ≤ (packedPlaces start ws).getD (i + 1) 0) := by
  induction ws generalizing start with
  | nil => simp [packedPlaces]
  | cons w rest ih =>
    obtain ⟨h0, hs⟩ := ih (wellFrom start w + w)
    refine ⟨by simpa [packedPlaces] using wellFrom_le start w, fun i hi => ?_⟩
    cases i with
    | zero => exact ⟨by simpa [packedPlaces] using wellFrom_wellFrom start w, by simpa [packedPlaces] using h0⟩
    | succ i => simpa [packedPlaces] using hs i (by simpa using hi)

/-- In a packed layout a later field starts behind the end of an earlier one. -/
theorem packedPlace_mono (ws : List Nat) (j : Nat) :
    ∀ i, j < i → i ≤ ws.length → packedPlace ws j + ws.getD j 0 ≤ packedPlace ws i := by
  intro i hji hi
  induction i, hji using Nat.le_induction with
  | base => exact ((packedPlaces_spec ws 0).2 j (by omega)).2
  | succ i hji ih =>
    have h1 := ih (by omega)
    have h2 := ((packedPlaces_spec ws 0).2 i (by omega)).2
    have h3 : packedPlace ws i ≤ packedPlace ws (i + 1) := by unfold packedPlace; omega
    omega

/-- A packed layout whose end stands in the area is a layout. -/
theorem packed_placesFitArea {ws : List Nat} (h : widthsFit ws = true) :
    placesFitArea (packedPlace ws) ws = true := by
  simp only [widthsFit, decide_eq_true_eq] at h
  simp only [placesFitArea, List.all_eq_true, List.mem_range, Bool.and_eq_true, decide_eq_true_eq, Bool.or_eq_true]
  intro i hi
  refine ⟨⟨((packedPlaces_spec ws 0).2 i hi).1, ?_⟩, fun j hj => .inl (packedPlace_mono ws j i hj (by omega))⟩
  have h1 := packedPlace_mono ws i ws.length hi (le_refl _)
  omega

/-- Whatever the free places are, the fields of a response that have room stand in the area, each well, and apart. -/
theorem fieldStart_fits (kind status : Nat) {ws : List Nat} (h : widthsFit ws = true) :
    placesFitArea (fieldStart kind status ws) ws = true := by
  by_cases hf : placesFitArea (Config.fieldPlace kind status ws) ws = true
  · have : fieldStart kind status ws = Config.fieldPlace kind status ws := by funext i; simp [fieldStart, hf]
    rwa [this]
  · have : fieldStart kind status ws = packedPlace ws := by funext i; simp [fieldStart, hf]
    rw [this]; exact packed_placesFitArea h

end Sys2Proof.Machine
end

