-- ==== Sys2Proof/WellFormed.lean ====
section
/-! DEFINITION. When a command is well formed: its list of failing slots is a set of slots in its one written form. -/

namespace Sys2Proof

/-- The list is strictly rising: each failing slot is named once, in slot order. -/
def risingSlots : List Nat → Bool
  | [] => true
  | [_] => true
  | i :: j :: rest => i < j && risingSlots (j :: rest)

/-- Every failing slot is a slot of the directory (R1). -/
def slotsInRange (l : List Nat) : Bool := l.all (· < Config.slots)

/-- A well-formed command. A command that is not well formed names the same event as a well-formed one, since the
meanings ask of `failing` only whether a slot is in it (log 5). -/
def Instr.wellFormed (i : Instr) : Bool := risingSlots i.failing && slotsInRange i.failing

end Sys2Proof
end

