-- ==== Sys2Proof/Tests/Slice0.lean ====
section
/-! SUPPORT. Tests: the checks of WellFormed, frames and identifiers written out from the spec, steps of the spec's worked
examples, and for each obligation with hypotheses a concrete state that meets them. -/

namespace Sys2Proof.Tests

open Sys2Proof Sys2Proof.Machine

/-! ### Small states -/

/-- A port that is attached, its link UP. -/
def onlinePort : PortController :=
  { PortController.atReset with link := .up, session := .online, claimCredit := 64, refillTimer := some 1 }

/-- A running part after its start-up clear: four ONLINE ports, domains 0 and 3 enabled, no binding, no job. -/
def base : State :=
  ((((((State.reset.withResetHeld false).withReady true).withDirectory
    { Directory.atReset with cleared := 2048 }).withPorts (PerPort.all onlinePort)).withQueue []).modifyDomain 0
      (fun d => { d with policy := { d.policy with enabled := true } })).modifyDomain 3
      (fun d => { d with policy := { d.policy with enabled := true } })

/-- A request as its port has taken it, with sequence tag 5. -/
def asked (r : Request) : RequestFrame := ⟨9, 5, r⟩

/-- A state in which a port has taken a request. -/
def asking (s : State) (p : Port) (r : Request) : State :=
  s.modifyPort p (fun c => { c with executor := .busy (asked r), responseQueue := [.reserved] })

/-- A state in which a port's request is in its grant. -/
def granted (s : State) (p : Port) (r : Request) : State :=
  (asking s p r).withGrant (some (.fresh (.executor p) (asking s p r).view))

theorem granted_inGrant {s : State} {p : Port} {r : Request} (h : commonCheck (asking s p r).view p r = none) :
    (granted s p r).InGrant p (asking s p r).view (asked r) :=
  ⟨rfl, by cases p <;> rfl, h⟩

theorem asking_atOnce {s : State} {p : Port} {r : Request} (h : commonCheck (asking s p r).view p r = none) :
    (asking s p r).AtOnce p (asked r) :=
  ⟨by cases p <;> rfl, h⟩

/-- A binding of identifier (0, 0). -/
def binding (t : Tenure) (cls : BindingClass) : Binding := ⟨0, 0, t, 7, cls, false, 3⟩

/-- `base` with one binding of identifier (0, 0), in way 2 of bucket 0, and its counts. -/
def holding (b : Binding) : State :=
  (base.withDirectory
    { cells := [(2, .occupied b)], cleared := 2048
      ownedCount := match b.tenure.owner with | some p => (PerPort.all 0).set p 1 | none => PerPort.all 0
      orphanTotal := if b.tenure.owner = none then 1 else 0, defectiveCount := 0 }).modifyDomain 0
    (fun d => { d with count := 1, orphans := if b.tenure.owner = none then 1 else 0 })

/-- `holding` a binding in TRANSFER from `g` to `t` under entry 3. -/
def transferring (g t : Port) (phase : TransferPhase) : State :=
  let s := (holding (binding (.transfer g 3) .leased)).setEntry 3 (some ⟨phase, 2, g, t, 0, 5, 8⟩)
  s.withTransfers { s.transfers with expiryList := if phase = .expired then [3] else [] }

/-- A port's session state, changed. -/
def session (s : State) (p : Port) (x : Session) : State := s.modifyPort p (fun c => { c with session := x })

/-- The lease, held by a port. -/
def leased (s : State) (p : Port) : State := s.withLease ⟨some p, 100⟩

/-- The outcome of a step has a property. -/
def after (o : StepOutcome) (f : State → Bool) : Bool :=
  match o with
  | .next t => f t
  | .fault _ => false
  | .refused _ => false

theorem finds_of {s : State} {b : Binding} (hc : s.directory.cells = [(2, .occupied b)])
    (hs : s.settings.hashSeed = 0) (hb : b.Holds 0 0) : s.Finds [] (asDomain 0) 0 2 b := by
  refine ⟨?_, ?_, hb, by simp, fun j _ hj2 c hj => ?_⟩
  · simp only [State.slotsOf, hs]; decide
  · simp [State.slot, Directory.read, hc, readCells]
  · have := State.occupied_mem hj
    rw [hc] at this
    simp at this
    omega

theorem misses_of {s : State} (hc : s.directory.cells = []) : s.Misses [] (asDomain 0) 0 := by
  refine ⟨by simp, fun j _ c hj => ?_⟩
  have := State.occupied_mem hj
  rw [hc] at this
  simp at this

theorem lowestFree_of {s : State} (hc : s.directory.cells = []) (hd : s.directory.cleared = 2048)
    (hs : s.settings.hashSeed = 0) : s.LowestFree (asDomain 0) 0 0 := by
  refine ⟨?_, ?_, fun j _ hj => absurd hj (by omega)⟩
  · simp only [State.slotsOf, hs]; decide
  · simp [State.slot, Directory.read, hc, readCells, Directory.unlisted, hd, Config.ways]

/-! ### WellFormed (one ill-formed term for each check) -/

theorem test_wellFormed_refuses_unordered : (Instr.resolve .p0 ⟨[5, 4], none⟩).wellFormed = false := by decide

theorem test_wellFormed_refuses_repeated : (Instr.sweepBucket ⟨[4, 4], none⟩).wellFormed = false := by decide

theorem test_wellFormed_refuses_no_slot : (Instr.readSlot .p1 ⟨[16384], none⟩).wellFormed = false := by decide

theorem test_wellFormed_accepts_last_slot : (Instr.readSlot .p1 ⟨[0, 16383], none⟩).wellFormed = true := by decide

/-! ### Identifiers and frames -/

/-- The seven rows of R2's table. -/
theorem test_buckets :
    [bucketIndex 3 100000 0, bucketIndex 3 2128 0, bucketIndex 3 89 0, bucketIndex 0 98 0, bucketIndex 5 83 0,
      bucketIndex 3 100000 1, bucketIndex 63 2038 255] = [98, 98, 98, 98, 98, 355, 178] := by decide

/-- R205: the code of one byte 0 after the initial ones, by hand (0xFF through eight shifts with 0x07). -/
theorem test_crc_of_one_zero_byte : crc8 [0#8] = 0xF3#8 := by decide

/-- 11.1, 11.2: a HANDOVER_REPLY GRANT of index 31 and a frame whose kind byte is 0. -/
theorem test_decode_bodies :
    decodeBody #v[12, 1, 31, 1, 9, 9, 9, 9, 9, 9, 9, 9, 9, 9, 9, 0] = .handoverReply 31 1
      ∧ decodeBody (Vector.replicate 16 0#8) = .unknown
      ∧ decodeBody #v[6, 1, 3, 0xFE, 0, 0, 0, 0, 0, 1, 0, 0, 0, 2, 9, 0] = .claim 3 1 2 true true
      ∧ decodeBody #v[1, 1, 0xEA, 0x60, 63, 31, 9, 9, 9, 9, 9, 9, 9, 9, 9, 0] = .attach 60000 63 31 := by decide

/-- R203: the OWNED response to a CLAIM with tag 9, owner P2, 1 credit and the overrun flag. -/
theorem test_owned_response_bytes :
    (responseFrame ⟨6, 9, .owned, .ownedBy .p2⟩ 1 true).toList.take 15
      = [6, 9, 32, 0x81, 0, 0, 0, 2, 0, 0, 0, 0, 0, 0, 0] := by decide

/-- R158, R204: BINDING_GONE RELEASED of (3, 89) by P2, handle 4242, slot 788, with 2 credits. -/
theorem test_notice_bytes :
    (noticeFrame (.bindingGone .released 3 89 (some .p2) 4242 788) 2).toList.take 15
      = [0xC9, 0x42, 3, 0, 0, 0, 0, 0, 89, 0, 0, 0x10, 0x92, 3, 0x14] := by decide

/-! ### The arbiter: "grant order" of 1.7 -/

theorem test_grant_order :
    (clientsAfter (.executor .p1)).find? (fun c => [.executor .p3, .maintenance].contains c) = some (.executor .p3)
      ∧ (clientsAfter (.executor .p3)).find? (fun c => [.executor .p0, .maintenance].contains c) = some .maintenance
      ∧ (clientsAfter .maintenance).find? (fun c => [.executor .p0, .maintenance].contains c) = some (.executor .p0)
      ∧ (clientsAfter (.executor .p0)).find? (fun c => [Client.maintenance].contains c) = some .maintenance := by
  decide

/-! ### Steps of the worked examples -/

/-- Bucket 98 of 1.11 before event 1. -/
def bucket98 : State :=
  base.withDirectory
    { cells := [(784, .occupied ⟨0, 98, .bound .p0, 1, .leased, true, 0⟩),
        (785, .occupied ⟨3, 2128, .bound .p2, 2, .leased, true, 0⟩)]
      cleared := 2048, ownedCount := ⟨1, 0, 1, 0⟩, orphanTotal := 0, defectiveCount := 0 }

/-- 1.11 event 1: the lowest FREE way is 2, slot 786. -/
theorem test_claim_takes_lowest_free_way :
    after (exec (.claim .p1 ⟨[], none⟩) (granted bucket98 .p1 (.claim 3 100000 44 false false)))
      (fun t => decide (t.slot 786 = .occupied ⟨3, 100000, .bound .p1, 44, .leased, true, 0⟩) && t.owned .p1 == 1
        && (t.domain 3).count == 1) = true := by decide

/-- 1.11 event 5: READ_SLOT (787) fails its check. -/
theorem test_read_slot_failure :
    after (exec (.readSlot .p3 ⟨[787], none⟩) (granted bucket98 .p3 (.readSlot 787)))
      (fun t => decide (t.slot 787 = .defective) && t.faultPin
        && decide ((t.port .p3).responseQueue = [.written ⟨9, 5, .ok, .slotRecord 787 .defective⟩])
        && t.counter (.device .slotFaults) == 1) = true := by decide

/-- 2: "RELEASE of a binding in TRANSFER", its first row: granted to the ONLINE taker. -/
theorem test_release_hands_over :
    after (exec (.release .p2 ⟨[], none⟩) (granted (transferring .p2 .p3 .pending) .p2 (.release 0 0)))
      (fun t => decide (t.slot 2 = .occupied ⟨0, 0, .bound .p3, 8, .leased, true, 0⟩) && t.owned .p2 == 0
        && t.owned .p3 == 1 && decide (t.entry 3 = none)
        && decide ((t.port .p2).responseQueue = [.written ⟨9, 5, .handed, .handed 2 .p3⟩])) = true := by decide

/-- The same example's second row: the taker is DRAINING, so the binding is removed with outcome TAKER_GONE. -/
theorem test_release_removes :
    after (exec (.release .p2 ⟨[], none⟩) (granted (session (transferring .p2 .p3 .pending) .p3 .draining) .p2 (.release 0 0)))
      (fun t => decide (t.slot 2 = .free) && (t.domain 0).count == 0
        && decide ((t.noticePort .p2).queue = [.transferDone .takerGone 0 0 .p3 8 3 5])
        && decide ((t.noticePort .p3).queue = [])) = true := by decide

/-- 8: "overflow under pacing", event 4: L(2) takes the place that N1 frees, behind G1. -/
theorem test_notices_lost_takes_the_freed_place :
    after (exec (.noticeTransmit .p1)
        (base.modifyNotices .p1 (fun _ => ⟨List.replicate 32 (.slotFault 1), 2, 0, 2, false⟩)))
      (fun t => decide ((t.noticePort .p1).queue = List.replicate 31 (.slotFault 1) ++ [.noticesLost .p1 2])
        && (t.noticePort .p1).lostCount == 0 && (t.noticePort .p1).windowCount == 1) = true := by decide

/-- 5: "the job queue under load", event 3: a second SWEEP request is merged. -/
theorem test_sweep_merges :
    after (exec (.sweep .p1)
        (asking (base.withQueue [⟨40, .sweep, none, 0, JobCounts.zero⟩, ⟨41, .sweep, some .p0, 0, JobCounts.zero⟩]) .p1
          .sweep))
      (fun t => decide ((t.port .p1).responseQueue = [.written ⟨9, 5, .merged, .job 41⟩])
        && t.maintenance.queue.length == 2) = true := by decide

/-- 10: "what one master's requests count", event 8: STAT_TAKE of another port's counter without the lease. -/
theorem test_stat_take_needs_lease :
    after (exec (.statTake .p1) (asking base .p1 (.statTake 2 5)))
      (fun t => decide ((t.port .p1).responseQueue = [.written ⟨9, 5, .noLease, .none⟩])
        && t.counter (.port .p1 .refusals) == 1) = true := by decide

/-- 10: "a take against a crossing": a count that reaches 2^31 sends COUNTER_HALF to a subscriber. -/
theorem test_counter_half :
    ((((base.setCounter (.device .expiries) 0x7FFFFFFF#32).modifyPort .p0
      (fun c => { c with subscriptions := ⟨false, false, false, true, false⟩ })).count (.device .expiries)).noticePort
        .p0).queue = [.counterHalf (.device .expiries)] := by decide

/-- What a list of commands leaves, one step each. -/
def runs : List Instr → State → StepOutcome
  | [], s => .next s
  | c :: rest, s =>
    match exec c s with
    | .next t => runs rest t
    | o => o

/-- 10, "a take against a crossing": EXPIRIES stands at 2^31 − 2, and a SWEEP bucket of way 2 and way 5 is in its grant. -/
def crossing : State :=
  let s := (((base.withDirectory
    { cells := [(2, .occupied ⟨0, 0, .bound .p1, 7, .leased, false, 15⟩),
        (5, .occupied ⟨0, 2039, .bound .p1, 7, .leased, false, 15⟩)]
      cleared := 2048, ownedCount := ⟨0, 2, 0, 0⟩, orphanTotal := 0, defectiveCount := 0 }).modifyDomain 0
    (fun d => { d with count := 2 })).setCounter (.device .expiries) 0x7FFFFFFE#32).modifyPort .p0
      (fun c => { c with subscriptions := ⟨false, false, false, true, false⟩ })
  let u := asking (s.withQueue [⟨1, .sweep, none, 0, JobCounts.zero⟩]) .p2 (.statTake 4 1)
  u.withGrant (some (.fresh .maintenance u.view))

/-- The example's second order: the take between the two counts finds 2^31 − 1, leaves 1, and no COUNTER_HALF is sent. -/
theorem test_take_between_the_counts :
    after (runs [.sweepBucket ⟨[], some 1⟩, .statTake .p2, .sweepBucket ⟨[], none⟩] crossing)
      (fun t => t.counter (.device .expiries) == 1#32 && decide ((t.noticePort .p0).queue = [])
        && decide ((t.port .p2).responseQueue
            = [.written ⟨9, 5, .ok, .counter (.device .expiries) 0x7FFFFFFF#32⟩])) = true := by decide

/-- The example's third order: the take after the grant finds 2^31, and P0 has COUNTER_HALF. -/
theorem test_take_after_the_grant :
    after (runs [.sweepBucket ⟨[], none⟩, .statTake .p2] crossing)
      (fun t => t.counter (.device .expiries) == 0#32
        && decide ((t.noticePort .p0).queue = [.counterHalf (.device .expiries)])
        && decide ((t.port .p2).responseQueue
            = [.written ⟨9, 5, .ok, .counter (.device .expiries) 0x80000000#32⟩])) = true := by decide

/-- R171: a master that subscribes to BINDING_GONE and releases its own binding. -/
def releasing : State :=
  granted ((holding (binding (.bound .p1) .leased)).modifyPort .p1
    (fun c => { c with subscriptions := ⟨true, false, false, false, false⟩ })) .p1 (.release 0 0)

/-- The BINDING_GONE begins before the response is written: its only place is RESERVED. -/
theorem test_notice_leaves_before_own_response :
    after (runs [.release .p1 ⟨[], some 1⟩, .noticeTransmit .p1] releasing)
      (fun t => decide ((t.port .p1).transmitter = some (.notice (.bindingGone .released 0 0 (some .p1) 7 2) 0))
        && decide ((t.port .p1).responseQueue = [.reserved])) = true := by decide

/-- The response leaves first when it is written before the transmitter is idle. -/
theorem test_notice_leaves_after_own_response :
    after (runs [.release .p1 ⟨[], none⟩, .noticeTransmit .p1, .responseTransmit .p1] releasing)
      (fun t => decide ((t.port .p1).transmitter = some (.response ⟨9, 5, .ok, .slot 2⟩ 0 false))
        && decide ((t.noticePort .p1).queue = [.bindingGone .released 0 0 (some .p1) 7 2])) = true := by decide

/-! ### Witnesses: what the statements assume can hold -/

theorem witness_StepRunsFrontCommand :
    after (step (base.withPending [.leaseTimerExpiry])) (fun t => decide (t.pending = [])) = true := by decide

theorem witness_MillitickCountsEveryTimer :
    (State.reset.pending = [] ∧ State.reset.resetHeld = true)
      ∧ (base.pending = [] ∧ base.resetHeld = false ∧ base.midGrant = false ∧ base.anyDue = false
          ∧ base.timebase.periodCount + 1 < base.timebase.dividerInForce)
      ∧ (let s := (leased base .p1).withTimebase ⟨24999, 25000⟩;
         s.pending = [] ∧ s.resetHeld = false ∧ s.midGrant = false ∧ s.anyDue = false
           ∧ s.timebase.dividerInForce ≤ s.timebase.periodCount + 1 ∧ s.lease.holder ≠ none)
      ∧ (base.lease.holder = none ∧ (granted base .p0 .keepalive).grant ≠ none) := by decide

theorem witness_ResetTakesEffect : State.reset.resetHeld = true ∧ State.reset.grant = none := by decide

/-- Two clients wait. -/
theorem witness_ArbiterGrantsInCircularOrder :
    (let s := (asking (asking base .p1 (.readSlot 0)) .p3 (.readSlot 0));
      s.resetHeld = false ∧ s.grant = none ∧ s.waiting (.executor .p1) = true ∧ s.waiting (.executor .p3) = true
        ∧ s.waiting .maintenance = false)
      ∧ (∀ c, base.waiting c = false) ∧ (granted base .p0 (.readSlot 0)).grant ≠ none := by
  refine ⟨by decide, fun c => ?_, by decide⟩
  rcases c with p | _ | _
  · cases p <;> decide
  · decide
  · decide

/-- A state with a BOUND binding in bucket 0 and one in TRANSFER in bucket 1, for the laws. -/
def lawful : State :=
  let s := ((base.withDirectory
    { cells := [(2, .occupied (binding (.bound .p0) .leased)),
        (9, .occupied ⟨0, 1, .transfer .p1 3, 7, .pinned, true, 0⟩), (16383, .defective)]
      cleared := 2048, ownedCount := ⟨1, 1, 0, 0⟩, orphanTotal := 0, defectiveCount := 1 }).modifyDomain 0
    (fun d => { d with count := 2 })).setEntry 3 (some ⟨.pending, 9, .p1, .p2, 50, 5, 8⟩)
  (s.withQueue [⟨1, .sweep, none, 2047, JobCounts.zero⟩]).arbitrate

theorem lawful_slot {i : Nat} {b : Binding} (h : lawful.slot i = .occupied b) :
    (i = 2 ∧ b = binding (.bound .p0) .leased) ∨ (i = 9 ∧ b = ⟨0, 1, .transfer .p1 3, 7, .pinned, true, 0⟩) := by
  have hm := State.occupied_mem h
  have hc : lawful.directory.cells = [(2, .occupied (binding (.bound .p0) .leased)),
      (9, .occupied ⟨0, 1, .transfer .p1 3, 7, .pinned, true, 0⟩), (16383, .defective)] := rfl
  rw [hc] at hm
  simpa using hm

theorem lawful_store : lawful.StoreLaw := ⟨by decide, by decide⟩

theorem lawful_steps : ∃ t, step lawful = .next t := ⟨_, rfl⟩

theorem witness_StepKeepsStoreLaw : lawful.StoreLaw ∧ ∃ t, step lawful = .next t := ⟨lawful_store, lawful_steps⟩

theorem witness_StepKeepsDirectoryLaw : lawful.DirectoryLaw ∧ ∃ t, step lawful = .next t := by
  refine ⟨⟨lawful_store, ⟨fun p => by cases p <;> decide, by decide, by decide, by decide, by decide⟩,
    ⟨fun i b g x h ht => ?_, fun x t h => ?_⟩, fun i b h => ?_, fun i j b c hi hj hd hk => ?_⟩, lawful_steps⟩
  · rcases lawful_slot h with ⟨rfl, rfl⟩ | ⟨rfl, rfl⟩
    · cases ht
    · cases ht
      exact ⟨_, rfl, rfl⟩
  · have : ∀ y : TransferIndex, y ≠ 3 → lawful.entry y = none := by decide
    by_cases hx : x = 3
    · subst hx
      have he : lawful.entry 3 = some ⟨.pending, 9, .p1, .p2, 50, 5, 8⟩ := by decide
      rw [he] at h
      cases h
      exact ⟨by decide, ⟨0, 1, .transfer .p1 3, 7, .pinned, true, 0⟩, by decide, rfl⟩
    · rw [this x hx] at h
      cases h
  · rcases lawful_slot h with ⟨rfl, rfl⟩ | ⟨rfl, rfl⟩ <;> decide
  · rcases lawful_slot hi with ⟨rfl, rfl⟩ | ⟨rfl, rfl⟩ <;> rcases lawful_slot hj with ⟨rfl, rfl⟩ | ⟨rfl, rfl⟩ <;>
      first | rfl | exact absurd hk (by decide)

theorem witness_StepKeepsBoundsLaw : lawful.BoundsLaw ∧ ∃ t, step lawful = .next t :=
  ⟨⟨fun p => by cases p <;> decide, by decide⟩, lawful_steps⟩

theorem lawful_idle : lawful.IdleLaw := by
  refine ⟨by decide, fun i b h => ?_⟩
  rcases lawful_slot h with ⟨rfl, rfl⟩ | ⟨rfl, rfl⟩ <;> decide

theorem witness_StepKeepsIdleLaw : lawful.StoreLaw ∧ lawful.IdleLaw ∧ ∃ t, step lawful = .next t :=
  ⟨lawful_store, lawful_idle, lawful_steps⟩

/-- `lawful` with its bucket grant stopped after none of its reports. -/
def midBucket : State :=
  lawful.withGrant (some ⟨.maintenance, lawful.view, [.count (.device .expiries)], some (.bucket JobCounts.zero)⟩)

theorem witness_StepKeepsArbiterLaw :
    ∀ s ∈ [lawful, midBucket], s.ArbiterLaw ∧ s.grant ≠ none ∧ ∃ t, step s = .next t := by
  intro s hs
  simp only [List.mem_cons, List.not_mem_nil, or_false] at hs
  rcases hs with rfl | rfl
  · refine ⟨⟨by decide, fun _ h => absurd h (by decide), fun g h => ?_⟩, by decide, lawful_steps⟩
    have : lawful.grant = some (.fresh .maintenance lawful.view) := by decide
    rw [this] at h
    cases h
    decide
  · refine ⟨⟨by decide, fun _ h => absurd h (by decide), fun g h => ?_⟩, by decide, _, rfl⟩
    cases h
    decide

/-- `lawful` with one port DRAINING, its ORPHAN job at the tail, and the lease held. -/
def busyPart : State :=
  (leased (lawful.modifyPort .p2 (fun _ => { PortController.atReset with session := .draining })) .p1).withQueue
    [⟨1, .sweep, none, 2047, JobCounts.zero⟩, ⟨2, .orphan .p2 .link, none, 0, JobCounts.zero⟩]

theorem busyPart_session : busyPart.SessionLaw :=
  ⟨fun p => ⟨by cases p <;> decide, by cases p <;> decide, by cases p <;> decide⟩, fun p => by cases p <;> decide,
    by decide⟩

theorem busyPart_jobs : busyPart.JobsLaw := ⟨by decide, by decide, by decide, by decide, by decide, by decide⟩

theorem witness_StepKeepsSessionLaw : busyPart.SessionLaw ∧ ∃ t, step busyPart = .next t := ⟨busyPart_session, _, rfl⟩

theorem witness_StepKeepsJobsLaw : busyPart.SessionLaw ∧ busyPart.JobsLaw ∧ ∃ t, step busyPart = .next t :=
  ⟨busyPart_session, busyPart_jobs, _, rfl⟩

/-- A port with a full request queue, a WRITTEN and a RESERVED place, its transmitter sending. -/
def fullPort : PortController :=
  { onlinePort with
    requestQueue := List.replicate 16 (asked .keepalive), executor := .busy (asked .keepalive)
    responseQueue := [.written ⟨9, 5, .ok, .none⟩, .reserved], creditReturn := 1
    transmitter := some (.response ⟨9, 5, .ok, .none⟩ 1 false) }

theorem witness_StepKeepsQueuesLaw :
    (base.withPorts (PerPort.all fullPort)).QueuesLaw ∧ ∃ t, step (base.withPorts (PerPort.all fullPort)) = .next t := by
  refine ⟨⟨fun p => ?_, fun p => ⟨by cases p <;> decide, by cases p <;> decide, by cases p <;> decide⟩⟩, _, rfl⟩
  have : (base.withPorts (PerPort.all fullPort)).port p = fullPort := by cases p <;> rfl
  rw [this]
  exact ⟨by decide, by decide, by decide, by decide, by decide, fun _ _ _ _ => by decide, by decide⟩

theorem witness_StepKeepsSettingsLaw : base.SettingsLaw ∧ ∃ t, step base = .next t := by
  refine ⟨⟨fun id v h => ?_, fun p => by cases p <;> decide⟩, _, rfl⟩
  have hv : base.settings = Settings.default := rfl
  rw [hv] at h
  unfold Settings.value at h
  split at h <;> first | (cases h; decide) | cases h

theorem witness_SlotsChangeOnlyByTheTable :
    lawful.StoreLaw ∧ Instr.sweepBucket ⟨[], none⟩ ≠ .resetN ∧ ∃ t, exec (.sweepBucket ⟨[], none⟩) lawful = .next t :=
  ⟨lawful_store, by decide, _, rfl⟩

/-- The start-up clear's last bucket, in its grant. -/
def lastBucket : State :=
  let s := ((State.reset.withResetHeld false).withDirectory { Directory.atReset with cleared := 2047 }).withQueue
    [{ startupClear with cursor := 2047 }]
  s.withGrant (some (.fresh .maintenance s.view))

theorem witness_ReadyChangesOnlyByClearAndReset :
    (base.ready = true ∧ after (exec .resetN base) (fun t => !t.ready) = true)
      ∧ (lastBucket.ready = false ∧ after (exec (.startupClearBucket ⟨[], none⟩) lastBucket) (fun t => t.ready) = true) := by
  decide

theorem witness_PolicyAndSettingsKeepTheirValues :
    (∃ t, exec .millitick base = .next t) ∧ Instr.millitick ≠ .resetN ∧ (∀ p, Instr.millitick ≠ .domainSet p) :=
  ⟨⟨_, rfl⟩, by decide, fun _ => by simp⟩

theorem witness_LeaseIsTakenOnlyFree :
    after (exec (.leaseTake .p1) (asking base .p1 (.leaseTake 10)))
        (fun t => decide (t.lease.holder = some .p1)) = true
      ∧ (asking base .p1 (.leaseTake 10)).lease.holder ≠ some .p1 := by decide

/-- The widest fields that have room in whole bytes, and the narrowest; a domain record has room where fields share bytes. -/
theorem witness_SentFramesCheck :
    OutFrame.credits (.response ⟨9, 5, .ok, .none⟩ 16 true) ≤ 16
      ∧ (∀ r ∈ [Result.ownSlot 16383 7, .counter (.device .expiries) 0xFFFFFFFF#32, .job 255,
          .leaseReading none 60000], r.fields ≠ [] ∧ (r.fields.map AreaField.bytes).sum ≤ 11)
      ∧ widthsFit ((State.reset.domain 0).fields.map AreaField.wholeWidth) = false
      ∧ widthsFit ((State.reset.domain 0).fields.map AreaField.sharedWidth) = true := by decide

/-- R201, R203: whatever its place, the remaining time of a LEASE_RENEW stands most significant byte first in two bytes
next to each other, and the other nine bytes are 0; 60000 is 0xEA60. -/
theorem test_renew_response_bytes :
    ∃ k : Fin 10, (Response.area ⟨23, 9, .ok, .remaining 60000⟩).toList
      = List.replicate k.val 0 ++ [0xEA, 0x60] ++ List.replicate (9 - k.val) 0 := by
  have key : ∀ k : Fin 10, (areaOfWord (areaWord (fun _ => 8 * k.val) AreaField.wholeWidth [⟨16, 60000⟩] 0)).toList
      = List.replicate k.val 0 ++ [0xEA, 0x60] ++ List.replicate (9 - k.val) 0 := by decide
  have hp : ∃ k : Fin 10, fieldStart 23 0 [16] 0 = 8 * k.val := by
    unfold fieldStart
    split
    · rename_i h
      simp [placesFitArea, startsWell, Config.areaBits] at h
      exact ⟨⟨Config.fieldPlace 23 0 [16] 0 / 8, by omega⟩, by dsimp only; omega⟩
    · exact ⟨0, by decide⟩
  obtain ⟨k, hk⟩ := hp
  have ha : Response.area ⟨23, 9, .ok, .remaining 60000⟩
      = areaOfWord (areaWord (fieldStart 23 0 [16]) AreaField.wholeWidth [⟨16, 60000⟩] 0) := by
    show carriedArea 23 0 [⟨16, 60000⟩] = _
    unfold carriedArea
    rw [if_pos (by decide)]
    rfl
  refine ⟨k, ?_⟩
  rw [ha, ← key k]
  simp only [areaWord, hk]

/-- R53, R55: the record after RESET_N in the packed layout, worked by hand: no, OPEN and four ports share a byte, two empty
sets the next; no and 4; 16384 in two bytes; HOLD and P0; two counts of two bytes. -/
theorem test_domain_record_packed :
    (areaOfWord (areaWord (packedPlace ((State.reset.domain 0).fields.map AreaField.sharedWidth)) AreaField.sharedWidth
        (State.reset.domain 0).fields 0)).toList
      = [0x3E, 0x00, 0x20, 0x40, 0x00, 0x80, 0, 0, 0, 0, 0] := by decide

/-- Each clause of the common check order, at the edges of the ranges. -/
theorem witness_CommonCheckOrder :
    (let v := base.view;
     v.ready = true ∧ v.session.get .p0 = .online ∧ (Request.readSlot 16384).inRange = false
       ∧ (Request.readSlot 16383).inRange = true ∧ (Request.readSlot 0).readOnly = true
       ∧ Request.clear.needsLease .p0 = true ∧ v.leaseHolder ≠ some .p0
       ∧ (Request.claim 64 0 0 false false).inRange = false ∧ (Request.claim 63 0 0 false false).inRange = true
       ∧ (Request.claim 63 0 0 false false).heldByClear = true ∧ Request.sweep.heldByClear = false)
      ∧ (session base .p0 .draining).view.session.get .p0 = .draining
      ∧ (session base .p0 .offline).view.session.get .p0 = .offline
      ∧ (Request.attach 60000 63 31).inRange = true ∧ (Request.attach 60001 63 31).inRange = false
      ∧ State.reset.view.ready = false ∧ State.reset.view.clearRunning = true
      ∧ (base.withQueue [⟨1, .clear, none, 0, JobCounts.zero⟩]).view.clearRunning = true := by decide

/-- A request of each row, out of its range or without its lease, in its grant or at once. -/
theorem witness_CommonCheckRefusalChangesNothing :
    (∀ r ∈ [Request.resolve 64 0 false 0, .claim 64 0 0 false false, .release 64 0, .touch 64 0, .readSlot 16384,
        .scanNext 16384 0 0 1, .handoverAsk 64 0 0, .handoverReply 32 1, .handoverReply 0 3, .handoverReply 0 0,
        .domainGet 64, .domainSet 64 0 1 (PerPort.all true) (PerPort.all true) (PerPort.all true) 0 1 0 1 0,
        .settingSet 1 256, .settingSet 11 16385],
      let s := granted base .p0 r
      r.granted = true ∧ s.grant = some (.fresh (.executor .p0) (asking base .p0 r).view)
        ∧ (s.port .p0).executor = .busy (asked r) ∧ (commonCheck (asking base .p0 r).view .p0 r).isSome)
      ∧ (∀ r ∈ [Request.evict 4, .purge 64 0 0, .clear, .abortJob 256, .jobStatus 256, .settingGet 13, .settingSet 2 0,
          .settingSet 3 65536, .settingSet 4 0, .settingSet 5 0, .settingSet 6 0, .settingSet 7 256, .settingSet 12 0,
          .leaseTake 9, .leaseRenew 60001, .statRead 4 15, .statRead 0 16, .statTake 5 1, .unknown],
        let s := asking base .p0 r
        r.granted = false ∧ .p0 ∉ s.maintenance.abortWaiting ∧ (s.port .p0).executor = .busy (asked r)
          ∧ (commonCheck s.view .p0 r).isSome)
      ∧ (∀ r ∈ [Request.detach, .keepalive, .sweep, .leaseDrop, .statRead 0 15, .attach 60001 0 0],
          (commonCheck (asking (base.withReady false) .p0 r).view .p0 r).isSome ∨ r = .statRead 0 15) := by
  decide

theorem witness_LinkComesUpAndIsLost :
    ((State.reset.withResetHeld false).port .p0).link = .down ∧ (State.reset.withResetHeld false).resetHeld = false
      ∧ (busyPart.port .p0).link = .up ∧ (busyPart.port .p0).session = .online
      ∧ busyPart.maintenance.queue.length ≤ 8
      ∧ ((session busyPart .p0 .offline).port .p0).link = .up ∧ ((session busyPart .p0 .offline).port .p0).session ≠ .online
      ∧ busyPart.JobsLaw :=
  ⟨by decide, by decide, by decide, by decide, by decide, by decide, by decide, busyPart_jobs⟩

/-- A keepalive frame, written out with its check sequence. -/
def keepaliveFrame : Frame := #v[3, 5, 0, 0, 0, 0, 0, 0, 0, 0, 0, 0, 0, 0, 0, 0x30]

theorem witness_FrameArrivalJoinsOrIsDiscarded :
    frameChecks keepaliveFrame = true ∧ frameChecks (Vector.replicate 16 0#8) = false
      ∧ (let s := base.modifyPort .p0 (fun c => { c with keepaliveTimer := some 3 });
          (s.port .p0).link = .up ∧ (s.port .p0).session = .online ∧ (s.port .p0).keepaliveTimer ≠ none
            ∧ (s.port .p0).requestQueue.length < 16)
      ∧ (let s := base.withPorts (PerPort.all fullPort);
          (s.port .p0).link = .up ∧ (s.port .p0).keepaliveTimer = none ∧ 16 ≤ (s.port .p0).requestQueue.length) :=
  ⟨by decide +kernel, by decide +kernel, by decide, by decide⟩

theorem witness_RequestTakeReservesAPlace :
    let s := base.modifyPort .p0 (fun c =>
      { c with requestQueue := [asked .keepalive], responseQueue := List.replicate 15 (.written ⟨9, 5, .ok, .none⟩) })
    (s.port .p0).executor = .idle ∧ (s.port .p0).requestQueue = [asked .keepalive]
      ∧ (s.port .p0).responseQueue.length < 16 := by decide

theorem witness_ResponsePlaceIsWrittenSentAndFreed :
    (asking base .p0 .keepalive).port .p0 = { onlinePort with
          executor := .busy (asked .keepalive), responseQueue := ([] : List Response).map .written ++ [.reserved] }
      ∧ ({ onlinePort with responseQueue := [.discard] } : PortController).responseQueue = [.discard]
      ∧ (let s := base.modifyPort .p0 (fun c => { c with responseQueue := [.written ⟨9, 5, .ok, .none⟩] });
          (s.port .p0).link = .up ∧ (s.port .p0).transmitter = none
            ∧ (s.port .p0).responseQueue = .written ⟨9, 5, .ok, .none⟩ :: [])
      ∧ (base.modifyPort .p0 (fun c => { c with transmitter := some (.notice (.slotFault 1) 16) })).port .p0
          = { onlinePort with transmitter := some (.notice (.slotFault 1) 16) } := by decide

theorem witness_NoticeTransmissionBegins :
    (let s := base.modifyNotices .p1 (fun _ => ⟨[.slotFault 1], 1, 1, 2, false⟩);
      (s.port .p1).link = .up ∧ (s.port .p1).transmitter = none ∧ (s.port .p1).responseQueue = []
        ∧ (s.noticePort .p1).queue = [.slotFault 1] ∧ (s.noticePort .p1).windowCount < (s.noticePort .p1).windowLimit
        ∧ s.counter (.port .p1 .noticesSent) + 1 ≠ halfRange)
      ∧ (base.noticePort .p1).windowLimit = 0 := by decide

theorem witness_AttachOpensOrRenewsTheSession :
    (asking (session base .p0 .offline) .p0 (.attach 60000 63 31)).AtOnce .p0 (asked (.attach 60000 63 31))
      ∧ ((asking (session base .p0 .offline) .p0 (.attach 60000 63 31)).port .p0).session = .offline
      ∧ ((asking (session base .p0 .offline) .p0 (.attach 60000 63 31)).port .p0).link = .up
      ∧ (asking base .p0 (.attach 0 0 0)).AtOnce .p0 (asked (.attach 0 0 0))
      ∧ ((asking base .p0 (.attach 0 0 0)).port .p0).session = .online :=
  ⟨asking_atOnce (by decide), by decide, by decide, asking_atOnce (by decide), by decide⟩

theorem witness_PortLeavesOnline :
    (asking busyPart .p0 .detach).AtOnce .p0 (asked .detach) ∧ (asking busyPart .p0 .detach).JobsLaw
      ∧ (asking busyPart .p1 (.evict (portCode .p3))).AtOnce .p1 (asked (.evict (portCode .p3)))
      ∧ ((asking busyPart .p1 (.evict (portCode .p3))).port .p3).session = .online
      ∧ ((busyPart.modifyPort .p0 (fun c => { c with keepaliveTimer := some 0 })).port .p0).keepaliveTimer = some 0
      ∧ busyPart.maintenance.queue.length ≤ 8 :=
  ⟨asking_atOnce (by decide), ⟨busyPart_jobs.ids, busyPart_jobs.idRange, busyPart_jobs.nextId, busyPart_jobs.others,
    busyPart_jobs.sweeps, busyPart_jobs.history⟩, asking_atOnce (by decide), by decide, by decide, by decide⟩

theorem witness_KeepaliveAndUnknownKindChangeNothing :
    (let s := asking base .p0 .keepalive;
     (s.port .p0).executor = .busy (asked .keepalive) ∧ s.ready = true ∧ (s.port .p0).session = .online)
      ∧ ((asking (session base .p0 .offline) .p0 .keepalive).port .p0).session = .offline
      ∧ ((asking (session base .p0 .draining) .p0 .keepalive).port .p0).session = .draining
      ∧ (let s := asking base .p0 .unknown;
         (s.port .p0).executor = .busy (asked .unknown) ∧ s.ready = true ∧ (s.port .p0).session = .online) := by decide

theorem witness_ResolveAnswersHitOrMiss :
    (let s := granted (holding (binding (.bound .p1) .leased)) .p1 (.resolve 0 0 false 0);
      (∃ v, s.InGrant .p1 v (asked (.resolve 0 0 false 0))) ∧ (s.domain (asDomain 0)).policy.enabled = true
        ∧ s.directory.wf = true ∧ s.Finds [] (asDomain 0) 0 2 (binding (.bound .p1) .leased))
      ∧ (let s := granted base .p1 (.resolve 0 0 true 0);
          (∃ v, s.InGrant .p1 v (asked (.resolve 0 0 true 0))) ∧ s.Misses [] (asDomain 0) 0
            ∧ (s.domain (asDomain 0)).policy.autoClaim = false) :=
  ⟨⟨⟨_, granted_inGrant (by decide)⟩, by decide, by decide, finds_of rfl rfl ⟨rfl, rfl⟩⟩,
    ⟨_, granted_inGrant (by decide)⟩, misses_of rfl, by decide⟩

/-- What a claim of identifier (0, 0) by P1 with PIN and FORCE needs of its domain. -/
def pinning (s : State) : State :=
  s.modifyDomain 0 (fun d =>
    { d with policy := { d.policy with
        claimPolicy := .members, memberSet := ⟨false, true, false, false⟩, pinSet := ⟨false, true, false, false⟩
        preemptSet := ⟨false, true, false, false⟩, autoClaim := true } })

theorem pinning_allows {s : State} (h : (s.domain (asDomain 0)).policy = ((pinning base).domain (asDomain 0)).policy) :
    s.ClaimAllowed .p1 (asDomain 0) true := by
  refine ⟨?_, .inr ⟨?_, ?_⟩, fun _ => ?_⟩ <;> rw [h] <;> decide

theorem witness_ClaimCreates :
    let r := Request.claim 0 0 7 true false
    let s := granted (pinning base) .p1 r
    (∃ v, s.InGrant .p1 v (asked r) ∧ s.MayOwn v .p1) ∧ s.ClaimAllowed .p1 (asDomain 0) true
      ∧ s.directory.wf = true ∧ s.Misses [] (asDomain 0) 0 ∧ s.LowestFree (asDomain 0) 0 0
      ∧ (s.domain (asDomain 0)).count < (s.domain (asDomain 0)).policy.cap
      ∧ (s.domain (asDomain 0)).policy.autoClaim = true
      ∧ ∃ v, (granted (pinning base) .p1 (.resolve 0 0 true 7)).InGrant .p1 v (asked (.resolve 0 0 true 7)) :=
  ⟨⟨_, granted_inGrant (by decide), by decide, by decide⟩, pinning_allows rfl, by decide,
    misses_of rfl, lowestFree_of rfl rfl rfl, by decide, by decide, _, granted_inGrant (by decide)⟩

theorem witness_ClaimRefreshes :
    let r := Request.claim 0 0 7 true true
    let s := granted (pinning (holding (binding (.bound .p1) .leased))) .p1 r
    (∃ v, s.InGrant .p1 v (asked r)) ∧ s.ClaimAllowed .p1 (asDomain 0) true ∧ s.directory.wf = true
      ∧ s.Finds [] (asDomain 0) 0 2 (binding (.bound .p1) .leased) :=
  ⟨⟨_, granted_inGrant (by decide)⟩, pinning_allows rfl, by decide, finds_of rfl rfl ⟨rfl, rfl⟩⟩

theorem witness_ClaimPreempts :
    let r := Request.claim 0 0 7 true true
    let s := granted (pinning (holding (binding (.bound .p2) .leased))) .p1 r
    (∃ v, s.InGrant .p1 v (asked r) ∧ v.session.get .p2 = .online ∧ s.MayOwn v .p1)
      ∧ s.ClaimAllowed .p1 (asDomain 0) true ∧ s.directory.wf = true
      ∧ s.Finds [] (asDomain 0) 0 2 (binding (.bound .p2) .leased)
      ∧ (s.domain (asDomain 0)).policy.preemptSet.get .p1 = true :=
  ⟨⟨_, granted_inGrant (by decide), by decide, by decide, by decide⟩, pinning_allows rfl,
    by decide, finds_of rfl rfl ⟨rfl, rfl⟩, by decide⟩

theorem witness_ClaimAdopts :
    let r := Request.claim 0 0 7 true false
    let s := granted (pinning (holding (binding .orphaned .leased))) .p1 r
    let u := granted (session (pinning (holding (binding (.bound .p2) .leased))) .p2 .draining) .p1 r
    ((∃ v, s.InGrant .p1 v (asked r) ∧ s.MayOwn v .p1) ∧ s.ClaimAllowed .p1 (asDomain 0) true
        ∧ s.directory.wf = true ∧ s.Finds [] (asDomain 0) 0 2 (binding .orphaned .leased))
      ∧ (∃ v, u.InGrant .p1 v (asked r) ∧ u.MayOwn v .p1 ∧ v.session.get .p2 ≠ .online)
      ∧ u.Finds [] (asDomain 0) 0 2 (binding (.bound .p2) .leased) :=
  ⟨⟨⟨_, granted_inGrant (by decide), by decide, by decide⟩, pinning_allows rfl, by decide,
    finds_of rfl rfl ⟨rfl, rfl⟩⟩, ⟨_, granted_inGrant (by decide), ⟨by decide, by decide⟩, by decide⟩,
    finds_of rfl rfl ⟨rfl, rfl⟩⟩

/-- A claim of identifier (0, 0) by P1 in its grant, in an enabled domain, that is refused. -/
def Refused (s : State) (pin force : Bool) (st : Status) (res : Result) : Prop :=
  ∃ v, s.InGrant .p1 v (asked (.claim 0 0 7 pin force)) ∧ (s.domain (asDomain 0)).policy.enabled = true
    ∧ s.ClaimRefused .p1 v [] (asDomain 0) 0 pin force st res

/-- `pinning` with some writable fields of its domain changed. -/
def policed (f : Policy → Policy) : State := (pinning base).modifyDomain 0 (fun d => { d with policy := f d.policy })

/-- P1 has no quota. -/
def noQuota (s : State) : State := s.withSettings { s.settings with quota := PerPort.all 0 }

/-- P1 has no claim credit. -/
def noCredit (s : State) : State := s.modifyPort .p1 (fun c => { c with claimCredit := 0 })

theorem witness_ClaimRefusals :
    let r := Request.claim 0 0 7 true true
    Refused (granted (policed (fun q => { q with claimPolicy := .closed })) .p1 r) true true .closed .none
      ∧ Refused (granted (policed (fun q => { q with memberSet := PerPort.all false })) .p1 r) true true .notMember .none
      ∧ Refused (granted (policed (fun q => { q with pinSet := PerPort.all false })) .p1 r) true true .notPermitted .none
      ∧ Refused (granted (pinning (holding (binding (.transfer .p2 3) .leased))) .p1 r) true true .busy .none
      ∧ Refused (granted (pinning (holding (binding (.bound .p2) .leased))) .p1 (.claim 0 0 7 true false)) true false
          .owned (.ownedBy .p2)
      ∧ Refused (granted (policed (fun q => { q with cap := 0 })) .p1 r) true true .cap .none
      ∧ Refused (granted (noQuota (pinning base)) .p1 r) true true .quota .none
      ∧ Refused (granted (noQuota (pinning (holding (binding (.bound .p2) .leased)))) .p1 r) true true .quota .none
      ∧ Refused (granted (noCredit (pinning base)) .p1 r) true true .throttled .none
      ∧ Refused (granted (noCredit (pinning (holding (binding .orphaned .leased)))) .p1 r) true true .throttled .none
      ∧ Refused (granted (noCredit (pinning (holding (binding (.bound .p2) .leased)))) .p1 r) true true .throttled
          .none := by
  refine ⟨⟨_, granted_inGrant (by decide), by decide, .closed (by decide)⟩,
    ⟨_, granted_inGrant (by decide), by decide, .notMember (by decide) (by decide)⟩,
    ⟨_, granted_inGrant (by decide), by decide, .notPermitted (.inr (by decide)) rfl (by decide)⟩,
    ⟨_, granted_inGrant (by decide), by decide, .busy 2 _ .p2 3 (pinning_allows rfl) (finds_of rfl rfl ⟨rfl, rfl⟩) rfl⟩,
    ⟨_, granted_inGrant (by decide), by decide, .owned 2 _ .p2 (pinning_allows rfl) (finds_of rfl rfl ⟨rfl, rfl⟩) rfl
      (by decide) (by decide) (by decide)⟩,
    ⟨_, granted_inGrant (by decide), by decide, .cap ⟨by decide, .inr (by decide), fun _ => by decide⟩ (misses_of rfl)
      (by decide)⟩,
    ⟨_, granted_inGrant (by decide), by decide, .quota (pinning_allows rfl) (.inl ⟨misses_of rfl, by decide⟩)
      (by decide)⟩,
    ⟨_, granted_inGrant (by decide), by decide, .quota (pinning_allows rfl)
      (.inr ⟨2, _, finds_of rfl rfl ⟨rfl, rfl⟩, .inr ⟨.p2, rfl, by decide, .inr (by decide)⟩⟩) (by decide)⟩,
    ⟨_, granted_inGrant (by decide), by decide, .throttled (pinning_allows rfl) (.inl ⟨misses_of rfl, by decide⟩)
      (by decide) (by decide)⟩,
    ⟨_, granted_inGrant (by decide), by decide, .throttled (pinning_allows rfl)
      (.inr ⟨2, _, finds_of rfl rfl ⟨rfl, rfl⟩, .inl rfl⟩) (by decide) (by decide)⟩,
    ⟨_, granted_inGrant (by decide), by decide, .throttled (pinning_allows rfl)
      (.inr ⟨2, _, finds_of rfl rfl ⟨rfl, rfl⟩, .inr ⟨.p2, rfl, by decide, .inr (by decide)⟩⟩) (by decide) (by decide)⟩⟩

/-- Bucket 0 with every way DEFECTIVE. -/
def fullBucket : State :=
  (pinning base).withDirectory
    { base.directory with cells := (bucketSlots 0).map (fun i => (i, .defective)), defectiveCount := 8 }

/-- FULL, and a RESOLVE going on as a claim; and a domain that is not enabled. -/
theorem witness_ClaimRefusals_more :
    (let s := granted fullBucket .p1 (.resolve 0 0 true 7);
      ∃ v, s.InGrant .p1 v (asked (.resolve 0 0 true 7)) ∧ s.ClaimAllowed .p1 (asDomain 0) false
        ∧ s.Misses [] (asDomain 0) 0 ∧ s.MayOwn v .p1
        ∧ (∀ j ∈ s.slotsOf (asDomain 0) 0, s.slot j ≠ .free)
        ∧ s.ClaimRefused .p1 v [] (asDomain 0) 0 false false .full .none)
      ∧ (∀ r ∈ [Request.resolve 1 0 true 7, .claim 1 0 7 false false, .release 1 0, .touch 1 0, .handoverAsk 1 0 7],
          (granted base .p1 r).InGrant .p1 (asking base .p1 r).view (asked r)
            ∧ ((granted base .p1 r).domain (asDomain 1)).policy.enabled = false) := by
  have hm : (granted fullBucket .p1 (.resolve 0 0 true 7)).Misses [] (asDomain 0) 0 := by
    refine ⟨by simp, fun j _ c hj => ?_⟩
    have hm := State.occupied_mem hj
    have hc : (granted fullBucket .p1 (.resolve 0 0 true 7)).directory.cells
        = (bucketSlots 0).map (fun i => (i, Slot.defective)) := rfl
    rw [hc] at hm
    simp at hm
  refine ⟨⟨_, granted_inGrant (by decide), ⟨by decide, .inr (by decide), by decide⟩, hm, ⟨by decide, by decide⟩, by decide,
    .full ⟨by decide, .inr (by decide), by decide⟩ hm (by decide) ⟨by decide, by decide⟩ (by decide)⟩, fun r h => ?_⟩
  simp only [List.mem_cons, List.not_mem_nil, or_false] at h
  rcases h with rfl | rfl | rfl | rfl | rfl <;> exact ⟨granted_inGrant (by decide), by decide⟩

/-- The premises that the statements about one binding share, met by identifier (0, 0) at slot 2. -/
def Meets (s : State) (p : Port) (r : Request) (b : Binding) : Prop :=
  (∃ v, s.InGrant p v (asked r)) ∧ (s.domain (asDomain 0)).policy.enabled = true ∧ s.directory.wf = true
    ∧ s.Finds [] (asDomain 0) 0 2 b

theorem witness_ReleaseRemovesOwnBinding :
    (∃ s, Meets s .p1 (.release 0 0) (binding (.bound .p1) .leased))
      ∧ (∃ s, Meets s .p1 (.release 0 0) (binding (.bound .p0) .pinned))
      ∧ (∃ s, Meets s .p1 (.release 0 0) (binding .orphaned .leased))
      ∧ (let s := granted base .p1 (.release 0 0);
          (∃ v, s.InGrant .p1 v (asked (.release 0 0))) ∧ s.directory.wf = true ∧ s.Misses [] (asDomain 0) 0) :=
  ⟨⟨granted (holding (binding (.bound .p1) .leased)) .p1 (.release 0 0),
      ⟨_, granted_inGrant (by decide)⟩, by decide, by decide, finds_of rfl rfl ⟨rfl, rfl⟩⟩,
    ⟨granted (holding (binding (.bound .p0) .pinned)) .p1 (.release 0 0),
      ⟨_, granted_inGrant (by decide)⟩, by decide, by decide, finds_of rfl rfl ⟨rfl, rfl⟩⟩,
    ⟨granted (holding (binding .orphaned .leased)) .p1 (.release 0 0),
      ⟨_, granted_inGrant (by decide)⟩, by decide, by decide, finds_of rfl rfl ⟨rfl, rfl⟩⟩,
    ⟨_, granted_inGrant (by decide)⟩, by decide, misses_of rfl⟩

/-- `transferring .p2 .p3 .pending` with the taker's quota at what it owns. -/
def takerFull : State :=
  (transferring .p2 .p3 .pending).withSettings { base.settings with quota := ⟨4096, 4096, 4096, 0⟩ }

theorem witness_ReleaseSettlesTransfer :
    let r := Request.release 0 0
    let b := binding (.transfer .p2 3) .leased
    let e : Transfer := ⟨.pending, 2, .p2, .p3, 0, 5, 8⟩
    (let s := granted (transferring .p2 .p3 .pending) .p2 r;
      Meets s .p2 r b ∧ s.entry 3 = some e ∧ s.owned .p3 < s.settings.quota.get .p3
        ∧ ∃ v, s.InGrant .p2 v (asked r) ∧ v.session.get .p3 = .online)
      ∧ (let s := granted (session (transferring .p2 .p3 .pending) .p3 .draining) .p2 r;
          Meets s .p2 r b ∧ s.entry 3 = some e ∧ ∃ v, s.InGrant .p2 v (asked r) ∧ v.session.get .p3 ≠ .online)
      ∧ (let s := granted takerFull .p2 r;
          Meets s .p2 r b ∧ s.entry 3 = some e ∧ s.settings.quota.get .p3 ≤ s.owned .p3) :=
  ⟨⟨⟨⟨_, granted_inGrant (by decide)⟩, by decide, by decide, finds_of rfl rfl ⟨rfl, rfl⟩⟩, by decide, by decide,
      _, granted_inGrant (by decide), by decide⟩,
    ⟨⟨⟨_, granted_inGrant (by decide)⟩, by decide, by decide, finds_of rfl rfl ⟨rfl, rfl⟩⟩, by decide,
      _, granted_inGrant (by decide), by decide⟩,
    ⟨⟨_, granted_inGrant (by decide)⟩, by decide, by decide, finds_of rfl rfl ⟨rfl, rfl⟩⟩, by decide, by decide⟩

theorem witness_TouchMarksOwnBinding :
    (∃ s, Meets s .p1 (.touch 0 0) (binding (.bound .p1) .leased))
      ∧ (∃ s, Meets s .p1 (.touch 0 0) (binding .orphaned .leased))
      ∧ (let s := granted base .p1 (.touch 0 0);
          (∃ v, s.InGrant .p1 v (asked (.touch 0 0))) ∧ s.Misses [] (asDomain 0) 0) :=
  ⟨⟨granted (holding (binding (.bound .p1) .leased)) .p1 (.touch 0 0),
      ⟨_, granted_inGrant (by decide)⟩, by decide, by decide, finds_of rfl rfl ⟨rfl, rfl⟩⟩,
    ⟨granted (holding (binding .orphaned .leased)) .p1 (.touch 0 0),
      ⟨_, granted_inGrant (by decide)⟩, by decide, by decide, finds_of rfl rfl ⟨rfl, rfl⟩⟩,
    ⟨_, granted_inGrant (by decide)⟩, misses_of rfl⟩

theorem witness_ReadSlotReports :
    (∃ v, (granted base .p0 (.readSlot 16383)).InGrant .p0 v (asked (.readSlot 16383)))
      ∧ (let s := granted (base.withDirectory
            { base.directory with cells := [(0, .defective)], defectiveCount := 1 }) .p0 (.readSlot 0);
          s.slot 0 = .defective ∧ ∃ v, s.InGrant .p0 v (asked (.readSlot 0))) :=
  ⟨⟨_, granted_inGrant (by decide)⟩, by decide, _, granted_inGrant (by decide)⟩

/-- Slot 2 is read while it holds a binding whose transfer, if it has one, is entry 3. -/
def reading (t : Tenure) : State :=
  granted ((holding (binding t .leased)).setEntry 3 (some ⟨.pending, 2, .p2, .p3, 0, 5, 8⟩)) .p0 (.readSlot 2)

theorem witness_SlotCheckFailureLosesBinding :
    ∀ t ∈ [Tenure.bound .p1, .orphaned, .transfer .p2 3],
      (reading t).InGrant .p0 (asking ((holding (binding t .leased)).setEntry 3
          (some ⟨.pending, 2, .p2, .p3, 0, 5, 8⟩)) .p0 (.readSlot 2)).view (asked (.readSlot 2))
        ∧ (reading t).slot 2 = .occupied (binding t .leased) ∧ (reading t).directory.wf = true
        ∧ (reading t).entry 3 = some ⟨.pending, 2, .p2, .p3, 0, 5, 8⟩ := by
  intro t h
  simp only [List.mem_cons, List.not_mem_nil, or_false] at h
  rcases h with rfl | rfl | rfl <;> exact ⟨granted_inGrant (by decide), by decide, by decide, by decide⟩

/-- A FREE slot that READ_SLOT reads. -/
theorem witness_SlotCheckFailure_free :
    let s := granted base .p0 (.readSlot 16383)
    (∃ v, s.InGrant .p0 v (asked (.readSlot 16383))) ∧ s.directory.wf = true ∧ s.slot 16383 = .free :=
  ⟨⟨_, granted_inGrant (by decide)⟩, by decide, by decide⟩

theorem only_slot {s : State} {b : Binding} (hc : s.directory.cells = [(2, .occupied b)]) {j : Nat} {c : Binding}
    (h : s.slot j = .occupied c) : j = 2 := by
  have hm := State.occupied_mem h
  rw [hc] at hm
  simp at hm
  exact hm.1

/-- The slot of the sought binding fails, in each request that looks it up. -/
theorem witness_SlotCheckFailure_lookup :
    ∀ r ∈ [Request.resolve 0 0 true 7, .claim 0 0 7 false true, .release 0 0, .touch 0 0, .handoverAsk 0 0 7],
      let s := granted (holding (binding (.bound .p1) .leased)) .p0 r
      ∃ v, s.InGrant .p0 v (asked r) ∧ s.directory.wf = true ∧ s.LooksUp .p0 0 0 r ∧ s.ReadsFailing .p0 v [2] 2 r
        ∧ 2 ∈ s.slotsOf 0 0 ∧ s.slot 2 = .occupied (binding (.bound .p1) .leased)
        ∧ (s.domain 0).policy.autoClaim = false
        ∧ ∀ j ∈ s.slotsOf 0 0, j ≠ 2 → j ∉ [2] ∧ ∀ c, s.slot j = .occupied c → ¬ c.Holds 0 0 := by
  have key : ∀ (r : Request) (_ : commonCheck (asking (holding (binding (.bound .p1) .leased)) .p0 r).view .p0 r = none)
      (_ : (granted (holding (binding (.bound .p1) .leased)) .p0 r).LooksUp .p0 0 0 r),
      let s := granted (holding (binding (.bound .p1) .leased)) .p0 r
      ∃ v, s.InGrant .p0 v (asked r) ∧ s.directory.wf = true ∧ s.LooksUp .p0 0 0 r ∧ s.ReadsFailing .p0 v [2] 2 r
        ∧ 2 ∈ s.slotsOf 0 0 ∧ s.slot 2 = .occupied (binding (.bound .p1) .leased)
        ∧ (s.domain 0).policy.autoClaim = false
        ∧ ∀ j ∈ s.slotsOf 0 0, j ≠ 2 → j ∉ [2] ∧ ∀ c, s.slot j = .occupied c → ¬ c.Holds 0 0 := by
    intro r hr hl s
    have hcells : s.directory.cells = [(2, .occupied (binding (.bound .p1) .leased))] := rfl
    have hmem : 2 ∈ s.slotsOf 0 0 := by
      show 2 ∈ bucketSlots (bucketIndex 0 0 0)
      decide
    exact ⟨_, granted_inGrant hr, rfl, hl,
      .lookup 0 0 _ r hl hmem rfl (by simp) (fun j _ hj c hc => absurd (only_slot hcells hc) (by omega)), hmem, rfl, rfl,
      fun j _ hj => ⟨by simpa using hj, fun c hc => absurd (only_slot hcells hc) hj⟩⟩
  intro r h
  simp only [List.mem_cons, List.not_mem_nil, or_false] at h
  rcases h with rfl | rfl | rfl | rfl | rfl
  · exact key _ (by decide) (.resolve 0 true 7 rfl rfl)
  · exact key _ (by decide) (.claim 0 7 false true rfl ⟨rfl, .inl rfl, by simp⟩)
  · exact key _ (by decide) (.release 0 rfl rfl)
  · exact key _ (by decide) (.touch 0 rfl rfl)
  · exact key _ (by decide) (.ask 0 7 rfl rfl)

/-- The FREE slot of an insertion fails; a scan meets a failed slot. -/
theorem witness_SlotCheckFailure_insertion_scan :
    (∀ r ∈ [Request.claim 0 0 7 false false, .resolve 0 0 true 7],
      let s := granted (pinning base) .p1 r
      ∃ v, s.InGrant .p1 v (asked r) ∧ s.directory.wf = true ∧ s.ReadsFailing .p1 v [0] 0 r)
      ∧ (let r := Request.scanNext 0 255 255 255
         let s := granted (holding (binding .orphaned .leased)) .p0 r
         ∃ v, s.InGrant .p0 v (asked r) ∧ s.directory.wf = true ∧ s.ReadsFailing .p0 v [2] 2 r) := by
  have hno : ∀ (r : Request), ∀ j ∈ (granted (pinning base) .p1 r).slotsOf 0 0, ∀ c,
      (granted (pinning base) .p1 r).slot j = .occupied c → j ∉ [0] ∧ ¬ c.Holds 0 0 := by
    intro r j _ c hc
    have hm := State.occupied_mem hc
    have hc' : (granted (pinning base) .p1 r).directory.cells = [] := rfl
    rw [hc'] at hm
    cases hm
  refine ⟨fun r h => ?_, _, granted_inGrant (by decide), rfl,
    .scan 0 255 255 255 ⟨none, .any, none⟩ (binding .orphaned .leased) rfl (by decide) (by decide) rfl (by simp)
      (fun j _ hj c hc => absurd (only_slot (b := binding .orphaned .leased) rfl hc) (by omega))⟩
  simp only [List.mem_cons, List.not_mem_nil, or_false] at h
  rcases h with rfl | rfl
  · exact ⟨_, granted_inGrant (by decide), rfl, .insertion 0 0 false _ (.inl ⟨0, 7, false, rfl, rfl⟩)
      ⟨by decide, .inr (by decide), by decide⟩ (by decide) ⟨by decide, by decide⟩ (hno _) (lowestFree_of rfl rfl rfl) (by simp)⟩
  · exact ⟨_, granted_inGrant (by decide), rfl,
      .insertion 0 0 false _ (.inr ⟨0, 7, rfl, rfl, rfl, by decide, by decide⟩)
      ⟨by decide, .inr (by decide), by decide⟩ (by decide) ⟨by decide, by decide⟩ (hno _) (lowestFree_of rfl rfl rfl) (by simp)⟩

/-- The slot of a transfer fails, at the giver's reply and at the expiry resolution. -/
theorem witness_SlotCheckFailure_transfer :
    (∀ d ∈ [1, 2], let s := granted (transferring .p2 .p3 .pending) .p2 (.handoverReply 3 d)
      (∃ v, s.InGrant .p2 v (asked (.handoverReply 3 d))) ∧ s.directory.wf = true
        ∧ s.entry (asIndex 3) = some ⟨.pending, 2, .p2, .p3, 0, 5, 8⟩
        ∧ s.slot 2 = .occupied (binding (.transfer .p2 3) .leased))
      ∧ (let s := (transferring .p2 .p3 .expired).withGrant
            (some (.fresh .transferController (transferring .p2 .p3 .expired).view))
         s.transfers.expiryList = [3] ∧ s.entry 3 = some ⟨.expired, 2, .p2, .p3, 0, 5, 8⟩
          ∧ s.slot 2 = .occupied (binding (.transfer .p2 3) .leased) ∧ s.directory.wf = true) := by
  refine ⟨fun d h => ?_, by decide⟩
  simp only [List.mem_cons, List.not_mem_nil, or_false] at h
  rcases h with rfl | rfl <;> exact ⟨⟨_, granted_inGrant (by decide)⟩, by decide, by decide, by decide⟩

theorem no_occupied {s : State} (hc : s.directory.cells = []) (j : Nat) (c : Binding) : s.slot j ≠ .occupied c := by
  intro h
  have := State.occupied_mem h
  rw [hc] at this
  cases this

theorem witness_ScanReportsFirstMatch :
    (let s := granted (holding (binding .orphaned .leased)) .p0 (.scanNext 0 0 4 3);
      (∃ v, s.InGrant .p0 v (asked (.scanNext 0 0 4 3))) ∧ ∃ f, scanFilterOf 0 4 3 = some f
        ∧ f.matches (binding .orphaned .leased) = true ∧ s.slot 2 = .occupied (binding .orphaned .leased)
        ∧ ∀ j, j < 2 → ∀ c, s.slot j ≠ .occupied c)
      ∧ (let s := granted base .p0 (.scanNext 16383 255 255 255);
          (∃ v, s.InGrant .p0 v (asked (.scanNext 16383 255 255 255))) ∧ 16383 / 64 = 255
            ∧ ∀ j c, s.slot j ≠ .occupied c)
      ∧ ∃ v, (granted base .p0 (.scanNext 16319 63 0 1)).InGrant .p0 v (asked (.scanNext 16319 63 0 1)) := by
  refine ⟨⟨⟨_, granted_inGrant (by decide)⟩, ⟨some 0, .noOwner, some .orphaned⟩, by decide, by decide, by decide,
    fun j hj c h => ?_⟩, ⟨⟨_, granted_inGrant (by decide)⟩, by decide, no_occupied rfl⟩, _, granted_inGrant (by decide)⟩
  have hm := State.occupied_mem h
  have hc : (granted (holding (binding .orphaned .leased)) .p0 (.scanNext 0 0 4 3)).directory.cells
      = [(2, .occupied (binding .orphaned .leased))] := rfl
  rw [hc] at hm
  simp at hm
  omega

/-- With every entry FREE, and with only entry 31 FREE. -/
theorem witness_HandoverAskCreatesTransfer :
    let r := Request.handoverAsk 0 0 9
    let b := binding (.bound .p2) .leased
    (let s := granted (holding b) .p1 r;
      Meets s .p1 r b ∧ (s.domain (asDomain 0)).policy.Allows .p1 ∧ s.owned .p1 < s.settings.quota.get .p1
        ∧ s.transfers.lastAllocated = 31 ∧ s.entry 0 = none
        ∧ ∃ v, s.InGrant .p1 v (asked r) ∧ v.session.get .p2 = .online)
      ∧ (let s := granted ((holding b).withTransfers
            ⟨(Vector.replicate 32 (some ⟨.pending, 8, .p2, .p3, 9, 5, 8⟩)).set 31 none, 31, []⟩) .p1 r;
          Meets s .p1 r b ∧ s.entry 31 = none ∧ ∀ y : TransferIndex, y.val < 31 → s.entry y ≠ none) :=
  ⟨⟨⟨⟨_, granted_inGrant (by decide)⟩, by decide, by decide, finds_of rfl rfl ⟨rfl, rfl⟩⟩, .inl (by decide), by decide,
      by decide, by decide, _, granted_inGrant (by decide), by decide⟩,
    ⟨⟨_, granted_inGrant (by decide)⟩, by decide, by decide, finds_of rfl rfl ⟨rfl, rfl⟩⟩, by decide, by decide⟩

/-- The refusals of R77's table, for an ask of P1 about a binding of P2. -/
theorem witness_HandoverAskCreatesTransfer_refusals :
    let r := Request.handoverAsk 0 0 9
    let asks := fun s b => Meets (granted s .p1 r) .p1 r b
    (let s := granted base .p1 r;
      (∃ v, s.InGrant .p1 v (asked r)) ∧ (s.domain (asDomain 0)).policy.enabled = true ∧ s.Misses [] (asDomain 0) 0)
      ∧ asks (holding (binding (.bound .p1) .leased)) (binding (.bound .p1) .leased)
      ∧ asks (holding (binding (.transfer .p2 3) .leased)) (binding (.transfer .p2 3) .leased)
      ∧ asks (holding (binding .orphaned .leased)) (binding .orphaned .leased)
      ∧ asks (session (holding (binding (.bound .p2) .leased)) .p2 .draining) (binding (.bound .p2) .leased)
      ∧ (let s := (holding (binding (.bound .p2) .leased)).modifyDomain 0
            (fun d => { d with policy := { d.policy with claimPolicy := .closed } });
          asks s (binding (.bound .p2) .leased))
      ∧ (let s := (holding (binding (.bound .p2) .leased)).modifyDomain 0
            (fun d => { d with policy := { d.policy with claimPolicy := .members, memberSet := PerPort.all false } });
          asks s (binding (.bound .p2) .leased))
      ∧ asks (noQuota (holding (binding (.bound .p2) .leased))) (binding (.bound .p2) .leased)
      ∧ (let s := (holding (binding (.bound .p2) .leased)).withTransfers
            ⟨Vector.replicate 32 (some ⟨.pending, 8, .p2, .p3, 9, 5, 8⟩), 31, []⟩;
          asks s (binding (.bound .p2) .leased) ∧ ∀ x, s.entry x ≠ none) :=
  ⟨⟨⟨_, granted_inGrant (by decide)⟩, by decide, misses_of rfl⟩,
    ⟨⟨_, granted_inGrant (by decide)⟩, by decide, by decide, finds_of rfl rfl ⟨rfl, rfl⟩⟩,
    ⟨⟨_, granted_inGrant (by decide)⟩, by decide, by decide, finds_of rfl rfl ⟨rfl, rfl⟩⟩,
    ⟨⟨_, granted_inGrant (by decide)⟩, by decide, by decide, finds_of rfl rfl ⟨rfl, rfl⟩⟩,
    ⟨⟨_, granted_inGrant (by decide)⟩, by decide, by decide, finds_of rfl rfl ⟨rfl, rfl⟩⟩,
    ⟨⟨_, granted_inGrant (by decide)⟩, by decide, by decide, finds_of rfl rfl ⟨rfl, rfl⟩⟩,
    ⟨⟨_, granted_inGrant (by decide)⟩, by decide, by decide, finds_of rfl rfl ⟨rfl, rfl⟩⟩,
    ⟨⟨_, granted_inGrant (by decide)⟩, by decide, by decide, finds_of rfl rfl ⟨rfl, rfl⟩⟩,
    ⟨⟨_, granted_inGrant (by decide)⟩, by decide, by decide, finds_of rfl rfl ⟨rfl, rfl⟩⟩, by decide⟩

theorem witness_HandoverReplyGrantSettles :
    let r := Request.handoverReply 3 1
    let e : Transfer := ⟨.pending, 2, .p2, .p3, 0, 5, 8⟩
    (let s := granted (transferring .p2 .p3 .pending) .p2 r;
      s.entry 3 = some e ∧ s.slot 2 = .occupied (binding (.transfer .p2 3) .leased) ∧ s.directory.wf = true
        ∧ s.owned .p3 < s.settings.quota.get .p3 ∧ ∃ v, s.InGrant .p2 v (asked r) ∧ v.session.get .p3 = .online)
      ∧ (let s := granted takerFull .p2 r;
          s.entry 3 = some e ∧ s.slot 2 = .occupied (binding (.transfer .p2 3) .leased) ∧ s.directory.wf = true
            ∧ s.settings.quota.get .p3 ≤ s.owned .p3 ∧ ∃ v, s.InGrant .p2 v (asked r)) :=
  ⟨⟨by decide, by decide, by decide, by decide, _, granted_inGrant (by decide), by decide⟩,
    by decide, by decide, by decide, by decide, _, granted_inGrant (by decide)⟩

theorem witness_HandoverReplyRefuseReturns :
    let r := Request.handoverReply 3 2
    (let s := granted (transferring .p2 .p3 .expired) .p2 r;
      (∃ v, s.InGrant .p2 v (asked r)) ∧ s.directory.wf = true
        ∧ s.entry 3 = some ⟨.expired, 2, .p2, .p3, 0, 5, 8⟩
        ∧ s.slot 2 = .occupied (binding (.transfer .p2 3) .leased))
      ∧ (∃ v, (granted (transferring .p2 .p3 .pending) .p3 r).InGrant .p3 v (asked r))
      ∧ (∃ v, (granted base .p2 (.handoverReply 31 1)).InGrant .p2 v (asked (.handoverReply 31 1)))
      ∧ (granted base .p2 (.handoverReply 31 1)).entry 31 = none :=
  ⟨⟨⟨_, granted_inGrant (by decide)⟩, by decide, by decide, by decide⟩, ⟨_, granted_inGrant (by decide)⟩,
    ⟨_, granted_inGrant (by decide)⟩, by decide⟩

/-- The Transfer Controller's grant for entry 3. -/
def resolving (s : State) : State := s.withGrant (some (.fresh .transferController s.view))

/-- The four rows of R86's table. -/
theorem witness_ExpiryResolutionSettles :
    let u := transferring .p2 .p3 .expired
    (∀ s ∈ [u, session (session u .p2 .draining) .p3 .offline, session u .p2 .draining,
        session (takerFull.withTransfers u.transfers) .p2 .draining],
      (resolving s).grant = some (.fresh .transferController s.view) ∧ (resolving s).transfers.expiryList = [3]
        ∧ (resolving s).entry 3 = some ⟨.expired, 2, .p2, .p3, 0, 5, 8⟩
        ∧ (resolving s).slot 2 = .occupied (binding (.transfer .p2 3) .leased) ∧ (resolving s).directory.wf = true)
      ∧ u.view.session.get .p2 = .online ∧ u.owned .p3 < u.settings.quota.get .p3
      ∧ takerFull.settings.quota.get .p3 ≤ takerFull.owned .p3 := by decide

theorem witness_TimersExpire :
    ((base.modifyNotices .p0 (fun n => { n with windowDue := true })).noticePort .p0).windowDue = true
      ∧ ((base.modifyPort .p0 (fun c => { c with refillTimer := some 0 })).port .p0).refillTimer = some 0
      ∧ (transferring .p2 .p3 .pending).entry 3 = some ⟨.pending, 2, .p2, .p3, 0, 5, 8⟩
      ∧ (∀ y : TransferIndex, y < 3 → (transferring .p2 .p3 .pending).entry y = none)
      ∧ (base.withLease ⟨some .p3, 0⟩).lease = ⟨some .p3, 0⟩
      ∧ (∀ q ∈ [[], [⟨1, .sweep, none, 0, JobCounts.zero⟩, ⟨2, .sweep, none, 0, JobCounts.zero⟩]],
          (base.withMaintenance ⟨q, [], 3, some 0, []⟩).maintenance.sweepTimer = some 0
            ∧ (base.withMaintenance ⟨q, [], 3, some 0, []⟩).maintenance.queue.length ≤ 8)
      ∧ (base.withMaintenance ⟨[], [], 3, some 0, []⟩).JobsLaw
      ∧ (base.withMaintenance ⟨[⟨1, .sweep, none, 0, JobCounts.zero⟩, ⟨2, .sweep, none, 0, JobCounts.zero⟩], [], 3,
          some 0, []⟩).JobsLaw :=
  ⟨by decide, by decide, by decide, by decide, by decide, by decide,
    ⟨by decide, by decide, by decide, by decide, by decide, by decide⟩,
    ⟨by decide, by decide, by decide, by decide, by decide, by decide⟩⟩

/-- A job of no requester that has not begun. -/
def job (id : Nat) (w : JobWork) : Job := ⟨id, w, none, 0, JobCounts.zero⟩

/-- The filter of a PURGE of everything. -/
def everything : JobWork := .purge ⟨none, .any, none⟩

/-- `base` with the lease at P1 and a queue of jobs. -/
def jobbed (q : List Job) : State := (leased base .p1).withQueue q

theorem witness_JobRequestsEnqueue :
    let full := [job 1 .sweep, job 2 everything, job 3 everything, job 4 .sweep]
    (∀ r ∈ [Request.sweep, .purge 255 255 255, .clear],
      commonCheck (asking (jobbed [job 255 everything]) .p1 r).view .p1 r = none
        ∧ (asking (jobbed [job 255 everything]) .p1 r).maintenance.otherJobs < 4
        ∧ commonCheck (asking (jobbed full) .p1 r).view .p1 r = none
        ∧ 4 ≤ (asking (jobbed full) .p1 r).maintenance.otherJobs)
      ∧ (asking (jobbed [job 255 everything]) .p1 .clear).JobsLaw
      ∧ (asking (jobbed full) .p1 .sweep).JobsLaw
      ∧ job 4 .sweep ∈ (asking (jobbed full) .p1 .sweep).maintenance.queue.tail
      ∧ (∃ f, purgeFilterOf 63 4 2 = some f) :=
  ⟨by decide, ⟨by decide, by decide, by decide, by decide, by decide, by decide⟩,
    ⟨by decide, by decide, by decide, by decide, by decide, by decide⟩, by decide, _, rfl⟩

/-- The jobs of the ABORT_JOB witnesses: a CLEAR runs, and a PURGE and an ORPHAN job wait. -/
def abortable : State := jobbed [job 1 .clear, job 2 everything, job 3 (.orphan .p2 .link)]

/-- `abortable` during a bucket grant of its head job. -/
def abortableInGrant : State := abortable.withGrant (some (.fresh .maintenance abortable.view))

theorem abortable_lawful : abortable.JobsLaw := ⟨by decide, by decide, by decide, by decide, by decide, by decide⟩

theorem abortable_jobs (r : Request) : (asking abortable .p1 r).JobsLaw :=
  ⟨abortable_lawful.ids, abortable_lawful.idRange, abortable_lawful.nextId, abortable_lawful.others,
    abortable_lawful.sweeps, abortable_lawful.history⟩

/-- A SWEEP runs, and a CLEAR waits next, with a PURGE, an ORPHAN job and a SWEEP behind it. -/
def cancelling : State :=
  jobbed [job 1 .sweep, job 2 .clear, { job 3 everything with requester := some .p1 }, job 4 (.orphan .p2 .link),
    job 5 .sweep]

/-- The Maintenance Engine's grant for a bucket of a job. -/
def bucketGrant (s : State) (j : Job) : State :=
  (s.withQueue [j]).withGrant (some (.fresh .maintenance (s.withQueue [j]).view))

theorem witness_AbortJobStopsOrCancels :
    (∀ id ∈ [0, 1, 2, 3, 255],
        (asking abortable .p1 (.abortJob id)).AtOnce .p1 (asked (.abortJob id))
          ∧ (asking abortable .p1 (.abortJob id)).JobsLaw)
      ∧ (asking abortable .p1 (.abortJob 1)).grant = none
      ∧ (asking abortable .p1 (.abortJob 1)).maintenance.abortWaiting = []
      ∧ (asking abortableInGrant .p1 (.abortJob 1)).grant = some (.fresh .maintenance abortable.view)
      ∧ commonCheck (asking abortableInGrant .p1 (.abortJob 1)).view .p1 (.abortJob 1) = none
      ∧ ((asking abortableInGrant .p1 (.abortJob 1)).withMaintenance
          { abortable.maintenance with abortWaiting := [.p1] }).maintenance.abortWaiting = [.p1]
      ∧ abortable.maintenance.queue = job 1 .clear :: [] ++ job 2 everything :: [job 3 (.orphan .p2 .link)]
      ∧ (asking cancelling .p1 (.abortJob 1)).AtOnce .p1 (asked (.abortJob 1))
      ∧ (asking cancelling .p1 (.abortJob 1)).JobsLaw
      ∧ cancelledJobs cancelling.maintenance.queue.tail
          = [{ job 3 everything with requester := some .p1 }, job 5 .sweep]
      ∧ (∀ cur ∈ [0, 2046, 2047],
          (bucketGrant cancelling { job 1 .sweep with cursor := cur }).maintenance.queue.length = 1) := by
  refine ⟨fun id h => ?_, by decide, by decide, by decide, by decide, by decide, by decide, asking_atOnce (by decide),
    ⟨by decide, by decide, by decide, by decide, by decide, by decide⟩, by decide, by decide⟩
  simp only [List.mem_cons, List.not_mem_nil, or_false] at h
  rcases h with rfl | rfl | rfl | rfl | rfl <;> exact ⟨asking_atOnce (by decide), abortable_jobs _⟩

theorem witness_ReportsChangeNothing :
    (∃ v, (granted base .p0 (.domainGet 63)).InGrant .p0 v (asked (.domainGet 63)))
      ∧ (∀ id ∈ [1, 11, 12], (asking base .p0 (.settingGet id)).AtOnce .p0 (asked (.settingGet id)))
      ∧ (∃ x, base.settings.value 11 = some x)
      ∧ (∀ c ∈ [CounterId.port .p3 .requests, .device .sweepPasses],
          (asking base .p0 (.statRead c.codes.1 c.codes.2)).AtOnce .p0 (asked (.statRead c.codes.1 c.codes.2)))
      ∧ (asking busyPart .p0 (.statRead 2 15)).AtOnce .p0 (asked (.statRead 2 15))
      ∧ (asking busyPart .p0 (.statRead 2 15)).SessionLaw
      ∧ job 2 (.orphan .p2 .link) ∈ (asking busyPart .p0 (.statRead 2 15)).maintenance.queue
      ∧ ((asking busyPart .p0 (.statRead 3 15)).port .p3).session ≠ .draining
      ∧ (asking abortable .p1 (.jobStatus 2)).AtOnce .p1 (asked (.jobStatus 2))
      ∧ (asking abortable .p1 (.jobStatus 2)).JobsLaw
      ∧ (let s := asking (base.withMaintenance
            ⟨[], [⟨0, .clear, none, .done, 2048, JobCounts.zero⟩, ⟨7, .sweep, some .p0, .done, 2048, JobCounts.zero⟩], 8,
              none, []⟩) .p0 (.jobStatus 0);
          s.AtOnce .p0 (asked (.jobStatus 0)) ∧ s.JobsLaw) := by
  refine ⟨⟨_, granted_inGrant (by decide)⟩, fun id h => ?_, ⟨_, rfl⟩, fun c h => ?_, asking_atOnce (by decide),
    ⟨fun p => ⟨by cases p <;> decide, by cases p <;> decide, by cases p <;> decide⟩, fun p => by cases p <;> decide,
      by decide⟩, by decide, by decide, asking_atOnce (by decide), abortable_jobs _, asking_atOnce (by decide),
    ⟨by decide, by decide, by decide, by decide, by decide, by decide⟩⟩
  · simp only [List.mem_cons, List.not_mem_nil, or_false] at h
    rcases h with rfl | rfl | rfl <;> exact asking_atOnce (by decide)
  · simp only [List.mem_cons, List.not_mem_nil, or_false] at h
    rcases h with rfl | rfl <;> exact asking_atOnce (by decide)

/-- A DOMAIN_SET of domain 0 with a cap. -/
def domainSetOf (cap : Nat) : Request :=
  .domainSet 0 1 3 ⟨true, false, false, true⟩ ⟨false, false, false, false⟩ ⟨true, true, true, true⟩ 0 15 cap 2 3

theorem witness_DomainSetReplacesThePolicy :
    let s := leased (holding (binding (.bound .p0) .leased)) .p1
    let pol := fun cap => (⟨true, .closed, ⟨true, false, false, true⟩, ⟨false, false, false, false⟩,
      ⟨true, true, true, true⟩, false, 15, cap, .hold, .p3⟩ : Policy)
    (∀ cap ∈ [0, 1, 16384], domainSetOf cap = .domainSet 0 (if (pol cap).enabled then 1 else 0)
          (pol cap).claimPolicy.code (pol cap).memberSet (pol cap).preemptSet (pol cap).pinSet
          (if (pol cap).autoClaim then 1 else 0) (pol cap).leaseLimit (pol cap).cap (pol cap).orphanAction.code
          (portCode (pol cap).standby)
        ∧ ∃ v, (granted s .p1 (domainSetOf cap)).InGrant .p1 v (asked (domainSetOf cap)))
      ∧ ((granted s .p1 (domainSetOf 1)).domain (asDomain 0)).count = 1 := by
  refine ⟨fun cap h => ?_, by decide⟩
  simp only [List.mem_cons, List.not_mem_nil, or_false] at h
  rcases h with rfl | rfl | rfl <;> exact ⟨by decide, _, granted_inGrant (by decide)⟩

theorem witness_SettingSetTakesEffect :
    (∀ r ∈ [Request.settingSet 2 25000, .settingSet 3 0, .settingSet 4 1000, .settingSet 5 1, .settingSet 6 255,
        .settingSet 7 255], (asking (leased base .p1) .p1 r).AtOnce .p1 (asked r))
      ∧ (∃ v, (granted (leased base .p1) .p1 (.settingSet 1 255)).InGrant .p1 v (asked (.settingSet 1 255)))
      ∧ (∀ q, (granted (leased base .p1) .p1 (.settingSet 1 255)).owned q = 0)
      ∧ (let s := granted (leased (holding (binding (.bound .p2) .leased)) .p1) .p1 (.settingSet 1 0);
          (∃ v, s.InGrant .p1 v (asked (.settingSet 1 0))) ∧ s.owned .p2 ≠ 0)
      ∧ (let s := granted (leased (holding (binding (.bound .p2) .leased)) .p1) .p1 (.settingSet 10 0);
          (∃ v, s.InGrant .p1 v (asked (.settingSet 10 0))) ∧ 10 = 8 + portCode .p2 ∧ 0 < s.owned .p2)
      ∧ ∃ v, (granted (leased base .p1) .p1 (.settingSet 8 16384)).InGrant .p1 v (asked (.settingSet 8 16384)) := by
  refine ⟨fun r h => ?_, ⟨_, granted_inGrant (by decide)⟩, fun q => by cases q <;> decide,
    ⟨⟨_, granted_inGrant (by decide)⟩, by decide⟩, ⟨⟨_, granted_inGrant (by decide)⟩, by decide, by decide⟩,
    _, granted_inGrant (by decide)⟩
  simp only [List.mem_cons, List.not_mem_nil, or_false] at h
  rcases h with rfl | rfl | rfl | rfl | rfl | rfl <;> exact asking_atOnce (by decide)

theorem witness_LeaseRequestsFollowTheTable :
    (∀ s ∈ [base, leased base .p1, leased base .p2], (asking s .p1 (.leaseTake 10)).AtOnce .p1 (asked (.leaseTake 10))
        ∧ (asking s .p1 (.leaseRenew 60000)).AtOnce .p1 (asked (.leaseRenew 60000))
        ∧ (asking s .p1 .leaseDrop).AtOnce .p1 (asked .leaseDrop))
      ∧ base.lease.holder = none ∧ (leased base .p1).lease.holder = some .p1
      ∧ (leased base .p2).lease.holder = some .p2 := by
  refine ⟨fun s h => ?_, by decide, by decide, by decide⟩
  simp only [List.mem_cons, List.not_mem_nil, or_false] at h
  rcases h with rfl | rfl | rfl <;>
  exact ⟨asking_atOnce (by decide), asking_atOnce (by decide), asking_atOnce (by decide)⟩

theorem witness_CountersCountAndAreTaken :
    base.counter (.port .p0 .claims) + 1 ≠ halfRange
      ∧ (base.setCounter (.port .p0 .claims) 0x7FFFFFFF#32).counter (.port .p0 .claims) + 1 = halfRange
      ∧ (∀ c ∈ [CounterId.port .p1 .requests, .device .expiries],
          (asking (leased base .p1) .p1 (.statTake c.codes.1 c.codes.2)).AtOnce .p1
            (asked (.statTake c.codes.1 c.codes.2))) := by
  refine ⟨by decide, by decide, fun c h => ?_⟩
  simp only [List.mem_cons, List.not_mem_nil, or_false] at h
  rcases h with rfl | rfl <;> exact asking_atOnce (by decide)

theorem bucketGrant_inBucket {s : State} {j : Job} (ha : s.maintenance.abortWaiting = []) :
    (bucketGrant s j).InBucket (s.withQueue [j]).view j [] := ⟨rfl, rfl, ha⟩

/-- A bucket with a binding that expires, the last bucket but one and the last; and behind a job a CLEAR that cancels. -/
theorem witness_SweepAgesABucket :
    let s := holding { binding (.bound .p1) .leased with idle := 15 }
    (∃ v, (bucketGrant s (job 1 .sweep)).InBucket v (job 1 .sweep) [] ∧ (bucketGrant s (job 1 .sweep)).directory.wf = true)
      ∧ s.expires { binding (.bound .p1) .leased with idle := 15 } = true
      ∧ (∀ cur ∈ [2046, 2047], ∃ v,
          (bucketGrant s { job 1 .sweep with cursor := cur }).InBucket v { job 1 .sweep with cursor := cur } [])
      ∧ (let u := cancelling.withGrant (some (.fresh .maintenance cancelling.view));
          u.InBucket cancelling.view (job 1 .sweep) cancelling.maintenance.queue.tail ∧ u.directory.wf = true) :=
  ⟨⟨_, bucketGrant_inBucket rfl, by decide⟩, by decide, fun _ _ => ⟨_, bucketGrant_inBucket rfl⟩, ⟨rfl, rfl, rfl⟩,
    by decide⟩

theorem witness_PurgeRemovesMatchesOfABucket :
    let s := transferring .p2 .p3 .pending
    (∃ v, (bucketGrant s (job 1 everything)).InBucket v (job 1 everything) []
        ∧ (bucketGrant s (job 1 everything)).directory.wf = true)
      ∧ (PurgeFilter.mk (some 0) (.owned .p2) (some .leased)).matches (binding (.transfer .p2 3) .leased) = true
      ∧ (PurgeFilter.mk none .noOwner none).matches (binding (.transfer .p2 3) .leased) = false :=
  ⟨⟨_, bucketGrant_inBucket rfl, by decide⟩, by decide, by decide⟩

/-- The start-up clear in its first bucket. -/
def firstBucket : State :=
  let s := State.reset.withResetHeld false
  s.withGrant (some (.fresh .maintenance s.view))

theorem witness_ClearRewritesABucket :
    (∃ v, (bucketGrant (transferring .p2 .p3 .pending) (job 1 .clear)).InBucket v (job 1 .clear) []
        ∧ (bucketGrant (transferring .p2 .p3 .pending) (job 1 .clear)).directory.wf = true)
      ∧ (firstBucket.InBucket (State.reset.withResetHeld false).view startupClear []
          ∧ firstBucket.directory.wf = true ∧ firstBucket.directory.cleared = startupClear.cursor)
      ∧ (∃ v, (bucketGrant base { job 1 .clear with cursor := 2047 }).InBucket v { job 1 .clear with cursor := 2047 } [])
      ∧ (∃ v, lastBucket.grant = some (.fresh .maintenance v) ∧ lastBucket.maintenance.queue = [{ startupClear with cursor := 2047 }]
          ∧ lastBucket.maintenance.abortWaiting = [] ∧ lastBucket.directory.wf = true
          ∧ lastBucket.directory.cleared = 2047) :=
  ⟨⟨_, bucketGrant_inBucket rfl, by decide⟩, ⟨⟨rfl, rfl, rfl⟩, by decide, by decide⟩,
    ⟨_, bucketGrant_inBucket rfl⟩, _, rfl, by decide, by decide, by decide, by decide⟩

/-- A bucket of an ORPHAN job for P2 that holds a BOUND binding of it (way 0), one it gives (way 2), and one it takes
(way 4); and one that P0 gives to P3 (way 6). -/
def orphaning : State :=
  let s := base.withDirectory
    { cells := [(0, .occupied ⟨0, 2039, .bound .p2, 7, .leased, true, 0⟩), (2, .occupied (binding (.transfer .p2 3) .leased)),
        (4, .occupied ⟨0, 4078, .transfer .p1 4, 7, .leased, true, 0⟩),
        (6, .occupied ⟨0, 6117, .transfer .p0 5, 7, .pinned, true, 0⟩)]
      cleared := 2048, ownedCount := ⟨1, 1, 2, 0⟩, orphanTotal := 0, defectiveCount := 0 }
  (((session s .p2 .draining).setEntry 3 (some ⟨.pending, 2, .p2, .p3, 50, 5, 8⟩)).setEntry 4
    (some ⟨.pending, 4, .p1, .p2, 50, 5, 8⟩)).setEntry 5 (some ⟨.pending, 6, .p0, .p3, 50, 5, 8⟩)

theorem orphaning_slot {i : Nat} {b : Binding} (h : orphaning.slot i = .occupied b) :
    (i = 0 ∧ b = ⟨0, 2039, .bound .p2, 7, .leased, true, 0⟩) ∨ (i = 2 ∧ b = binding (.transfer .p2 3) .leased)
      ∨ (i = 4 ∧ b = ⟨0, 4078, .transfer .p1 4, 7, .leased, true, 0⟩)
      ∨ (i = 6 ∧ b = ⟨0, 6117, .transfer .p0 5, 7, .pinned, true, 0⟩) := by
  have hm := State.occupied_mem h
  have hc : orphaning.directory.cells = [(0, .occupied ⟨0, 2039, .bound .p2, 7, .leased, true, 0⟩),
      (2, .occupied (binding (.transfer .p2 3) .leased)), (4, .occupied ⟨0, 4078, .transfer .p1 4, 7, .leased, true, 0⟩),
      (6, .occupied ⟨0, 6117, .transfer .p0 5, 7, .pinned, true, 0⟩)] := rfl
  rw [hc] at hm
  simpa using hm

theorem orphaning_transfers : orphaning.TransferLaw := by
  refine ⟨fun i b g x h ht => ?_, fun x t h => ?_⟩
  · rcases orphaning_slot h with ⟨rfl, rfl⟩ | ⟨rfl, rfl⟩ | ⟨rfl, rfl⟩ | ⟨rfl, rfl⟩ <;> cases ht <;> exact ⟨_, rfl, rfl⟩
  · have hn : ∀ y : TransferIndex, y ≠ 3 → y ≠ 4 → y ≠ 5 → orphaning.entry y = none := by decide
    by_cases h3 : x = 3
    · subst h3; cases h; exact ⟨by decide, binding (.transfer .p2 3) .leased, by decide, rfl⟩
    · by_cases h4 : x = 4
      · subst h4; cases h; exact ⟨by decide, ⟨0, 4078, .transfer .p1 4, 7, .leased, true, 0⟩, by decide, rfl⟩
      · by_cases h5 : x = 5
        · subst h5; cases h; exact ⟨by decide, ⟨0, 6117, .transfer .p0 5, 7, .pinned, true, 0⟩, by decide, rfl⟩
        · rw [hn x h3 h4 h5] at h; cases h

theorem witness_OrphanJobSettlesABucket :
    let j := job 2 (.orphan .p2 .link)
    (∃ v, (bucketGrant orphaning j).InBucket v j [] ∧ v.session.get .p3 = .online)
      ∧ (bucketGrant orphaning j).directory.wf = true ∧ (bucketGrant orphaning j).TransferLaw
      ∧ (∃ v, (bucketGrant orphaning { j with cursor := 2047 }).InBucket v { j with cursor := 2047 } [])
      ∧ ((bucketGrant orphaning j).port .p2).session ≠ .online
      ∧ (bucketGrant orphaning j).owned .p3 + 8 ≤ (bucketGrant orphaning j).settings.quota.get .p3 :=
  ⟨⟨_, bucketGrant_inBucket rfl, by decide⟩, by decide,
    ⟨orphaning_transfers.ofBinding, orphaning_transfers.ofEntry⟩, ⟨_, bucketGrant_inBucket rfl⟩, by decide, by decide⟩

/-- A bucket of each kind of job that checks its slots, with a binding of the lost port and one of another port. -/
theorem witness_SlotCheckFailure_bucket :
    (∀ w ∈ [JobWork.sweep, everything, .orphan .p1 .link], let j := { job 2 w with cursor := 1 }
      (∃ v, (bucketGrant lawful j).InBucket v j []) ∧ (bucketGrant lawful j).DirectoryLaw ∧ w ≠ .clear
        ∧ (bucketGrant lawful j).slot 9 = .occupied ⟨0, 1, .transfer .p1 3, 7, .pinned, true, 0⟩ ∧ 9 ∈ bucketSlots j.cursor)
      ∧ (bucketGrant lawful (job 2 (.orphan .p1 .link))).slot 2 = .occupied (binding (.bound .p0) .leased)
      ∧ lawful.owned .p0 + 8 ≤ lawful.settings.quota.get .p0 := by
  have h := witness_StepKeepsDirectoryLaw.1
  refine ⟨fun w hw => ⟨⟨_, bucketGrant_inBucket rfl⟩,
    ⟨⟨h.store.form, ?_⟩, ⟨h.counts.owned, h.counts.orphanTotal, h.counts.defective, h.counts.count, h.counts.orphans⟩,
      ⟨h.transfers.ofBinding, h.transfers.ofEntry⟩, h.place, h.unique⟩, ?_, rfl, (by decide : 9 ∈ bucketSlots 1)⟩, by decide, by decide⟩
  · intro j hj
    have hj' : j = { job 2 w with cursor := 1 } := List.mem_singleton.1 hj
    subst hj'
    exact (by decide : 1 < Config.buckets)
  · simp only [List.mem_cons, List.not_mem_nil, or_false] at hw
    rcases hw with rfl | rfl | rfl <;> simp [everything]

/-- The three kinds of client, each in its grant. -/
theorem witness_GrantHandsOverOneByOne :
    (∀ r ∈ [Request.resolve 0 0 true 7, .release 0 0, .handoverReply 3 2],
      (granted (transferring .p2 .p3 .pending) .p2 r).RowOf (.executor .p2) (fun g => r.row .p2 g))
      ∧ (∀ w ∈ [JobWork.sweep, everything, .clear, .orphan .p2 .link],
          (bucketGrant orphaning (job 2 w)).RowOf .maintenance (job 2 w).row)
      ∧ (resolving (transferring .p2 .p3 .expired)).RowOf .transferController .expiryResolution := by
  refine ⟨fun r h => ⟨asked r, rfl, ?_, fun _ => rfl⟩, fun w _ => ⟨job 2 w, [], rfl, rfl⟩, ⟨by decide, rfl⟩⟩
  simp only [List.mem_cons, List.not_mem_nil, or_false] at h
  rcases h with rfl | rfl | rfl <;> rfl

end Sys2Proof.Tests
end

section
/-! SUPPORT. CLAIM (chapter 02): the course of its grant, the branch of a hit, and the refresh by the owner (R32). -/

namespace Sys2Proof.Machine

/-! ### The course of a CLAIM -/

/-- A CLAIM in its grant that passes the common checks runs to its end by what `claimReply` gives (R31). -/
theorem State.InGrant.exec_claim {s u : State} {p : Port} {v : View} {rq : RequestFrame} {failing : List Nat} {d : Nat}
    {k : Key} {h : Handle} {pin force : Bool} {st : Status} {res : Result} {l : List Report} (hin : s.InGrant p v rq)
    (hbody : rq.body = .claim d k h pin force)
    (hreply : claimReply v p ⟨asDomain d, k, h, pin, force⟩ failing s = ⟨u, st, res⟩)
    (hgrant : u.grant = some ⟨.executor p, v, l, none⟩) (hbusy : (u.port p).executor = .busy rq) :
    exec (.claim p ⟨failing, none⟩) s = .next ((l.foldl State.deliver u).respond p rq st res).endGrant := by
  change execClaim p ⟨failing, none⟩ s = _
  exact hin.runs (by simp only [hbody]) hreply hgrant hbusy

/-- An allowed claim whose lookup hits comes to the branches of a hit, with the state as it was (R31 step 3). -/
theorem claimReply_hit {s : State} {v : View} {p : Port} {a : ClaimArgs} {failing : List Nat} {i : Nat} {b : Binding}
    (hallow : s.ClaimAllowed p a.domain a.pin) (hfind : s.Finds failing a.domain a.key i b) :
    claimReply v p a failing s = claimHit v p a i b s := by
  have hpin : (a.pin && !(s.domain a.domain).policy.pinSet.get p) = false := by
    cases hp : a.pin with
    | false => rfl
    | true => simp [hallow.pin hp]
  simp [claimReply, hallow.enabled, hallow.policy.refusalFor, hpin, hfind.lookup]

/-- A hit on a BOUND binding of the requester is a refresh, whatever PIN and FORCE say (R31, R32). -/
theorem claimHit_own {v : View} {p : Port} {a : ClaimArgs} {i : Nat} {b : Binding} {s : State}
    (hb : b.tenure = .bound p) : claimHit v p a i b s = refreshBinding p a i b s := by
  simp [claimHit, hb]

/-! ### Writing one binding -/

/-- Writing a binding changes the directory alone. -/
theorem State.putBinding_changes (s : State) (i : Nat) (b : Binding) :
    s.ChangesOnly (s.putBinding i b) [.directory] := by
  intro x hx
  cases x <;> simp [State.Same] at hx ⊢

/-- Two changes one after the other change at most what either changes. -/
theorem State.ChangesOnly.trans {s t u : State} {l m : List Part} (hst : s.ChangesOnly t l) (htu : t.ChangesOnly u m) :
    s.ChangesOnly u (l ++ m) := by
  intro x hx
  obtain ⟨hl, hm⟩ := not_or.1 (mt List.mem_append.2 hx)
  have h₁ := hst x hl
  have h₂ := htu x hm
  cases x
  case arbiter => exact ⟨h₂.1.trans h₁.1, h₂.2.trans h₁.2⟩
  all_goals exact Eq.trans h₂ h₁

/-! ### Refresh -/

/-- A CLAIM of a port's own BOUND binding writes that binding and answers ALREADY, and its grant reports nothing (R32). -/
theorem State.InGrant.exec_claim_own {s : State} {p : Port} {v : View} {rq : RequestFrame} {failing : List Nat} {d : Nat}
    {k : Key} {h : Handle} {pin force : Bool} {i : Nat} {b : Binding} (hin : s.InGrant p v rq)
    (hbody : rq.body = .claim d k h pin force) (hallow : s.ClaimAllowed p (asDomain d) pin)
    (hfind : s.Finds failing (asDomain d) k i b) (hb : b.tenure = .bound p) :
    exec (.claim p ⟨failing, none⟩) s = .next (((s.putBinding i { b with
        handle := h, touched := true, idle := 0, cls := if pin then .pinned else b.cls }).respond p rq .already
      (.claimed i p (if pin then .pinned else b.cls) h)).endGrant) := by
  have hreply : claimReply v p ⟨asDomain d, k, h, pin, force⟩ failing s
      = refreshBinding p ⟨asDomain d, k, h, pin, force⟩ i b s :=
    (claimReply_hit hallow hfind).trans (claimHit_own hb)
  exact hin.exec_claim (l := []) hbody hreply hin.grant hin.executor

/-- Settles O34: the grant writes one binding and answers a status that is no refusal, so each part of the statement is
what that write and that response leave. -/
theorem claimRefreshes : Obligations.ClaimRefreshes := by
  unfold Obligations.ClaimRefreshes
  intro s p v rq failing d k h pin force i b hin hbody hallow hwf hfind hb
  refine ⟨_, hin.exec_claim_own hbody hallow hfind hb, ?slot, ?others, ?counts, ?answers, ?frame⟩
  case slot => rw [State.endGrant_slot, State.respond_slot, State.putBinding_slot_same hwf]
  case others =>
    intro j hj
    rw [State.endGrant_slot, State.respond_slot, State.putBinding_slot_other s hj]
  case counts => exact ⟨fun q => by simp, by simp, by simp⟩
  case answers =>
    refine State.Answers.endGrant (State.respond_answers ?_ p rq .already _)
    simp
  case frame => exact (s.putBinding_changes i _).trans (State.success_endGrant_changes rfl _ p rq _)

end Sys2Proof.Machine
end

section
/-! SUPPORT. DOMAIN_SET (chapter 03): the codes of a policy read back, the write of one domain record, and the course of
its grant (R57). -/

namespace Sys2Proof.Machine

/-! ### The codes of a policy -/

@[simp] theorem claimPolicyOfCode_code (c : ClaimPolicy) : claimPolicyOfCode c.code = some c := by cases c <;> rfl

@[simp] theorem orphanActionOfCode_code (a : OrphanAction) : orphanActionOfCode a.code = some a := by cases a <;> rfl

@[simp] theorem portOfCode_portCode (p : Port) : portOfCode (portCode p) = some p := by cases p <;> rfl

/-- A yes or no is read back from its code (11.2). -/
theorem yesNoCode_beq_one (b : Bool) : ((if b then 1 else 0) == 1) = b := by cases b <;> rfl

/-- The policy a DOMAIN_SET names by the codes of its ten fields is that policy (R56). -/
theorem policyOf_codes (pol : Policy) :
    policyOf (if pol.enabled then 1 else 0) pol.claimPolicy.code pol.memberSet pol.preemptSet pol.pinSet
      (if pol.autoClaim then 1 else 0) pol.leaseLimit pol.cap pol.orphanAction.code (portCode pol.standby)
      = some pol := by
  simp only [policyOf, claimPolicyOfCode_code, orphanActionOfCode_code, portOfCode_portCode, yesNoCode_beq_one]

/-! ### Writing one domain record -/

/-- Writing a domain record changes the domains alone. -/
theorem State.modifyDomain_changes (s : State) (d : DomainId) (f : Domain → Domain) :
    s.ChangesOnly (s.modifyDomain d f) [.domains] := by
  intro x hx
  cases x <;> simp [State.Same] at hx ⊢

/-- A cap no lower than the count is taken: the policy is written and the two counts reported (R57). -/
theorem domainSetReply_taken {d : DomainId} {pol : Policy} {s : State} (h : (s.domain d).count ≤ pol.cap) :
    domainSetReply d pol s = ⟨s.modifyDomain d (fun r => { r with policy := pol }), .ok,
      .counts (s.domain d).count (s.domain d).orphans⟩ :=
  if_neg (Nat.not_lt.2 h)

/-- A cap lower than the count is refused with the state as it was (R57). -/
theorem domainSetReply_refused {d : DomainId} {pol : Policy} {s : State} (h : pol.cap < (s.domain d).count) :
    domainSetReply d pol s = ⟨s, .invalid, .none⟩ :=
  if_pos h

/-! ### The course of a DOMAIN_SET -/

/-- A DOMAIN_SET in its grant that passes the common checks runs to its end by what `domainSetReply` gives; it has no
report of its own. -/
theorem State.InGrant.exec_domainSet {s u : State} {p : Port} {v : View} {rq : RequestFrame} {d : Nat} {pol : Policy}
    {st : Status} {res : Result} (hin : s.InGrant p v rq)
    (hbody : rq.body = .domainSet d (if pol.enabled then 1 else 0) pol.claimPolicy.code pol.memberSet pol.preemptSet
      pol.pinSet (if pol.autoClaim then 1 else 0) pol.leaseLimit pol.cap pol.orphanAction.code (portCode pol.standby))
    (hreply : domainSetReply (asDomain d) pol s = ⟨u, st, res⟩) (hgrant : u.grant = s.grant)
    (hports : u.ports = s.ports) :
    exec (.domainSet p) s = .next (u.respond p rq st res).endGrant := by
  have hbusy : (u.port p).executor = .busy rq := by
    rw [State.port, hports]
    exact hin.executor
  change execDomainSet p s = _
  exact hin.runs (act := domainSetReply (asDomain d) pol) (l := []) (by simp only [hbody, policyOf_codes]) hreply
    (hgrant.trans hin.grant) hbusy

/-- Settles O52: the cap decides between the write of one domain record, answered OK, and a refusal of the state as it
was. -/
theorem domainSetReplacesThePolicy : Obligations.DomainSetReplacesThePolicy := by
  unfold Obligations.DomainSetReplacesThePolicy
  intro s p v rq d pol hin hbody
  constructor
  · intro hcap
    refine ⟨_, hin.exec_domainSet hbody (domainSetReply_taken hcap) (s.modifyDomain_grant _ _)
      (s.modifyDomain_ports _ _), ?answers, ?written, ?others, ?frame⟩
    case answers => exact (State.respond_answers (s.modifyDomain_ports _ _) p rq .ok _).endGrant
    case written => rw [State.endGrant_domain, State.respond_domain, State.domain_modifyDomain, if_pos rfl]
    case others =>
      intro e he
      rw [State.endGrant_domain, State.respond_domain, State.domain_modifyDomain, if_neg he]
    case frame =>
      refine ((s.modifyDomain_changes (asDomain d) _).trans
        (State.success_endGrant_changes rfl _ p rq _)).mono ?_
      simp
  · intro hcap
    exact ⟨_, hin.exec_domainSet hbody (domainSetReply_refused hcap) rfl rfl,
      (State.respond_answers rfl p rq .invalid .none).endGrant, s.respond_endGrant_changes p rq .invalid .none⟩

end Sys2Proof.Machine
end

section
/-! SUPPORT. What one command can do, said once: the requests, bucket grants and events behind the rows of `exec`, and
the course of a step. -/

namespace Sys2Proof.Machine

/-! ### The rows -/

/-- The requests that run at once, with the row that runs each and the rule that answers it (R124). -/
inductive DirectAct (p : Port) (s : State) (rq : RequestFrame) : Instr → (State → Reply) → Prop
  | attach (n m k : Nat) : rq.body = .attach n m k →
      DirectAct p s rq (.attach p) (attachReply p n m (subscriptionsOf k))
  | detach : rq.body = .detach → DirectAct p s rq (.detach p) (detachReply p)
  | keepalive : rq.body = .keepalive → DirectAct p s rq (.keepalive p) (fun t => ⟨t, .ok, .none⟩)
  | evict (n : Nat) : rq.body = .evict n → DirectAct p s rq (.evict p) (evictReply p n)
  | unknown : rq.body = .unknown → DirectAct p s rq (.unknownRequestKind p) (fun t => refuse t .invalid)
  | sweep : rq.body = .sweep → DirectAct p s rq (.sweep p) (sweepReply p)
  | purge (d o l : Nat) : rq.body = .purge d o l → DirectAct p s rq (.purge p) (purgeReply p d o l)
  | clear : rq.body = .clear → DirectAct p s rq (.clear p) (enqueueReply p .clear)
  | abort (id : Nat) : rq.body = .abortJob id → p ∉ s.maintenance.abortWaiting → s.abortWaits p rq id = false →
      DirectAct p s rq (.abortJob p) (abortReply id)
  | jobStatus (id : Nat) : rq.body = .jobStatus id →
      DirectAct p s rq (.jobStatus p) (fun t => ⟨t, .ok, .report (t.maintenance.report id)⟩)
  | settingGet (id : Nat) : rq.body = .settingGet id → DirectAct p s rq (.settingGet p) (settingGetReply id)
  | timebaseDivider (x : Nat) : rq.body = .settingSet 2 x →
      DirectAct p s rq (.settingSetTimebaseDivider p) (setTimebaseDivider x)
  | unknownSetting (id x : Nat) : rq.body = .settingSet id x → s.settings.value id = none →
      DirectAct p s rq (.settingSetTimebaseDivider p) (fun t => refuse t .invalid)
  | sweepInterval (x : Nat) : rq.body = .settingSet 3 x →
      DirectAct p s rq (.settingSetSweepInterval p) (setSweepInterval x)
  | transferTimeout (x : Nat) : rq.body = .settingSet 4 x →
      DirectAct p s rq (.settingSetTransferTimeout p) (setTransferTimeout x)
  | creditCapacity (x : Nat) : rq.body = .settingSet 5 x →
      DirectAct p s rq (.settingSetCreditCapacity p) (setCreditCapacity x)
  | refillAmount (x : Nat) : rq.body = .settingSet 6 x →
      DirectAct p s rq (.settingSetRefillAmount p) (setRefillAmount x)
  | refillInterval (x : Nat) : rq.body = .settingSet 7 x →
      DirectAct p s rq (.settingSetRefillInterval p) (setRefillInterval x)
  | leaseTake (n : Nat) : rq.body = .leaseTake n → DirectAct p s rq (.leaseTake p) (leaseTakeReply p n)
  | leaseRenew (n : Nat) : rq.body = .leaseRenew n → DirectAct p s rq (.leaseRenew p) (leaseRenewReply p n)
  | leaseDrop : rq.body = .leaseDrop → DirectAct p s rq (.leaseDrop p) (leaseDropReply p)
  | statRead (a b : Nat) : rq.body = .statRead a b → DirectAct p s rq (.statRead p) (statReadReply a b)
  | statReadSession (a b : Nat) (q : Port) : rq.body = .statRead a b →
      DirectAct p s rq (.statReadSession p) (sessionReply q)
  | statTake (a b : Nat) : rq.body = .statTake a b → DirectAct p s rq (.statTake p) (statTakeReply a b)

/-- The requests that run in their port's grant, with the row that runs each and the rule that answers it (R13). -/
inductive GrantedAct (p : Port) (v : View) (rq : RequestFrame) : Instr → Option Nat → (State → Reply) → Prop
  | resolve (g : GrantStep) (d : Nat) (k : Key) (cl : Bool) (h : Handle) : rq.body = .resolve d k cl h →
      GrantedAct p v rq (.resolve p g) g.upTo (resolveReply v p ⟨asDomain d, k, h, false, false⟩ cl g.failing)
  | claim (g : GrantStep) (d : Nat) (k : Key) (h : Handle) (pin force : Bool) : rq.body = .claim d k h pin force →
      GrantedAct p v rq (.claim p g) g.upTo (claimReply v p ⟨asDomain d, k, h, pin, force⟩ g.failing)
  | release (g : GrantStep) (d : Nat) (k : Key) : rq.body = .release d k →
      GrantedAct p v rq (.release p g) g.upTo (releaseReply v p (asDomain d) k g.failing)
  | touch (g : GrantStep) (d : Nat) (k : Key) : rq.body = .touch d k →
      GrantedAct p v rq (.touch p g) g.upTo (touchReply p (asDomain d) k g.failing)
  | readSlot (g : GrantStep) (i : Nat) : rq.body = .readSlot i →
      GrantedAct p v rq (.readSlot p g) g.upTo (readSlotReply i g.failing)
  | scan (g : GrantStep) (n a b c : Nat) (f : ScanFilter) : rq.body = .scanNext n a b c →
      scanFilterOf a b c = some f → GrantedAct p v rq (.scanNext p g) g.upTo (scanReply n f g.failing)
  | scanInvalid (g : GrantStep) (n a b c : Nat) : rq.body = .scanNext n a b c → scanFilterOf a b c = none →
      GrantedAct p v rq (.scanNext p g) g.upTo (fun t => refuse t .invalid)
  | ask (g : GrantStep) (d : Nat) (k : Key) (h : Handle) : rq.body = .handoverAsk d k h →
      GrantedAct p v rq (.handoverAsk p g) g.upTo (askReply v p rq.tag (asDomain d) k h g.failing)
  | replyGrant (g : GrantStep) (x n : Nat) : rq.body = .handoverReply x n →
      GrantedAct p v rq (.handoverReplyGrant p g) g.upTo
        (fun t => replyToTransfer p (asIndex x) g.failing t (settleGrant v (asIndex x)))
  | replyRefuse (g : GrantStep) (x : Nat) : rq.body = .handoverReply x 2 →
      GrantedAct p v rq (.handoverReplyRefuse p g) g.upTo
        (fun t => replyToTransfer p (asIndex x) g.failing t (settleRefuse (asIndex x)))
  | domainGet (d : Nat) : rq.body = .domainGet d →
      GrantedAct p v rq (.domainGet p) none (domainGetReply (asDomain d))
  | domainSet (d en cp : Nat) (ms ps ns : PortSet) (ac ll cap oa sb : Nat) (pol : Policy) :
      rq.body = .domainSet d en cp ms ps ns ac ll cap oa sb → policyOf en cp ms ps ns ac ll cap oa sb = some pol →
      GrantedAct p v rq (.domainSet p) none (domainSetReply (asDomain d) pol)
  | domainSetInvalid (d en cp : Nat) (ms ps ns : PortSet) (ac ll cap oa sb : Nat) :
      rq.body = .domainSet d en cp ms ps ns ac ll cap oa sb → policyOf en cp ms ps ns ac ll cap oa sb = none →
      GrantedAct p v rq (.domainSet p) none (fun t => refuse t .invalid)
  | hashSeed (x : Nat) : rq.body = .settingSet 1 x → GrantedAct p v rq (.settingSetHashSeed p) none (setHashSeed x)
  | quota (id x : Nat) (q : Port) : rq.body = .settingSet id x → quotaPortOf id = some q →
      GrantedAct p v rq (.settingSetQuota p) none (setQuota id x q)

/-- The bucket grants, with the row that runs each and what it does at one slot (R95). -/
inductive BucketAct (v : View) (j : Job) : Instr → Option Nat → (Nat → State → State) → Prop
  | sweep (g : GrantStep) : j.work = .sweep → BucketAct v j (.sweepBucket g) g.upTo (sweepSlot g.failing)
  | purge (g : GrantStep) (f : PurgeFilter) : j.work = .purge f →
      BucketAct v j (.purgeBucket g) g.upTo (purgeSlot f g.failing)
  | rewrite (g : GrantStep) : j.work = .clear → j.id ≠ 0 →
      BucketAct v j (.bucketRewrite g) g.upTo (rewriteSlot g.failing)
  | orphan (g : GrantStep) (p : Port) (c : LeaveCause) : j.work = .orphan p c →
      BucketAct v j (.orphanBucket g) g.upTo (orphanSlot v p g.failing)
  | startup (g : GrantStep) : j.work = .clear → j.id = 0 →
      BucketAct v j (.startupClearBucket g) g.upTo (startupSlot j.cursor g.failing)

/-- What a command does to a state: nothing, or what its row says. -/
inductive Effect : Instr → State → State → Prop
  | nothing (c : Instr) (s : State) : Effect c s s
  | direct (c : Instr) (s : State) (p : Port) (rq : RequestFrame) (act : State → Reply) :
      (s.port p).executor = .busy rq → DirectAct p s rq c act → Effect c s (s.answer s.view p rq act).arbitrate
  | abortWaits (s : State) (p : Port) : Effect (.abortJob p) s (s.addAbort p)
  | granted (c : Instr) (s : State) (p : Port) (rq : RequestFrame) (g : Grant) (u : Option Nat) (act : State → Reply) :
      s.grant = some g → g.client = .executor p → (s.port p).executor = .busy rq → GrantedAct p g.view rq c u act →
      Effect c s ((if g.begun then s else s.actRequest g.view p rq act).advance u)
  | bucket (c : Instr) (s : State) (g : Grant) (j : Job) (rest : List Job) (u : Option Nat) (f : Nat → State → State) :
      s.grant = some g → g.client = .maintenance → s.maintenance.queue = j :: rest → BucketAct g.view j c u f →
      Effect c s ((if g.begun then s else s.actBucket j f).advance u)
  | resolutionGoesOn (h : GrantStep) (s : State) (g : Grant) : s.grant = some g → g.client = .transferController →
      g.begun = true → Effect (.expiryResolution h) s (s.advance h.upTo)
  | resolution (h : GrantStep) (s : State) (g : Grant) (x : TransferIndex) (rest : List TransferIndex) :
      s.grant = some g → g.client = .transferController → g.begun = false → s.transfers.expiryList = x :: rest →
      Effect (.expiryResolution h) s (((resolveExpiry g.view x h.failing s).acted .resolution).advance h.upTo)
  | resetN (s : State) : Effect .resetN s (State.reset.withPending s.pending)
  | resetNRelease (s : State) : s.resetHeld = true → Effect .resetNRelease s (s.withResetHeld false).arbitrate
  | millitick (s : State) : s.resetHeld = false → Effect .millitick s s.milliTick
  | pacingWindowStart (s : State) (p : Port) : Effect (.pacingWindowStart p) s (s.startWindow p)
  | linkUp (s : State) (p : Port) : (s.port p).link = .down → Effect (.linkUp p) s (s.linkComesUp p)
  | linkLost (s : State) (p : Port) : (s.port p).link = .up → Effect (.linkLost p) s (s.linkIsLost p).arbitrate
  | frameArrival (s : State) (p : Port) (f : Frame) : (s.port p).link = .up →
      Effect (.frameArrival p f) s (s.frameArrives p f)
  | requestTake (s : State) (p : Port) (rq : RequestFrame) (rest : List RequestFrame) :
      (s.port p).executor = .idle → (s.port p).requestQueue = rq :: rest →
      (s.port p).responseQueue.length < Config.responseQueueSize →
      Effect (.requestTake p) s (s.takeRequest p rq rest).arbitrate
  | responseTransmit (s : State) (p : Port) (r : Response) : (s.port p).canTransmit = true →
      (s.port p).readyResponse = some r → Effect (.responseTransmit p) s (s.modifyPort p (fun c => c.beginResponse r))
  | noticeTransmit (s : State) (p : Port) (n : Notice) (rest : List Notice) : (s.port p).canTransmit = true →
      (s.noticePort p).queue = n :: rest → Effect (.noticeTransmit p) s (s.sendNotice p n)
  | frameTransmitEnd (s : State) (p : Port) (f : OutFrame) : (s.port p).transmitter = some f →
      Effect (.frameTransmitEnd p) s (s.frameSent p f)
  | keepaliveTimerExpiry (s : State) (p : Port) : Effect (.keepaliveTimerExpiry p) s (s.expireKeepalive p).arbitrate
  | refillTimerExpiry (s : State) (p : Port) : Effect (.refillTimerExpiry p) s (s.expireRefill p)
  | transferTimerExpiry (s : State) : Effect .transferTimerExpiry s s.expireNextTransfer.arbitrate
  | leaseTimerExpiry (s : State) : Effect .leaseTimerExpiry s s.expireLease
  | sweepTimerExpiry (s : State) : Effect .sweepTimerExpiry s s.expireSweep.arbitrate

theorem Effect.of_next {c : Instr} {s t : State} (h : (.next s : StepOutcome) = .next t) : Effect c s t :=
  Host.Outcome.next.inj h ▸ .nothing c s

/-- A row of `runDirect` does what its requests do. -/
theorem Effect.of_runDirect {c : Instr} {p : Port} {s t : State} {row : RequestFrame → Option (State → Reply)}
    (h : runDirect p s row = .next t) (hrow : ∀ rq act, row rq = some act → DirectAct p s rq c act) :
    Effect c s t := by
  rcases runDirect_cases h with rfl | ⟨rq, act, hrq, hact, rfl⟩
  · exact .nothing c t
  · exact .direct c s p rq act hrq (hrow rq act hact)

/-- A row of `runGranted` does what its requests do. -/
theorem Effect.of_runGranted {c : Instr} {p : Port} {s t : State} {u : Option Nat}
    {row : View → RequestFrame → Option (State → Reply)} (h : runGranted p s u row = .next t)
    (hrow : ∀ v rq act, row v rq = some act → GrantedAct p v rq c u act) : Effect c s t := by
  rcases runGranted_cases h with rfl | ⟨g, rq, act, hg, hc, hrq, hact, rfl⟩
  · exact .nothing c t
  · exact .granted c s p rq g u act hg hc hrq (hrow g.view rq act hact)

/-- A row of `runBucket` does what its jobs do. -/
theorem Effect.of_runBucket {c : Instr} {s t : State} {u : Option Nat} {row : View → Job → Option (Nat → State → State)}
    (h : runBucket s u row = .next t) (hrow : ∀ v j f, row v j = some f → BucketAct v j c u f) : Effect c s t := by
  rcases runBucket_cases h with rfl | ⟨g, j, rest, f, hg, hc, hq, hf, rfl⟩
  · exact .nothing c t
  · exact .bucket c s g j rest u f hg hc hq (hrow g.view j f hf)

theorem exec_abortJob_effect {p : Port} {s t : State} (h : execAbortJob p s = .next t) : Effect (.abortJob p) s t := by
  unfold execAbortJob at h
  split at h
  · exact .of_next h
  next hw =>
    split at h
    next rq hrq =>
      split at h
      next id hb =>
        split at h
        · exact Host.Outcome.next.inj h ▸ .abortWaits s p
        next ha =>
          refine Host.Outcome.next.inj h ▸ .direct _ s p rq _ hrq (.abort id hb ?_ (by simpa using ha))
          simpa using hw
      · exact .of_next h
    · exact .of_next h

/-- Every command does what `Effect` lists. -/
theorem exec_effect {c : Instr} {s t : State} (h : exec c s = .next t) : Effect c s t := by
  cases c with
  | resetN => exact Host.Outcome.next.inj h ▸ .resetN s
  | resetNRelease =>
    change execResetNRelease s = _ at h
    unfold execResetNRelease at h
    split at h
    next hr => exact Host.Outcome.next.inj h ▸ .resetNRelease s hr
    · exact .of_next h
  | millitick =>
    change execMillitick s = _ at h
    unfold execMillitick at h
    split at h
    · exact .of_next h
    next hr => exact Host.Outcome.next.inj h ▸ .millitick s (by simpa using hr)
  | pacingWindowStart p => exact Host.Outcome.next.inj h ▸ .pacingWindowStart s p
  | linkUp p =>
    change execLinkUp p s = _ at h
    unfold execLinkUp at h
    split at h
    next hl => exact Host.Outcome.next.inj h ▸ .linkUp s p hl.1
    · exact .of_next h
  | linkLost p =>
    change execLinkLost p s = _ at h
    unfold execLinkLost at h
    split at h
    next hl => exact Host.Outcome.next.inj h ▸ .linkLost s p hl
    · exact .of_next h
  | frameArrival p f =>
    change execFrameArrival p f s = _ at h
    unfold execFrameArrival at h
    split at h
    next hl => exact Host.Outcome.next.inj h ▸ .frameArrival s p f hl
    · exact .of_next h
  | requestTake p =>
    change execRequestTake p s = _ at h
    unfold execRequestTake at h
    split at h
    next rq rest hi hq =>
      split at h
      next hl => exact Host.Outcome.next.inj h ▸ .requestTake s p rq rest hi hq hl
      · exact .of_next h
    · exact .of_next h
  | responseTransmit p =>
    change execResponseTransmit p s = _ at h
    unfold execResponseTransmit at h
    split at h
    next r hc hr => exact Host.Outcome.next.inj h ▸ .responseTransmit s p r hc hr
    · exact .of_next h
  | noticeTransmit p =>
    change execNoticeTransmit p s = _ at h
    unfold execNoticeTransmit at h
    split at h
    next n rest hc _ _ hq => exact Host.Outcome.next.inj h ▸ .noticeTransmit s p n rest hc hq
    · exact .of_next h
  | frameTransmitEnd p =>
    change execFrameTransmitEnd p s = _ at h
    unfold execFrameTransmitEnd at h
    split at h
    next f hf => exact Host.Outcome.next.inj h ▸ .frameTransmitEnd s p f hf
    · exact .of_next h
  | attach p | detach p | keepalive p | evict p | unknownRequestKind p | sweep p | purge p | clear p | jobStatus p
  | settingGet p | leaseTake p | leaseRenew p | leaseDrop p | statTake p =>
    refine .of_runDirect h fun rq act hact => ?_
    split at hact
    next hb =>
      cases hact
      constructor
      exact hb
    · cases hact
  | settingSetTimebaseDivider p =>
    refine .of_runDirect h fun rq act hact => ?_
    split at hact
    next id x hb =>
      split at hact
      next hid => cases hact; exact .timebaseDivider x (hid ▸ hb)
      · split at hact
        next hv => cases hact; exact .unknownSetting id x hb (by simpa using hv)
        · cases hact
    · cases hact
  | settingSetSweepInterval p | settingSetTransferTimeout p | settingSetCreditCapacity p | settingSetRefillAmount p
  | settingSetRefillInterval p =>
    refine .of_runDirect h fun rq act hact => ?_
    split at hact
    next id x hb =>
      split at hact
      next hid => subst hid; cases hact; constructor; exact hb
      · cases hact
    · cases hact
  | statRead p =>
    refine .of_runDirect h fun rq act hact => ?_
    split at hact
    next a b hb =>
      split at hact
      · cases hact
      · cases hact; exact .statRead a b hb
    · cases hact
  | statReadSession p =>
    refine .of_runDirect h fun rq act hact => ?_
    split at hact
    next a b hb =>
      obtain ⟨q, -, rfl⟩ := Option.map_eq_some_iff.1 hact
      exact .statReadSession a b q hb
    · cases hact
  | abortJob p => exact exec_abortJob_effect h
  | resolve p g | claim p g | release p g | touch p g | readSlot p g | handoverAsk p g | domainGet p =>
    dsimp only [exec, execResolve, execClaim, execRelease, execTouch, execReadSlot, execHandoverAsk, execDomainGet] at h
    refine .of_runGranted h fun v rq act hact => ?_
    split at hact
    next hb =>
      cases hact
      constructor
      exact hb
    · cases hact
  | scanNext p g =>
    dsimp only [exec, execScanNext] at h
    refine .of_runGranted h fun v rq act hact => ?_
    split at hact
    next n a b c hb =>
      cases hact
      cases hf : scanFilterOf a b c with
      | none => exact .scanInvalid g n a b c hb hf
      | some f => exact .scan g n a b c f hb hf
    · cases hact
  | handoverReplyGrant p g =>
    dsimp only [exec, execHandoverReplyGrant] at h
    refine .of_runGranted h fun v rq act hact => ?_
    split at hact
    next x n hb =>
      split at hact
      · cases hact
      · cases hact; exact .replyGrant g x n hb
    · cases hact
  | handoverReplyRefuse p g =>
    dsimp only [exec, execHandoverReplyRefuse] at h
    refine .of_runGranted h fun v rq act hact => ?_
    split at hact
    next x n hb =>
      split at hact
      next hn => subst hn; cases hact; exact .replyRefuse g x hb
      · cases hact
    · cases hact
  | domainSet p =>
    dsimp only [exec, execDomainSet] at h
    refine .of_runGranted h fun v rq act hact => ?_
    split at hact
    next d en cp ms ps ns ac ll cap oa sb hb =>
      cases hact
      cases hp : policyOf en cp ms ps ns ac ll cap oa sb with
      | none => exact .domainSetInvalid d en cp ms ps ns ac ll cap oa sb hb hp
      | some pol => exact .domainSet d en cp ms ps ns ac ll cap oa sb pol hb hp
    · cases hact
  | settingSetHashSeed p =>
    dsimp only [exec, execSettingSetHashSeed] at h
    refine .of_runGranted h fun v rq act hact => ?_
    split at hact
    next id x hb =>
      split at hact
      next hid => subst hid; cases hact; exact .hashSeed x hb
      · cases hact
    · cases hact
  | settingSetQuota p =>
    dsimp only [exec, execSettingSetQuota] at h
    refine .of_runGranted h fun v rq act hact => ?_
    split at hact
    next id x hb =>
      obtain ⟨q, hq, rfl⟩ := Option.map_eq_some_iff.1 hact
      exact .quota id x q hb hq
    · cases hact
  | keepaliveTimerExpiry p => exact Host.Outcome.next.inj h ▸ .keepaliveTimerExpiry s p
  | refillTimerExpiry p => exact Host.Outcome.next.inj h ▸ .refillTimerExpiry s p
  | transferTimerExpiry => exact Host.Outcome.next.inj h ▸ .transferTimerExpiry s
  | leaseTimerExpiry => exact Host.Outcome.next.inj h ▸ .leaseTimerExpiry s
  | sweepTimerExpiry => exact Host.Outcome.next.inj h ▸ .sweepTimerExpiry s
  | expiryResolution g =>
    dsimp only [exec, execExpiryResolution] at h
    rcases runResolution_cases h with rfl | ⟨r, hg, hc, ⟨hb, rfl⟩ | ⟨x, rest, hb, hx, rfl⟩⟩
    · exact .nothing _ t
    · exact .resolutionGoesOn g s r hg hc hb
    · exact .resolution g s r x rest hg hc hb hx
  | sweepBucket g | purgeBucket g | orphanBucket g =>
    dsimp only [exec, execSweepBucket, execPurgeBucket, execOrphanBucket] at h
    refine .of_runBucket h fun v j f hf => ?_
    split at hf
    next hw =>
      cases hf
      constructor
      exact hw
    · cases hf
  | bucketRewrite g =>
    dsimp only [exec, execBucketRewrite] at h
    refine .of_runBucket h fun v j f hf => ?_
    split at hf
    next hw =>
      split at hf
      · cases hf
      next hid => cases hf; exact .rewrite g hw hid
    · cases hf
  | startupClearBucket g =>
    dsimp only [exec, execStartupClearBucket] at h
    refine .of_runBucket h fun v j f hf => ?_
    split at hf
    next hw =>
      split at hf
      next hid => cases hf; exact .startup g hw hid
      · cases hf
    · cases hf

/-! ### The course of a step -/

/-- A step is the effect of the front command, or what `State.idle` does. -/
theorem step_cases {s t : State} (h : step s = .next t) :
    t = s.idle ∨ ∃ c rest, Effect c (s.withPending rest) t := by
  unfold step at h
  split at h
  · exact .inl (Host.Outcome.next.inj h).symm
  next c rest _ => exact .inr ⟨c, rest, exec_effect h⟩

/-- Without a command a step does nothing, ends the grant in progress, delivers what is due, or lets a period pass. -/
theorem State.idle_cases (s : State) :
    s.idle = s ∨ (s.resetHeld = false ∧ s.midGrant = true ∧ s.idle = s.advance none)
      ∨ (s.resetHeld = false ∧ s.idle = s.deliverDue.arbitrate) ∨ (s.resetHeld = false ∧ s.idle = s.milliTick)
      ∨ s.idle = s.withTimebase { s.timebase with periodCount := s.timebase.periodCount + 1 } := by
  unfold State.idle
  split
  · exact .inl rfl
  next hr =>
    have hr' : s.resetHeld = false := by simpa using hr
    split
    next hm => exact .inr (.inl ⟨hr', hm, rfl⟩)
    · split
      · exact .inr (.inr (.inl ⟨hr', rfl⟩))
      · unfold State.refclkPeriod
        split
        · exact .inr (.inr (.inr (.inl ⟨hr', rfl⟩)))
        · exact .inr (.inr (.inr (.inr rfl)))

end Sys2Proof.Machine
end

section
/-! SUPPORT. The job queue, said once: what a job's finish, the end of a bucket and the end of a grant leave of the
Maintenance Engine, of READY and of the Port Controllers. -/

namespace Sys2Proof.Machine

/-! ### Records and cancelled jobs -/

/-- A history with one more record (R99). -/
def pushRecord (h : List JobRecord) (r : JobRecord) : List JobRecord := (if h.length < 8 then h else h.tail) ++ [r]

theorem historyAfter_cons (h : List JobRecord) (r : JobRecord) (rs : List JobRecord) :
    historyAfter h (r :: rs) = historyAfter (pushRecord h r) rs := rfl

theorem State.recordJob_maintenance (s : State) (r : JobRecord) :
    (s.recordJob r).maintenance = { s.maintenance with history := pushRecord s.maintenance.history r } := rfl

theorem State.closeJob_maintenance (s : State) (o : JobOutcome) (j : Job) :
    (s.closeJob o j).maintenance
      = { s.maintenance with history := pushRecord s.maintenance.history (j.record o) } := by
  simp [State.closeJob, State.recordJob_maintenance]

theorem State.closeJobs_maintenance (s : State) (l : List Job) :
    (l.foldl (fun t c => t.closeJob .cancelled c) s).maintenance
      = { s.maintenance with
          history := historyAfter s.maintenance.history (l.map (fun c => c.record .cancelled)) } := by
  induction l generalizing s with
  | nil => rfl
  | cons c rest ih => rw [List.foldl_cons, ih, State.closeJob_maintenance, List.map_cons, historyAfter_cons]

/-- A CLEAR cancels the jobs that yield to it (R111). -/
theorem Job.cancelledByClear_eq (j : Job) : j.cancelledByClear = j.work.yieldsToClear := rfl

theorem JobWork.kind_eq_clear {w : JobWork} : w.kind = .clear ↔ w = .clear := by cases w <;> simp [JobWork.kind]

theorem JobWork.kind_eq_sweep {w : JobWork} : w.kind = .sweep ↔ w = .sweep := by cases w <;> simp [JobWork.kind]

theorem JobWork.kind_ne_orphan {w : JobWork} : w.kind ≠ .orphan ↔ ∀ p c, w ≠ .orphan p c := by
  cases w <;> simp [JobWork.kind]

/-- The next head becomes RUNNING: the queue keeps what a CLEAR does not cancel, and the history gains the rest (R111). -/
theorem State.startHead_maintenance (s : State) :
    s.startHead.maintenance = { s.maintenance with
      queue := keptJobs s.maintenance.queue
      history := historyAfter s.maintenance.history
        ((cancelledJobs s.maintenance.queue).map (fun c => c.record .cancelled)) } := by
  unfold State.startHead
  split
  next j rest hq =>
    by_cases hc : j.work.kind = .clear
    · have hw := JobWork.kind_eq_clear.1 hc
      have hcan : Job.cancelledByClear = fun c => c.work.yieldsToClear := funext Job.cancelledByClear_eq
      rw [if_pos hc, State.closeJobs_maintenance, hq]
      simp [keptJobs, cancelledJobs, hw, State.withQueue, hcan]
    · have hw : j.work ≠ .clear := fun h => hc (JobWork.kind_eq_clear.2 h)
      have hk : keptJobs (j :: rest) = j :: rest := by simp [keptJobs, hw]
      have hn : cancelledJobs (j :: rest) = [] := by simp [cancelledJobs, hw]
      rw [if_neg hc, hq, hk, hn, ← hq]
      rfl
  next hq =>
    rw [hq]
    change s.maintenance = { s.maintenance with queue := [] }
    rw [← hq]

/-! ### The finish of the head job -/

/-- The port whose drain a finish ends (R152). -/
def Job.drains (j : Job) (o : JobOutcome) : Option Port :=
  match j.work, o with
  | .orphan p _, .done => some p
  | _, _ => none

/-- The Port Controllers after the drain of a port has ended, if one ends. -/
def PerPort.afterDrain (v : PerPort PortController) : Option Port → PerPort PortController
  | some p => v.set p { v.get p with session := .offline }
  | none => v

theorem State.afterFinish_maintenance (s : State) (j : Job) (o : JobOutcome) :
    (s.afterFinish j o).maintenance = s.maintenance := by simp

theorem State.afterFinish_ports (s : State) (j : Job) (o : JobOutcome) :
    (s.afterFinish j o).ports = s.ports.afterDrain (j.drains o) := by
  unfold State.afterFinish Job.drains
  cases hw : j.work <;> cases o <;> simp [PerPort.afterDrain, State.endDrain, State.modifyPort]
  split <;> simp

theorem State.afterFinish_ready (s : State) (j : Job) (o : JobOutcome) :
    (s.afterFinish j o).ready
      = (s.ready || (decide (o = .done) && decide (j.work = .clear) && decide (j.id = 0))) := by
  unfold State.afterFinish
  cases hw : j.work <;> cases o <;> simp [State.endDrain]
  split <;> simp_all

theorem State.finishHead_maintenance {s : State} {j : Job} {rest : List Job} (h : s.maintenance.queue = j :: rest)
    (o : JobOutcome) :
    (s.finishHead o).maintenance = { s.maintenance with
      queue := keptJobs rest
      history := historyAfter s.maintenance.history
        (j.record o :: (cancelledJobs rest).map (fun c => c.record .cancelled)) } := by
  simp only [State.finishHead, h, State.startHead_maintenance, State.afterFinish_maintenance,
    State.closeJob_maintenance, historyAfter_cons]
  simp [State.withQueue]

theorem State.finishHead_ports {s : State} {j : Job} {rest : List Job} (h : s.maintenance.queue = j :: rest)
    (o : JobOutcome) : (s.finishHead o).ports = s.ports.afterDrain (j.drains o) := by
  simp [State.finishHead, h, State.afterFinish_ports]

theorem State.finishHead_ready {s : State} {j : Job} {rest : List Job} (h : s.maintenance.queue = j :: rest)
    (o : JobOutcome) : (s.finishHead o).ready
      = (s.ready || (decide (o = .done) && decide (j.work = .clear) && decide (j.id = 0))) := by
  simp [State.finishHead, h, State.afterFinish_ready]

/-! ### Answers to waiting requests -/

/-- A Port Controller is as it was, or its BUSY executor has answered its request (R124). -/
def PortController.MaybeAnswered (c d : PortController) : Prop :=
  d = c ∨ ∃ rq r, c.executor = .busy rq ∧ d = c.answered r

theorem PortController.MaybeAnswered.refl (c : PortController) : c.MaybeAnswered c := .inl rfl

theorem PortController.MaybeAnswered.trans {a b c : PortController} (h : a.MaybeAnswered b) (k : b.MaybeAnswered c) :
    a.MaybeAnswered c := by
  rcases h with rfl | ⟨rq, r, ha, rfl⟩
  · exact k
  · rcases k with rfl | ⟨rq', r', hb, rfl⟩
    · exact .inr ⟨rq, r, ha, rfl⟩
    · cases hb

theorem State.respond_port (s : State) (p : Port) (rq : RequestFrame) (st : Status) (res : Result) (q : Port) :
    (s.respond p rq st res).port q
      = if q = p then (s.port p).answered ⟨rq.kind, rq.tag, st, res⟩ else s.port q := by
  simp [State.port, State.respond_ports, PerPort.get_set]

theorem State.respond_maybeAnswered {s : State} {p : Port} {rq : RequestFrame} (h : (s.port p).executor = .busy rq)
    (st : Status) (res : Result) (q : Port) : (s.port q).MaybeAnswered ((s.respond p rq st res).port q) := by
  rw [State.respond_port]
  split
  next hq => exact .inr ⟨rq, _, hq ▸ h, by rw [hq]⟩
  · exact .refl _

theorem State.answerAbort_maybeAnswered (s : State) (st : Status) (res : Result) (p q : Port) :
    (s.port q).MaybeAnswered ((s.answerAbort st res p).port q) := by
  unfold State.answerAbort
  split
  next rq hrq =>
    split
    · exact State.respond_maybeAnswered hrq st res q
    · exact .refl _
  · exact .refl _

theorem State.answerAborts_maybeAnswered (s : State) (l : List Port) (st : Status) (res : Result) (q : Port) :
    (s.port q).MaybeAnswered ((l.foldl (fun t p => t.answerAbort st res p) s).port q) := by
  induction l generalizing s with
  | nil => exact .refl _
  | cons p rest ih => exact (s.answerAbort_maybeAnswered st res p q).trans (ih _)

theorem State.endRequest_maybeAnswered (s : State) (p : Port) (st : Status) (res : Result) (q : Port) :
    (s.port q).MaybeAnswered ((s.endRequest p st res).port q) := by
  unfold State.endRequest
  split
  next rq hrq => exact State.respond_maybeAnswered hrq st res q
  · exact .refl _

theorem State.refuseAborts_maintenance (s : State) :
    s.refuseAborts.maintenance = { s.maintenance with abortWaiting := [] } := by
  unfold State.refuseAborts
  simp [State.clearAborts]

theorem State.refuseAborts_maybeAnswered (s : State) (q : Port) : (s.port q).MaybeAnswered (s.refuseAborts.port q) :=
  s.clearAborts.answerAborts_maybeAnswered _ _ _ q

@[simp] theorem State.refuseAborts_ready (s : State) : s.refuseAborts.ready = s.ready := by
  simp [State.refuseAborts]

/-! ### The end of a bucket -/

/-- What the end of a grant can leave of the Maintenance Engine, with the port whose drain it ends: the engine as it was
but for the ABORT_JOBs that wait; the head job with other counts and its cursor where it was or one further; or the head
job finished, DONE or, if it may be ended, ABORTED (R95, R98, R111, R114). -/
inductive Maintenance.GoesOn (m : Maintenance) : Maintenance → Option Port → Prop
  | same (l : List Port) : m.GoesOn { m with abortWaiting := l } none
  | head (j : Job) (rest : List Job) (k : JobCounts) (n : Nat) (l : List Port) : m.queue = j :: rest →
      n = j.cursor ∨ (n = j.cursor + 1 ∧ n < 2048) →
      m.GoesOn { m with queue := { j with cursor := n, counts := k } :: rest, abortWaiting := l } none
  | finish (j : Job) (rest : List Job) (o : JobOutcome) (rs : List JobRecord) (l : List Port) : m.queue = j :: rest →
      o = .done ∨ (o = .aborted ∧ j.abortable = true) →
      m.GoesOn { m with queue := keptJobs rest, history := historyAfter m.history rs, abortWaiting := l } (j.drains o)

/-- What the end of a grant leaves of the engine and of the Port Controllers. -/
def State.Ends (s t : State) : Prop :=
  ∃ d, s.maintenance.GoesOn t.maintenance d
    ∧ ∀ q, ((s.ports.afterDrain d).get q).MaybeAnswered (t.port q)

theorem State.Ends.refl (s : State) : s.Ends s := ⟨none, .same _, fun _ => .refl _⟩

theorem State.Ends.of_eq {s t : State} (hm : t.maintenance = s.maintenance)
    (hp : ∀ q, (s.port q).MaybeAnswered (t.port q)) : s.Ends t :=
  ⟨none, hm ▸ .same _, hp⟩

/-- The drain that a job's finish ends depends on its work alone. -/
theorem Job.drains_congr {j k : Job} (h : k.work = j.work) (o : JobOutcome) : k.drains o = j.drains o := by
  unfold Job.drains
  rw [h]

theorem State.modifyHeadJob_maintenance {s : State} {j : Job} {rest : List Job} (h : s.maintenance.queue = j :: rest)
    (f : Job → Job) : (s.modifyHeadJob f).maintenance = { s.maintenance with queue := f j :: rest } := by
  simp [State.modifyHeadJob, h, State.withQueue]

theorem State.modifyCounts_maintenance {s : State} {j : Job} {rest : List Job} (h : s.maintenance.queue = j :: rest)
    (f : JobCounts → JobCounts) :
    (s.modifyCounts f).maintenance = { s.maintenance with queue := { j with counts := f j.counts } :: rest } :=
  State.modifyHeadJob_maintenance h _

theorem Job.drains_aborted (j : Job) : j.drains .aborted = none := by
  unfold Job.drains
  split <;> simp_all

/-- The end of a bucket's grant, with the counts of its job (R95, R98, R114). -/
theorem State.endBucket_ends {s : State} {j : Job} {rest : List Job} (h : s.maintenance.queue = j :: rest)
    (k : JobCounts) : s.Ends (s.modifyCounts (fun _ => k)).endBucket := by
  have hm := State.modifyCounts_maintenance h (fun _ => k)
  have hports : (s.modifyCounts (fun _ => k)).ports = s.ports := by simp
  generalize s.modifyCounts (fun _ => k) = s1 at hm hports
  have hq : s1.maintenance.queue = { j with counts := k } :: rest := by rw [hm]
  unfold State.endBucket
  rw [hq]
  dsimp only
  split
  · refine ⟨j.drains .done, ?_, fun q => ?_⟩
    · rw [State.refuseAborts_maintenance, State.finishHead_maintenance hq, hm]
      exact .finish j rest .done _ [] h (.inl rfl)
    · have := (s1.finishHead .done).refuseAborts_maybeAnswered q
      rwa [State.port, State.finishHead_ports hq, hports] at this
  next hlast =>
    have hlt : j.cursor + 1 < 2048 := by
      simp only [Config.buckets] at hlast
      omega
    have hm2 := State.modifyHeadJob_maintenance hq (fun h => { h with cursor := h.cursor + 1 })
    have hports2 : (s1.modifyHeadJob (fun h => { h with cursor := h.cursor + 1 })).ports = s.ports := by
      simp [hports]
    generalize s1.modifyHeadJob (fun h => { h with cursor := h.cursor + 1 }) = s2 at hm2 hports2
    have hhead : ∀ l, s.maintenance.GoesOn { s2.maintenance with abortWaiting := l } none := fun l => by
      rw [hm2, hm]
      exact .head j rest k (j.cursor + 1) l h (.inr ⟨rfl, hlt⟩)
    have hq2 : s2.maintenance.queue = { j with cursor := j.cursor + 1, counts := k } :: rest := by rw [hm2]
    unfold State.stopIfAborted
    rw [hq2]
    split
    next j' _ p l he ha =>
      obtain ⟨rfl, rfl⟩ := List.cons.inj he
      split
      next hab =>
        refine ⟨none, ?_, fun q => ?_⟩
        · have hc : s2.clearAborts.maintenance.queue = { j with cursor := j.cursor + 1, counts := k } :: rest := hq2
          simp only [State.answerAborts_frame, State.answerAbort_frame, State.finishHead_maintenance hc]
          rw [show (State.clearAborts s2).maintenance = { s2.maintenance with abortWaiting := [] } from rfl, hm2, hm]
          rw [← Job.drains_aborted j]
          exact .finish j rest .aborted _ [] h (.inr ⟨rfl, hab⟩)
        · have hc : s2.clearAborts.maintenance.queue = { j with cursor := j.cursor + 1, counts := k } :: rest := hq2
          have hp : (s2.clearAborts.finishHead .aborted).ports = s.ports := by
            rw [State.finishHead_ports hc, Job.drains_aborted]
            exact hports2
          refine PortController.MaybeAnswered.trans ?_ (State.answerAborts_maybeAnswered _ l _ _ q)
          have := (s2.clearAborts.finishHead .aborted).answerAbort_maybeAnswered .ok
            (.stopped j.id (j.cursor + 1) k) p q
          rwa [State.port, hp] at this
      · refine ⟨none, ?_, fun q => ?_⟩
        · rw [State.refuseAborts_maintenance]
          exact hhead []
        · have := s2.refuseAborts_maybeAnswered q
          rwa [State.port, hports2] at this
    · exact ⟨none, hhead _, fun q => by rw [State.port, hports2]; exact .refl _⟩

theorem State.conclude_ends (s : State) (c : Client) (e : Ending) : s.Ends (s.conclude c e) := by
  cases c with
  | executor p =>
    cases e with
    | response st res =>
      exact .of_eq (by simp [State.conclude]) (s.endRequest_maybeAnswered p st res)
    | bucket k => exact .refl s
    | resolution => exact .refl s
  | maintenance =>
    cases e with
    | bucket k =>
      cases hq : s.maintenance.queue with
      | nil =>
        have : (s.modifyCounts (fun _ => k)).endBucket = s := by
          simp [State.modifyCounts, State.modifyHeadJob, State.endBucket, hq]
        change s.Ends (s.modifyCounts (fun _ => k)).endBucket
        rw [this]
        exact .refl s
      | cons j rest => exact State.endBucket_ends hq k
    | response st res => exact .refl s
    | resolution => exact .refl s
  | transferController => exact .refl s

/-- The end of a grant, or a part of one. -/
theorem State.advance_ends (s : State) (u : Option Nat) : s.Ends (s.advance u) := by
  have hfin : ∀ t : State, t.Ends t.finishGrant := fun t => by
    unfold State.finishGrant
    split
    next g _ =>
      split
      next e _ =>
        obtain ⟨d, hm, hp⟩ := t.conclude_ends g.client e
        exact ⟨d, by simpa using hm, by simpa using hp⟩
      · exact .refl t
    · exact .refl t
  unfold State.advance
  split
  next g hg =>
    dsimp only
    generalize hl : (g.reports.take (u.getD (g.reports.length + 1))) = l
    generalize hg' : (some { g with reports := g.reports.drop (u.getD (g.reports.length + 1)) }) = g'
    have hm : (l.foldl State.deliver (s.withGrant g')).maintenance = s.maintenance := by simp
    have hp : (l.foldl State.deliver (s.withGrant g')).ports = s.ports := by simp
    split
    · obtain ⟨d, hm', hp'⟩ := hfin (l.foldl State.deliver (s.withGrant g'))
      exact ⟨d, hm ▸ hm', hp ▸ hp'⟩
    · exact .of_eq hm fun q => by rw [State.port, State.port, hp]; exact .refl _
  · exact .refl s

end Sys2Proof.Machine
end

section
/-! SUPPORT. What the operation of a grant leaves of everything but the directory: its client and what it read, with more
reports behind the ones it had; the Maintenance Engine, the Notice Unit and the counters as they were; and of the Port
Controllers at most a credit taken. -/

namespace Sys2Proof.Machine

/-! ### Reports -/

/-- The grant in progress has at most gained reports (R15). -/
def State.Reports (s t : State) : Prop :=
  ∃ l, t.grant = s.grant.map (fun g => { g with reports := g.reports ++ l })

theorem State.Reports.of_eq {s t : State} (h : t.grant = s.grant) : s.Reports t :=
  ⟨[], by rw [h]; cases s.grant <;> simp⟩

theorem State.Reports.refl (s : State) : s.Reports s := .of_eq rfl

theorem State.Reports.trans {s t u : State} (h : s.Reports t) (k : t.Reports u) : s.Reports u := by
  obtain ⟨l, hl⟩ := h
  obtain ⟨m, hm⟩ := k
  exact ⟨l ++ m, by rw [hm, hl]; cases s.grant <;> simp⟩

theorem State.Reports.report {s t : State} (h : s.Reports t) (r : Report) : s.Reports (t.report r) :=
  h.trans ⟨[r], rfl⟩

theorem State.Reports.notify {s t : State} (h : s.Reports t) (a : Audience) (n : Notice) :
    s.Reports (t.notifyInGrant a n) := h.report _

theorem State.Reports.count {s t : State} (h : s.Reports t) (c : CounterId) : s.Reports (t.countInGrant c) :=
  h.report _

theorem State.Reports.then {s t u : State} (h : s.Reports t) (k : u.grant = t.grant) : s.Reports u :=
  h.trans (.of_eq k)

theorem State.endTransfer_reports (s : State) (i : TransferIndex) (t : Transfer) (o : TransferOutcome) (d : DomainId)
    (k : Key) : s.Reports (s.endTransfer i t o d k) :=
  ((((State.Reports.refl s).then (u := s.freeEntry i) rfl).notify _ _).notify _ _).count _

theorem State.endTransferOf_reports (s : State) (b : Binding) (o : TransferOutcome) :
    s.Reports (s.endTransferOf b o) := by
  unfold State.endTransferOf
  split
  · split
    · exact s.endTransfer_reports _ _ _ _ _
    · exact .refl s
  · exact .refl s
  · exact .refl s

theorem State.loseBinding_reports (s : State) (i : Nat) (b : Binding) : s.Reports (s.loseBinding i b) :=
  (((State.Reports.refl s).then (by simp)).trans (State.endTransferOf_reports (s.countRemoval b) b _)).notify _ _

theorem State.slotFails_reports (s : State) (i : Nat) : s.Reports (s.slotFails i) := by
  have h : s.Reports ((s.writeSlot i .defective).modifyDefective (· + 1)) := .of_eq rfl
  unfold State.slotFails
  dsimp only
  split
  · exact ((h.trans (State.loseBinding_reports _ i _)).notify _ _).count _
  all_goals exact (h.notify _ _).count _

theorem State.lookupIn_reports (s : State) (f : List Nat) (d : DomainId) (k : Key) (l : List Nat) :
    s.Reports (s.lookupIn f d k l).1 := by
  induction l generalizing s with
  | nil => exact .refl s
  | cons i rest ih =>
    unfold State.lookupIn
    split
    · split
      · exact (s.slotFails_reports i).trans (ih _)
      · split
        · exact .refl s
        · exact ih s
    all_goals exact ih s

theorem State.freeWayIn_reports (s : State) (f l : List Nat) : s.Reports (s.freeWayIn f l).1 := by
  induction l generalizing s with
  | nil => exact .refl s
  | cons i rest ih =>
    unfold State.freeWayIn
    split
    · split
      · exact (s.slotFails_reports i).trans (ih _)
      · exact .refl s
    all_goals exact ih s

theorem State.scanIn_reports (s : State) (f : List Nat) (x : ScanFilter) (l : List Nat) :
    s.Reports (s.scanIn f x l).1 := by
  induction l generalizing s with
  | nil => exact .refl s
  | cons i rest ih =>
    unfold State.scanIn
    split
    · split
      · exact (s.slotFails_reports i).trans (ih _)
      · split
        · exact .refl s
        · exact ih s
    all_goals exact ih s

/-! ### Policies -/

/-- Changing a domain record but for its policy leaves every policy (R54). -/
theorem State.modifyDomain_policies (s : State) (d : DomainId) {f : Domain → Domain}
    (hf : ∀ r, (f r).policy = r.policy) :
    (s.modifyDomain d f).domains.map Domain.policy = s.domains.map Domain.policy := by
  simp only [State.modifyDomain, State.withDomains_domains, Vector.map_set, hf]
  exact Vector.ext fun i hi => by
    by_cases h : d.val = i
    · subst h; simp [Vector.get_eq_getElem]
    · simp [Vector.getElem_set_ne, h]

@[simp] theorem State.modifyCount_policies (s : State) (d : DomainId) (f : Nat → Nat) :
    (s.modifyCount d f).domains.map Domain.policy = s.domains.map Domain.policy :=
  s.modifyDomain_policies d fun _ => rfl

@[simp] theorem State.modifyOrphans_policies (s : State) (d : DomainId) (f : Nat → Nat) :
    (s.modifyOrphans d f).domains.map Domain.policy = s.domains.map Domain.policy :=
  State.modifyDomain_policies (s.withDirectory { s.directory with orphanTotal := f s.directory.orphanTotal }) d
    fun _ => rfl

@[simp] theorem State.countCreation_policies (s : State) (d : DomainId) (q : Port) :
    (s.countCreation d q).domains.map Domain.policy = s.domains.map Domain.policy := by
  simp [State.countCreation]

@[simp] theorem State.countRemoval_policies (s : State) (b : Binding) :
    (s.countRemoval b).domains.map Domain.policy = s.domains.map Domain.policy := by
  unfold State.countRemoval
  split <;> simp

@[simp] theorem State.countHold_policies (s : State) (p : Port) (d : DomainId) :
    (s.countHold p d).domains.map Domain.policy = s.domains.map Domain.policy := by simp [State.countHold]

@[simp] theorem State.countOrphanAdoption_policies (s : State) (q : Port) (d : DomainId) :
    (s.countOrphanAdoption q d).domains.map Domain.policy = s.domains.map Domain.policy := by
  simp [State.countOrphanAdoption]

@[simp] theorem State.removeBinding_policies (s : State) (i : Nat) (b : Binding) :
    (s.removeBinding i b).domains.map Domain.policy = s.domains.map Domain.policy := by simp [State.removeBinding]

@[simp] theorem State.loseBinding_policies (s : State) (i : Nat) (b : Binding) :
    (s.loseBinding i b).domains.map Domain.policy = s.domains.map Domain.policy := by simp [State.loseBinding]

@[simp] theorem State.slotFails_policies (s : State) (i : Nat) :
    (s.slotFails i).domains.map Domain.policy = s.domains.map Domain.policy := by
  unfold State.slotFails
  dsimp only
  split <;> simp

@[simp] theorem State.lookupIn_policies (s : State) (f : List Nat) (d : DomainId) (k : Key) (l : List Nat) :
    (s.lookupIn f d k l).1.domains.map Domain.policy = s.domains.map Domain.policy := by
  induction l generalizing s with
  | nil => rfl
  | cons i rest ih =>
    unfold State.lookupIn
    split
    · split
      · simp [ih]
      · split
        · rfl
        · exact ih s
    all_goals exact ih s

@[simp] theorem State.freeWayIn_policies (s : State) (f l : List Nat) :
    (s.freeWayIn f l).1.domains.map Domain.policy = s.domains.map Domain.policy := by
  induction l generalizing s with
  | nil => rfl
  | cons i rest ih =>
    unfold State.freeWayIn
    split
    · split
      · simp [ih]
      · rfl
    all_goals exact ih s

@[simp] theorem State.scanIn_policies (s : State) (f : List Nat) (x : ScanFilter) (l : List Nat) :
    (s.scanIn f x l).1.domains.map Domain.policy = s.domains.map Domain.policy := by
  induction l generalizing s with
  | nil => rfl
  | cons i rest ih =>
    unfold State.scanIn
    split
    · split
      · simp [ih]
      · split
        · rfl
        · exact ih s
    all_goals exact ih s

/-! ### The frame of an operation -/

/-- An operation acts on the directory, the counts of the domains and the transfers, reports, and leaves every other part,
but for the Port Controllers, of which at most a credit is taken. -/
structure State.Acts (s t : State) (p : Port) : Prop where
  frame : s.ChangesOnly t [.directory, .domains, .transfers, .arbiter, .ports]
  lastGranted : t.lastGranted = s.lastGranted
  reports : s.Reports t
  policies : t.domains.map Domain.policy = s.domains.map Domain.policy
  ports : t.ports = s.ports ∨ t.ports = (s.takeCredit p).ports

theorem State.Acts.refl (s : State) (p : Port) : s.Acts s p :=
  ⟨fun x _ => by cases x <;> simp [State.Same], rfl, .refl s, rfl, .inl rfl⟩

/-- An operation that follows one that takes no credit. -/
theorem State.Acts.trans {s t u : State} {p : Port} (h : s.Acts t p) (hp : t.ports = s.ports) (k : t.Acts u p) :
    s.Acts u p := by
  refine ⟨(h.frame.trans k.frame).mono (by simp), k.lastGranted.trans h.lastGranted, h.reports.trans k.reports,
    k.policies.trans h.policies, ?_⟩
  rcases k.ports with hk | hk
  · exact .inl (hk.trans hp)
  · exact .inr (by rw [hk, State.takeCredit, State.takeCredit, State.modifyPort, State.modifyPort]; simp [hp])

theorem State.Acts.of_frame {s t : State} {p : Port}
    (h : s.ChangesOnly t [.directory, .domains, .transfers, .arbiter, .ports])
    (hl : t.lastGranted = s.lastGranted) (hp : t.ports = s.ports)
    (hd : t.domains.map Domain.policy = s.domains.map Domain.policy) (hr : s.Reports t) : s.Acts t p :=
  ⟨h, hl, hr, hd, .inl hp⟩

/-- A lookup, whatever fails, acts on the directory. -/
theorem State.lookup_acts (s : State) (f : List Nat) (d : DomainId) (k : Key) (p : Port) :
    s.Acts (s.lookup f d k).1 p :=
  .of_frame (fun x hx => by cases x <;> simp [State.Same] at hx ⊢) (by simp) (by simp) (by simp [State.lookup])
    (s.lookupIn_reports f d k _)

/-- Closes the frame of an operation that is written out. -/
theorem State.Acts.written {s t : State} {p : Port}
    (h : t.resetHeld = s.resetHeld ∧ t.ready = s.ready ∧ t.lastGranted = s.lastGranted ∧ t.maintenance = s.maintenance
      ∧ t.ports = s.ports ∧ t.notices = s.notices ∧ t.lease = s.lease ∧ t.timebase = s.timebase
      ∧ t.portCounters = s.portCounters ∧ t.deviceCounters = s.deviceCounters ∧ t.pending = s.pending
      ∧ t.settings = s.settings ∧ t.domains.map Domain.policy = s.domains.map Domain.policy)
    (hr : s.Reports t) : s.Acts t p := by
  obtain ⟨h1, h2, h3, h4, h5, h6, h7, h8, h9, h10, h11, h12, hd⟩ := h
  refine .of_frame (fun x hx => ?_) h3 h5 hd hr
  cases x <;> first | exact absurd (by decide) hx | assumption

/-- The same with a credit taken. -/
theorem State.Acts.writtenCredit {s t : State} {p : Port}
    (h : t.resetHeld = s.resetHeld ∧ t.ready = s.ready ∧ t.lastGranted = s.lastGranted ∧ t.maintenance = s.maintenance
      ∧ t.ports = (s.takeCredit p).ports ∧ t.notices = s.notices ∧ t.lease = s.lease ∧ t.timebase = s.timebase
      ∧ t.portCounters = s.portCounters ∧ t.deviceCounters = s.deviceCounters ∧ t.pending = s.pending
      ∧ t.settings = s.settings ∧ t.domains.map Domain.policy = s.domains.map Domain.policy)
    (hr : s.Reports t) : s.Acts t p := by
  obtain ⟨h1, h2, h3, h4, h5, h6, h7, h8, h9, h10, h11, h12, hd⟩ := h
  refine ⟨fun x hx => ?_, h3, hr, hd, .inr h5⟩
  cases x <;> first | exact absurd (by decide) hx | assumption

theorem State.takeCredit_ports_congr {s t : State} (h : t.ports = s.ports) (p : Port) :
    (t.takeCredit p).ports = (s.takeCredit p).ports := by
  simp [State.takeCredit, State.modifyPort, h]

theorem throttle_acts (s : State) (p : Port) : s.Acts (throttle s p).state p :=
  .written (by simp [throttle, refuse]) ((State.Reports.refl s).count _)

/-! ### The requests -/

theorem createBinding_acts (v : View) (p : Port) (a : ClaimArgs) (st : Status) (f : List Nat) (s : State) :
    s.Acts (createBinding v p a st f s).state p := by
  unfold createBinding
  split
  · exact .refl s p
  split
  · exact .refl s p
  split
  · exact throttle_acts s p
  have hr := s.freeWayIn_reports f (s.slotsOf a.domain a.key)
  have hf := s.freeWayIn_frame f (s.slotsOf a.domain a.key)
  have hd := s.freeWayIn_policies f (s.slotsOf a.domain a.key)
  split
  next s1 he =>
    rw [he] at hr hf hd
    exact .written (by simp_all [refuse]) hr
  next s1 i he =>
    rw [he] at hr hf hd
    dsimp only at hr hf hd ⊢
    refine .writtenCredit ?_ ((hr.then (u := (_ : State)) ?_).count _)
    · simp only [State.countInGrant_frame, State.takeCredit_frame, State.countCreation_frame, State.putBinding_frame, hf,
        State.countCreation_policies, hd, and_self, true_and, and_true]
      exact State.takeCredit_ports_congr (by simp [hf]) p
    · simp

theorem preemptBinding_acts (v : View) (p : Port) (a : ClaimArgs) (i : Nat) (b : Binding) (o : Port) (s : State) :
    s.Acts (preemptBinding v p a i b o s).state p := by
  unfold preemptBinding
  split
  · exact .refl s p
  split
  · exact throttle_acts s p
  refine .writtenCredit ?_ (((State.Reports.of_eq ?_).notify _ _).count _)
  · simp only [State.countInGrant_frame, State.notifyInGrant_frame, State.takeCredit_frame,
      State.countOwnerChange_frame, State.putBinding_frame, and_self, true_and, and_true]
    exact State.takeCredit_ports_congr (by simp) p
  · simp

theorem adoptBinding_acts (v : View) (p : Port) (a : ClaimArgs) (i : Nat) (b : Binding) (s : State) :
    s.Acts (adoptBinding v p a i b s).state p := by
  unfold adoptBinding
  split
  · exact .refl s p
  split
  · exact throttle_acts s p
  dsimp only
  refine .writtenCredit ?_ ((State.Reports.of_eq ?_).count _)
  · simp only [State.countInGrant_frame, State.takeCredit_frame]
    refine ⟨?_, ?_, ?_, ?_, State.takeCredit_ports_congr ?_ p, ?_, ?_, ?_, ?_, ?_, ?_, ?_, ?_⟩ <;> split <;> simp
  · rw [(State.takeCredit_frame _ p).2.2.2.2.1]
    split <;> simp

theorem claimHit_acts (v : View) (p : Port) (a : ClaimArgs) (i : Nat) (b : Binding) (s : State) :
    s.Acts (claimHit v p a i b s).state p := by
  unfold claimHit
  split
  · exact .refl s p
  · exact adoptBinding_acts v p a i b s
  split
  · exact .written (by simp [refreshBinding]) (.of_eq (by simp [refreshBinding]))
  split
  · exact adoptBinding_acts v p a i b s
  split
  · exact preemptBinding_acts v p a i b _ s
  · exact .refl s p

theorem claimReply_acts (v : View) (p : Port) (a : ClaimArgs) (f : List Nat) (s : State) :
    s.Acts (claimReply v p a f s).state p := by
  have hl := s.lookup_acts f a.domain a.key p
  have hp : (s.lookup f a.domain a.key).1.ports = s.ports := by simp
  unfold claimReply
  dsimp only
  split
  · exact .refl s p
  split
  · exact .refl s p
  split
  · exact .refl s p
  split
  next s1 i b he => rw [he] at hl hp; exact hl.trans hp (claimHit_acts v p a i b s1)
  next s1 he => rw [he] at hl hp; exact hl.trans hp (createBinding_acts v p a _ f s1)

theorem resolveReply_acts (v : View) (p : Port) (a : ClaimArgs) (c : Bool) (f : List Nat) (s : State) :
    s.Acts (resolveReply v p a c f s).state p := by
  have hl := s.lookup_acts f a.domain a.key p
  have hp : (s.lookup f a.domain a.key).1.ports = s.ports := by simp
  unfold resolveReply
  dsimp only
  split
  · exact .refl s p
  split
  next s1 i b he =>
    rw [he] at hl hp
    refine hl.trans hp (.written ?_ ?_)
    · dsimp only; split <;> simp
    · dsimp only
      split
      · exact ((State.Reports.refl s1).count (.port p .resolveHits)).then (by simp)
      · exact (State.Reports.refl s1).count _
  next s1 he =>
    rw [he] at hl hp
    have hm : s1.Acts (s1.countInGrant (.port p .resolveMisses)) p :=
      .written (by simp) ((State.Reports.refl s1).count _)
    split
    · split
      · exact hl.trans hp hm
      · exact hl.trans hp (hm.trans (by simp) (createBinding_acts v p a _ f _))
    · exact hl.trans hp hm

theorem releaseReply_acts (v : View) (p : Port) (d : DomainId) (k : Key) (f : List Nat) (s : State) :
    s.Acts (releaseReply v p d k f s).state p := by
  have hl := s.lookup_acts f d k p
  have hp : (s.lookup f d k).1.ports = s.ports := by simp
  have hrem : ∀ (s : State) i b, s.Acts ((s.removeBinding i b).notifyReleased p i b) p := fun s i b =>
    .written (by simp [State.notifyReleased]) ((State.Reports.of_eq (by simp)).notify _ _)
  unfold releaseReply
  split
  · exact .refl s p
  split
  next s1 he => rw [he] at hl hp; exact hl
  next s1 i b he =>
    rw [he] at hl hp
    split
    · exact hl
    · split
      · exact hl.trans hp (hrem s1 i b)
      · exact hl
    · split
      · split
        next x _ _ t _ =>
          refine hl.trans hp ?_
          unfold releaseTransfer
          split
          · exact .written (by simp) ((State.Reports.of_eq (by simp)).trans (State.endTransfer_reports _ _ _ _ _ _))
          · exact .written (by simp [State.notifyReleased])
              (((State.Reports.of_eq (by simp)).trans (State.endTransfer_reports (s1.removeBinding i b) _ _ _ _ _)).notify
                _ _)
        · exact hl
      · exact hl

theorem touchReply_acts (p : Port) (d : DomainId) (k : Key) (f : List Nat) (s : State) :
    s.Acts (touchReply p d k f s).state p := by
  have hl := s.lookup_acts f d k p
  have hp : (s.lookup f d k).1.ports = s.ports := by simp
  unfold touchReply
  split
  · exact .refl s p
  split
  next s1 he => rw [he] at hl hp; exact hl
  next s1 i b he =>
    rw [he] at hl hp
    split
    · exact hl.trans hp (.written (by simp) (.of_eq (by simp)))
    · exact hl

theorem State.slotFails_acts (s : State) (i : Nat) (p : Port) : s.Acts (s.slotFails i) p :=
  .written (by simp) (s.slotFails_reports i)

theorem readSlotReply_acts (p : Port) (i : Nat) (f : List Nat) (s : State) :
    s.Acts (readSlotReply i f s).state p := by
  unfold readSlotReply
  split
  · exact .refl s p
  · exact .refl s p
  all_goals
    split
    · exact s.slotFails_acts i p
    · exact .refl s p

theorem scanReply_acts (p : Port) (n : Nat) (x : ScanFilter) (f : List Nat) (s : State) :
    s.Acts (scanReply n x f s).state p := by
  have hl : s.Acts (s.scanIn f x (windowSlots n)).1 p := .written (by simp) (s.scanIn_reports f x _)
  unfold scanReply
  split
  next s1 i b he => rw [he] at hl; exact hl
  next s1 he =>
    rw [he] at hl
    split <;> exact hl

theorem askReply_acts (v : View) (p : Port) (tag : Byte) (d : DomainId) (k : Key) (h : Handle) (f : List Nat)
    (s : State) : s.Acts (askReply v p tag d k h f s).state p := by
  have hl := s.lookup_acts f d k p
  have hp : (s.lookup f d k).1.ports = s.ports := by simp
  have hoffer : ∀ (s : State) i b g x, s.Acts (offerTransfer p h tag i b g x s).state p := fun s i b g x =>
    .written (by simp [offerTransfer]) ((State.Reports.of_eq (by simp)).notify _ _)
  unfold askReply
  dsimp only
  split
  · exact .refl s p
  split
  next s1 he => rw [he] at hl hp; exact hl
  next s1 i b he =>
    rw [he] at hl hp
    split
    · exact hl
    split
    · exact hl
    · exact hl
    split
    · exact hl
    split
    · exact hl
    split
    · exact hl
    split
    · exact hl
    · exact hl.trans hp (hoffer _ _ _ _ _)

theorem State.grantToTaker_end_acts (s : State) (i : Nat) (b : Binding) (t : Transfer) (x : TransferIndex)
    (o : TransferOutcome) (d : DomainId) (k : Key) (p : Port) :
    s.Acts ((s.grantToTaker i b t).endTransfer x t o d k) p :=
  .written (by simp) ((State.Reports.of_eq (by simp)).trans (State.endTransfer_reports _ _ _ _ _ _))

theorem State.returnToGiver_end_acts (s : State) (i : Nat) (b : Binding) (g : Port) (t : Transfer) (x : TransferIndex)
    (o : TransferOutcome) (d : DomainId) (k : Key) (p : Port) :
    s.Acts ((s.returnToGiver i b g).endTransfer x t o d k) p :=
  .written (by simp) ((State.Reports.of_eq (by simp)).trans (State.endTransfer_reports _ _ _ _ _ _))

theorem replyToTransfer_acts (p : Port) (x : TransferIndex) (f : List Nat) (s : State)
    {settle : Transfer → Binding → State → Reply} (h : ∀ t b, s.Acts (settle t b s).state p) :
    s.Acts (replyToTransfer p x f s settle).state p := by
  unfold replyToTransfer
  split
  · exact .refl s p
  split
  · exact .refl s p
  split
  · split
    · exact s.slotFails_acts _ p
    · exact h _ _
  all_goals exact .refl s p

theorem settleGrant_acts (v : View) (x : TransferIndex) (t : Transfer) (b : Binding) (s : State) (p : Port) :
    s.Acts (settleGrant v x t b s).state p := by
  unfold settleGrant
  split
  · exact s.grantToTaker_end_acts _ b t x _ _ _ p
  · exact s.returnToGiver_end_acts _ b _ t x _ _ _ p

theorem settleRefuse_acts (x : TransferIndex) (t : Transfer) (b : Binding) (s : State) (p : Port) :
    s.Acts (settleRefuse x t b s).state p := s.returnToGiver_end_acts _ b _ t x _ _ _ p

/-- A request in its grant acts on the store alone, or replaces a policy or a setting (R57, R182, R183). -/
theorem GrantedAct.acts {p : Port} {v : View} {rq : RequestFrame} {c : Instr} {u : Option Nat} {act : State → Reply}
    (h : GrantedAct p v rq c u act) (s : State) :
    s.Acts (act s).state p
      ∨ (∃ d en cp ms ps ns ac ll cap oa sb pol, c = .domainSet p
          ∧ rq.body = .domainSet d en cp ms ps ns ac ll cap oa sb ∧ policyOf en cp ms ps ns ac ll cap oa sb = some pol
          ∧ (s.domain (asDomain d)).count ≤ pol.cap
          ∧ (act s).state = s.modifyDomain (asDomain d) (fun r => { r with policy := pol }))
      ∨ (∃ x, c = .settingSetHashSeed p ∧ rq.body = .settingSet 1 x ∧ s.directory.occupied = 0
          ∧ (act s).state = s.withSettings { s.settings with hashSeed := x })
      ∨ ∃ id x q, c = .settingSetQuota p ∧ rq.body = .settingSet id x ∧ quotaPortOf id = some q ∧ s.owned q ≤ x
          ∧ (act s).state = s.withSettings { s.settings with quota := s.settings.quota.set q x } := by
  cases h with
  | resolve => exact .inl (resolveReply_acts _ _ _ _ _ s)
  | claim => exact .inl (claimReply_acts _ _ _ _ s)
  | release => exact .inl (releaseReply_acts _ _ _ _ _ s)
  | touch => exact .inl (touchReply_acts _ _ _ _ s)
  | readSlot => exact .inl (readSlotReply_acts _ _ _ s)
  | scan => exact .inl (scanReply_acts _ _ _ _ s)
  | scanInvalid => exact .inl (.refl s p)
  | ask => exact .inl (askReply_acts _ _ _ _ _ _ _ s)
  | replyGrant => exact .inl (replyToTransfer_acts _ _ _ s fun t b => settleGrant_acts _ _ t b s p)
  | replyRefuse => exact .inl (replyToTransfer_acts _ _ _ s fun t b => settleRefuse_acts _ t b s p)
  | domainGet => exact .inl (.refl s p)
  | domainSet d en cp ms ps ns ac ll cap oa sb pol hb hp =>
    unfold domainSetReply
    split
    · exact .inl (.refl s p)
    next hc => exact .inr (.inl ⟨d, en, cp, ms, ps, ns, ac, ll, cap, oa, sb, pol, rfl, hb, hp, not_lt.1 hc, rfl⟩)
  | domainSetInvalid => exact .inl (.refl s p)
  | hashSeed x hb =>
    unfold setHashSeed
    split
    · exact .inl (.refl s p)
    next ho => exact .inr (.inr (.inl ⟨x, rfl, hb, not_not.1 ho, rfl⟩))
  | quota id x q hb hq =>
    unfold setQuota
    split
    · exact .inl (.refl s p)
    next ho => exact .inr (.inr (.inr ⟨id, x, q, rfl, hb, hq, not_lt.1 ho, rfl⟩))

/-- The part of `Acts` that every request in its grant keeps, one that replaces a policy or a setting as well. -/
structure State.ActsWide (s t : State) (p : Port) : Prop where
  frame : s.ChangesOnly t [.directory, .domains, .transfers, .settings, .arbiter, .ports]
  lastGranted : t.lastGranted = s.lastGranted
  reports : s.Reports t
  ports : t.ports = s.ports ∨ t.ports = (s.takeCredit p).ports

theorem State.Acts.wide {s t : State} {p : Port} (h : s.Acts t p) : s.ActsWide t p :=
  ⟨h.frame.mono (by simp), h.lastGranted, h.reports, h.ports⟩

theorem GrantedAct.actsWide {p : Port} {v : View} {rq : RequestFrame} {c : Instr} {u : Option Nat}
    {act : State → Reply} (h : GrantedAct p v rq c u act) (s : State) : s.ActsWide (act s).state p := by
  rcases h.acts s with h | ⟨d, _, _, _, _, _, _, _, _, _, _, pol, _, _, _, _, h⟩ | ⟨x, _, _, _, h⟩ | ⟨_, _, _, _, _, _, _, h⟩
  · exact h.wide
  · exact ⟨fun x hx => by rw [h]; cases x <;> simp [State.Same] at hx ⊢, by rw [h]; rfl, .of_eq (by rw [h]; rfl),
      .inl (by rw [h]; rfl)⟩
  all_goals
    exact ⟨fun x hx => by rw [h]; cases x <;> simp [State.Same] at hx ⊢, by rw [h]; rfl, .of_eq (by rw [h]; rfl),
      .inl (by rw [h]; rfl)⟩

theorem checkedReply_actsWide {v : View} {p : Port} {rq : RequestFrame} {act : State → Reply} {s : State}
    (h : s.ActsWide (act s).state p) : s.ActsWide (checkedReply v p rq act s).state p := by
  unfold checkedReply
  split
  · exact (State.Acts.refl s p).wide
  · exact h

/-- The expiry resolution acts on the store alone, and takes no credit (R86). -/
theorem resolveExpiry_acts (v : View) (x : TransferIndex) (f : List Nat) (s : State) (p : Port) :
    s.Acts (resolveExpiry v x f s) p := by
  have hfree : s.Acts (s.freeEntry x) p := .written (by simp) (.of_eq (by simp))
  unfold resolveExpiry
  split
  · exact hfree
  split
  · split
    · exact s.slotFails_acts _ p
    · unfold settleExpiry
      split
      · exact s.grantToTaker_end_acts _ _ _ x _ _ _ p
      · exact s.returnToGiver_end_acts _ _ _ _ x _ _ _ p
  all_goals exact hfree

@[simp] theorem resolveExpiry_ports (v : View) (x : TransferIndex) (f : List Nat) (s : State) :
    (resolveExpiry v x f s).ports = s.ports := by
  unfold resolveExpiry
  split
  · simp
  split
  · split
    · simp
    · unfold settleExpiry
      split <;> simp
  all_goals simp

end Sys2Proof.Machine
end

section
/-! SUPPORT. What a bucket grant leaves of everything but the directory, and the state in which a grant of any client goes
on: its operation has acted on the store, and no other part has changed. -/

namespace Sys2Proof.Machine

/-! ### The head job's counts -/

/-- The Maintenance Engine is as it was but for the counts of its head job. -/
def State.SameButCounts (s t : State) : Prop :=
  ∀ k, (t.modifyCounts (fun _ => k)).maintenance = (s.modifyCounts (fun _ => k)).maintenance

theorem State.SameButCounts.of_eq {s t : State} (h : t.maintenance = s.maintenance) : s.SameButCounts t := by
  intro k
  cases hq : s.maintenance.queue with
  | nil => simp [State.modifyCounts, State.modifyHeadJob, h, hq]
  | cons j rest =>
    rw [State.modifyCounts_maintenance hq, State.modifyCounts_maintenance (h ▸ hq), h]

theorem State.SameButCounts.trans {s t u : State} (h : s.SameButCounts t) (k : t.SameButCounts u) :
    s.SameButCounts u := fun c => (k c).trans (h c)

theorem State.modifyCounts_sameButCounts (s : State) (f : JobCounts → JobCounts) :
    s.SameButCounts (s.modifyCounts f) := by
  intro k
  cases hq : s.maintenance.queue with
  | nil => simp [State.modifyCounts, State.modifyHeadJob, hq]
  | cons j rest =>
    have hm := State.modifyCounts_maintenance hq f
    have hq' : (s.modifyCounts f).maintenance.queue = { j with counts := f j.counts } :: rest := by rw [hm]
    rw [State.modifyCounts_maintenance hq', State.modifyCounts_maintenance hq]
    simp [State.modifyCounts_maintenance hq]

/-! ### One slot of a bucket -/

/-- A bucket's operation at a slot acts on the directory, the domains, the transfers and the head job's counts. -/
structure State.ActsInBucket (s t : State) : Prop where
  frame : s.ChangesOnly t [.directory, .domains, .transfers, .arbiter, .maintenance]
  lastGranted : t.lastGranted = s.lastGranted
  reports : s.Reports t
  policies : t.domains.map Domain.policy = s.domains.map Domain.policy
  counts : s.SameButCounts t

theorem State.ActsInBucket.refl (s : State) : s.ActsInBucket s :=
  ⟨fun x _ => by cases x <;> simp [State.Same], rfl, .refl s, rfl, .of_eq rfl⟩

theorem State.ActsInBucket.trans {s t u : State} (h : s.ActsInBucket t) (k : t.ActsInBucket u) : s.ActsInBucket u :=
  ⟨(h.frame.trans k.frame).mono (by simp), k.lastGranted.trans h.lastGranted, h.reports.trans k.reports,
    k.policies.trans h.policies, h.counts.trans k.counts⟩

/-- Closes the frame of an operation that is written out. -/
theorem State.ActsInBucket.written {s t : State}
    (h : t.resetHeld = s.resetHeld ∧ t.ready = s.ready ∧ t.lastGranted = s.lastGranted
      ∧ t.ports = s.ports ∧ t.notices = s.notices ∧ t.lease = s.lease ∧ t.settings = s.settings
      ∧ t.timebase = s.timebase ∧ t.portCounters = s.portCounters ∧ t.deviceCounters = s.deviceCounters
      ∧ t.pending = s.pending ∧ t.domains.map Domain.policy = s.domains.map Domain.policy)
    (hr : s.Reports t) (hc : s.SameButCounts t) : s.ActsInBucket t := by
  obtain ⟨h1, h2, h3, h5, h6, h7, h4, h8, h9, h10, h11, hd⟩ := h
  refine ⟨fun x hx => ?_, h3, hr, hd, hc⟩
  cases x <;> first | exact absurd (by decide) hx | assumption

theorem State.ActsInBucket.report {s t : State} (h : s.ActsInBucket t) (r : Report) : s.ActsInBucket (t.report r) :=
  h.trans (.written (by simp) ((State.Reports.refl t).report r) (.of_eq (by simp)))

theorem State.ActsInBucket.notify {s t : State} (h : s.ActsInBucket t) (a : Audience) (n : Notice) :
    s.ActsInBucket (t.notifyInGrant a n) := h.report _

theorem State.ActsInBucket.count {s t : State} (h : s.ActsInBucket t) (c : CounterId) :
    s.ActsInBucket (t.countInGrant c) := h.report _

theorem State.ActsInBucket.modifyCounts {s t : State} (h : s.ActsInBucket t) (f : JobCounts → JobCounts) :
    s.ActsInBucket (t.modifyCounts f) :=
  h.trans (.written (by simp) (.of_eq (by simp)) (t.modifyCounts_sameButCounts f))

/-- An operation that leaves the grant and the Maintenance Engine as well. -/
theorem State.ActsInBucket.quiet {s t : State}
    (h : t.resetHeld = s.resetHeld ∧ t.ready = s.ready ∧ t.lastGranted = s.lastGranted
      ∧ t.ports = s.ports ∧ t.notices = s.notices ∧ t.lease = s.lease ∧ t.settings = s.settings
      ∧ t.timebase = s.timebase ∧ t.portCounters = s.portCounters ∧ t.deviceCounters = s.deviceCounters
      ∧ t.pending = s.pending ∧ t.domains.map Domain.policy = s.domains.map Domain.policy ∧ t.grant = s.grant ∧ t.maintenance = s.maintenance) : s.ActsInBucket t := by
  obtain ⟨h1, h2, h3, h5, h6, h7, h4, h8, h9, h10, h11, hd, hg, hm⟩ := h
  exact .written ⟨h1, h2, h3, h5, h6, h7, h4, h8, h9, h10, h11, hd⟩ (.of_eq hg) (.of_eq hm)

theorem State.endTransferOf_actsInBucket (s : State) (b : Binding) (o : TransferOutcome) :
    s.ActsInBucket (s.endTransferOf b o) :=
  .written (by simp) (s.endTransferOf_reports b o) (.of_eq (by simp))

theorem State.slotFails_actsInBucket (s : State) (i : Nat) : s.ActsInBucket (s.slotFails i) :=
  .written (by simp) (s.slotFails_reports i) (.of_eq (by simp))

theorem State.removeBinding_actsInBucket (s : State) (i : Nat) (b : Binding) : s.ActsInBucket (s.removeBinding i b) :=
  .quiet (by simp)

theorem State.putBinding_actsInBucket (s : State) (i : Nat) (b : Binding) : s.ActsInBucket (s.putBinding i b) :=
  .quiet (by simp)

theorem State.examine_actsInBucket (s : State) : s.ActsInBucket s.examine := (State.ActsInBucket.refl s).modifyCounts _

/-- A reading of a binding acts as what is done to the binding does. -/
theorem State.readBinding_actsInBucket (s : State) (f : List Nat) (i : Nat) {g : Binding → State → State}
    (h : ∀ b, s.ActsInBucket (g b s)) : s.ActsInBucket (s.readBinding f i g) := by
  unfold State.readBinding
  split
  · split
    · exact s.slotFails_actsInBucket i
    · exact h _
  all_goals exact .refl s

theorem State.ageBinding_actsInBucket (s : State) (i : Nat) (b : Binding) : s.ActsInBucket (s.ageBinding i b) := by
  unfold State.ageBinding
  split
  · exact s.putBinding_actsInBucket i _
  · exact s.putBinding_actsInBucket i _
  · split
    · unfold State.expireBinding
      dsimp only
      refine State.ActsInBucket.notify ?_ _ _
      have h := ((s.removeBinding_actsInBucket i b).modifyCounts
        (fun c => { c with expired := c.expired + 1 })).count (.device .expiries)
      split
      · exact h.notify _ _
      · exact h
    · exact s.putBinding_actsInBucket i _

theorem sweepSlot_actsInBucket (f : List Nat) (i : Nat) (s : State) : s.ActsInBucket (sweepSlot f i s) := by
  refine s.readBinding_actsInBucket f i fun b => ?_
  split
  · exact .refl s
  all_goals exact s.examine_actsInBucket.trans (State.ageBinding_actsInBucket _ i b)

theorem State.removeByJob_actsInBucket (s : State) (i : Nat) (b : Binding) : s.ActsInBucket (s.removeByJob i b) :=
  ((s.removeBinding_actsInBucket i b).modifyCounts _).trans (State.endTransferOf_actsInBucket _ b _)

theorem purgeSlot_actsInBucket (x : PurgeFilter) (f : List Nat) (i : Nat) (s : State) :
    s.ActsInBucket (purgeSlot x f i s) := by
  refine s.readBinding_actsInBucket f i fun b => ?_
  split
  · exact s.examine_actsInBucket.trans (State.removeByJob_actsInBucket _ i b)
  · exact s.examine_actsInBucket

theorem retestSlot_actsInBucket (f : List Nat) (i : Nat) (was : Slot) (s : State) :
    s.ActsInBucket (retestSlot f i was s) := by
  have hs : s.ActsInBucket (((s.writeSlot i .defective).modifyDefective (· + 1)).reportSlotFault i) :=
    ((State.ActsInBucket.quiet (by simp)).notify _ _).count _
  have hw : s.ActsInBucket (s.writeSlot i .free) := .quiet (by simp)
  unfold retestSlot
  split
  · split
    · exact .refl s
    all_goals exact hs
  · split
    · exact hw.trans (.quiet (by simp))
    all_goals exact hw

theorem rewriteSlot_actsInBucket (f : List Nat) (i : Nat) (s : State) : s.ActsInBucket (rewriteSlot f i s) := by
  unfold rewriteSlot
  split
  · exact (s.examine_actsInBucket.trans (State.removeByJob_actsInBucket _ i _)).trans (retestSlot_actsInBucket f i _ _)
  · exact .refl s
  all_goals exact retestSlot_actsInBucket f i _ s

theorem startupSlot_actsInBucket (n : Nat) (f : List Nat) (i : Nat) (s : State) :
    s.ActsInBucket (startupSlot n f i s) := by
  have hr : s.ActsInBucket (s.reachBucket n) := .quiet (by simp)
  unfold startupSlot
  split
  · exact hr.trans (retestSlot_actsInBucket f i _ _)
  · exact hr.trans (retestSlot_actsInBucket f i _ _)
  all_goals exact .refl s

theorem State.orphanHold_actsInBucket (s : State) (p : Port) (i : Nat) (b : Binding) :
    s.ActsInBucket (s.orphanHold p i b) :=
  ((State.ActsInBucket.quiet (t := (s.putBinding i { b with tenure := .orphaned }).countHold p b.domain)
    (by simp)).modifyCounts _).count _

theorem State.orphanAction_actsInBucket (s : State) (v : View) (p : Port) (i : Nat) (b : Binding) :
    s.ActsInBucket (s.orphanAction v p i b) := by
  unfold State.orphanAction
  dsimp only
  split
  · exact (((s.removeBinding_actsInBucket i b).modifyCounts _).count _).notify _ _
  · exact s.orphanHold_actsInBucket p i b
  · exact s.orphanHold_actsInBucket p i b
  · split
    · exact (((State.ActsInBucket.quiet (by simp)).modifyCounts _).count _).notify _ _
    · exact s.orphanHold_actsInBucket p i b

theorem State.endTransfer_actsInBucket (s : State) (i : TransferIndex) (t : Transfer) (o : TransferOutcome)
    (d : DomainId) (k : Key) : s.ActsInBucket (s.endTransfer i t o d k) :=
  .written (by simp) (s.endTransfer_reports i t o d k) (.of_eq (by simp))

theorem orphanSlot_actsInBucket (v : View) (p : Port) (f : List Nat) (i : Nat) (s : State) :
    s.ActsInBucket (orphanSlot v p f i s) := by
  have hret : ∀ (s : State) b g x e o, s.ActsInBucket ((s.returnToGiver i b g).endTransfer x e o b.domain b.key) :=
    fun s b g x e o =>
      (State.ActsInBucket.quiet (by simp)).trans ((s.returnToGiver i b g).endTransfer_actsInBucket x e o _ _)
  refine s.readBinding_actsInBucket f i fun b => ?_
  split
  · exact .refl s
  · split
    · exact s.examine_actsInBucket.trans (State.orphanAction_actsInBucket _ v p i b)
    · exact .refl s
  · split
    · exact .refl s
    · split
      · refine s.examine_actsInBucket.trans ?_
        unfold State.settleLostGiver
        split
        · exact (State.ActsInBucket.quiet (by simp)).trans (State.endTransfer_actsInBucket _ _ _ _ _ _)
        · exact (hret _ _ _ _ _ _).trans (State.orphanAction_actsInBucket _ v p i _)
      · split
        · exact s.examine_actsInBucket.trans (hret _ _ _ _ _ _)
        · exact .refl s

theorem BucketAct.actsInBucket {v : View} {j : Job} {c : Instr} {u : Option Nat} {f : Nat → State → State}
    (h : BucketAct v j c u f) (i : Nat) (s : State) : s.ActsInBucket (f i s) := by
  cases h with
  | sweep => exact sweepSlot_actsInBucket _ i s
  | purge => exact purgeSlot_actsInBucket _ _ i s
  | rewrite => exact rewriteSlot_actsInBucket _ i s
  | orphan => exact orphanSlot_actsInBucket _ _ _ i s
  | startup => exact startupSlot_actsInBucket _ _ i s

theorem State.overSlots_actsInBucket {f : Nat → State → State} (h : ∀ i s, State.ActsInBucket s (f i s)) (s : State)
    (l : List Nat) : s.ActsInBucket (s.overSlots f l) := by
  induction l generalizing s with
  | nil => exact .refl s
  | cons i rest ih => exact (h i s).trans (ih (f i s))

/-! ### A grant whose operation has acted -/

/-- The operation of the grant `g` in progress in `s` has acted, and `w` is the state in which its grant goes on (R15). -/
structure State.Acted (s w : State) (g : Grant) : Prop where
  before : s.grant = some g
  grant : ∃ l e, w.grant = some { g with reports := l, ending := some e }
  frame : s.ChangesOnly w [.directory, .domains, .transfers, .settings, .arbiter, .ports]
  lastGranted : w.lastGranted = s.lastGranted
  ports : w.ports = s.ports ∨ ∃ p, w.ports = (s.takeCredit p).ports

theorem State.Acted.of_begun {s : State} {g : Grant} (h : s.grant = some g) (hb : g.begun = true) : s.Acted s g := by
  obtain ⟨e, he⟩ := Option.isSome_iff_exists.1 hb
  exact ⟨h, ⟨g.reports, e, by rw [h, ← he]⟩, (State.Acts.refl s .p0).wide.frame, rfl, .inl rfl⟩

theorem State.Acted.of_acts {s t : State} {g : Grant} {p : Port} (h : s.grant = some g) (ha : s.ActsWide t p) (e : Ending) :
    s.Acted (t.acted e) g := by
  obtain ⟨l, hl⟩ := ha.reports
  refine ⟨h, ⟨g.reports ++ l, e, by simp [hl, h]⟩, ?_, ?_, ?_⟩
  · exact (ha.frame.trans (m := [.arbiter]) fun x hx => by cases x <;> simp [State.Same] at hx ⊢).mono (by simp)
  · simpa using ha.lastGranted
  · exact ha.ports.imp (by simp) fun h => ⟨p, by simpa using h⟩

theorem State.modifyCounts_same {s : State} {j : Job} {rest : List Job} (h : s.maintenance.queue = j :: rest) :
    (s.modifyCounts (fun _ => j.counts)).maintenance = s.maintenance := by
  rw [State.modifyCounts_maintenance h, ← h]

theorem State.actBucket_acted {s : State} {g : Grant} {j : Job} {rest : List Job} {f : Nat → State → State}
    (h : s.grant = some g) (hq : s.maintenance.queue = j :: rest) (hf : ∀ i s, State.ActsInBucket s (f i s)) :
    s.Acted (s.actBucket j f) g := by
  have hb := s.overSlots_actsInBucket hf (bucketSlots j.cursor)
  have hm := (hb.counts j.counts).trans (State.modifyCounts_same hq)
  obtain ⟨l, hl⟩ := hb.reports
  unfold State.actBucket
  dsimp only
  generalize s.overSlots f (bucketSlots j.cursor) = t at hb hm hl
  have hfr := hb.frame
  refine ⟨h, ⟨g.reports ++ l, .bucket t.maintenance.headCounts, by simp [hl, h]⟩, fun x hx => ?_, ?_, .inl ?_⟩
  · cases x
    case maintenance => simpa [State.Same] using hm
    case resetHeld => simpa [State.Same] using hfr .resetHeld (by decide)
    case ready => simpa [State.Same] using hfr .ready (by decide)
    case notices => simpa [State.Same] using hfr .notices (by decide)
    case lease => simpa [State.Same] using hfr .lease (by decide)
    case timebase => simpa [State.Same] using hfr .timebase (by decide)
    case portCounters => simpa [State.Same] using hfr .portCounters (by decide)
    case deviceCounters => simpa [State.Same] using hfr .deviceCounters (by decide)
    case pending => simpa [State.Same] using hfr .pending (by decide)
    all_goals simp at hx
  · simpa using hb.lastGranted
  · simpa [State.Same] using hfr .ports (by decide)

/-- A request's grant goes on from a state in which the request has acted. -/
theorem GrantedAct.acted {s : State} {g : Grant} {p : Port} {rq : RequestFrame} {c : Instr} {u : Option Nat}
    {act : State → Reply} (hg : s.grant = some g) (h : GrantedAct p g.view rq c u act) :
    s.Acted (if g.begun then s else s.actRequest g.view p rq act) g := by
  split
  next hb => exact .of_begun hg hb
  · exact .of_acts hg (checkedReply_actsWide (h.actsWide s)) _

/-- A bucket's grant goes on from a state in which the bucket has been processed. -/
theorem BucketAct.acted {s : State} {g : Grant} {j : Job} {rest : List Job} {c : Instr} {u : Option Nat}
    {f : Nat → State → State} (hg : s.grant = some g) (hq : s.maintenance.queue = j :: rest)
    (h : BucketAct g.view j c u f) : s.Acted (if g.begun then s else s.actBucket j f) g := by
  split
  next hb => exact .of_begun hg hb
  · exact State.actBucket_acted hg hq h.actsInBucket

/-- An expiry's grant goes on from a state in which the expiry has been resolved. -/
theorem resolveExpiry_acted {s : State} {g : Grant} (hg : s.grant = some g) (x : TransferIndex) (f : List Nat) :
    s.Acted ((resolveExpiry g.view x f s).acted .resolution) g :=
  .of_acts hg (resolveExpiry_acts g.view x f s .p0).wide _

end Sys2Proof.Machine
end

section
/-! SUPPORT. What a request that runs at once leaves of the state, and the laws that the Port Controllers and the settings
keep by themselves: READY, the lease, policies and settings. -/

namespace Sys2Proof.Machine

/-! ### Requests that run at once -/

theorem PerPort.map_get {α β : Type} (f : α → β) (v : PerPort α) (p : Port) : (v.map f).get p = f (v.get p) := by
  cases p <;> rfl

@[simp] theorem State.view_session (s : State) (p : Port) : s.view.session.get p = (s.port p).session :=
  PerPort.map_get _ _ _

@[simp] theorem State.view_credit (s : State) (p : Port) : s.view.credit.get p = (s.port p).claimCredit :=
  PerPort.map_get _ _ _

@[simp] theorem State.view_leaseHolder (s : State) : s.view.leaseHolder = s.lease.holder := rfl

@[simp] theorem State.comeOnline_frame (s : State) (p : Port) (n m : Nat) (x : Subscriptions) :
    (s.comeOnline p n m x).resetHeld = s.resetHeld ∧ (s.comeOnline p n m x).ready = s.ready
      ∧ (s.comeOnline p n m x).directory = s.directory ∧ (s.comeOnline p n m x).lastGranted = s.lastGranted
      ∧ (s.comeOnline p n m x).grant = s.grant ∧ (s.comeOnline p n m x).domains = s.domains
      ∧ (s.comeOnline p n m x).transfers = s.transfers ∧ (s.comeOnline p n m x).maintenance = s.maintenance
      ∧ (s.comeOnline p n m x).lease = s.lease ∧ (s.comeOnline p n m x).settings = s.settings
      ∧ (s.comeOnline p n m x).timebase = s.timebase ∧ (s.comeOnline p n m x).deviceCounters = s.deviceCounters
      ∧ (s.comeOnline p n m x).pending = s.pending := by
  simp [State.comeOnline]

@[simp] theorem State.comeOnlineLinked_frame (s : State) (p : Port) (n m : Nat) (x : Subscriptions) :
    (s.comeOnlineLinked p n m x).resetHeld = s.resetHeld ∧ (s.comeOnlineLinked p n m x).ready = s.ready
      ∧ (s.comeOnlineLinked p n m x).directory = s.directory
      ∧ (s.comeOnlineLinked p n m x).lastGranted = s.lastGranted ∧ (s.comeOnlineLinked p n m x).grant = s.grant
      ∧ (s.comeOnlineLinked p n m x).domains = s.domains ∧ (s.comeOnlineLinked p n m x).transfers = s.transfers
      ∧ (s.comeOnlineLinked p n m x).settings = s.settings ∧ (s.comeOnlineLinked p n m x).timebase = s.timebase
      ∧ (s.comeOnlineLinked p n m x).deviceCounters = s.deviceCounters
      ∧ (s.comeOnlineLinked p n m x).pending = s.pending := by
  unfold State.comeOnlineLinked
  split <;> simp

/-- An aborted finish leaves READY as it was (R24). -/
theorem State.finishHead_aborted_ready (s : State) : (s.finishHead .aborted).ready = s.ready := by
  cases h : s.maintenance.queue with
  | nil => simp [State.finishHead, h]
  | cons j rest => simp [State.finishHead_ready h]

/-- The parts that an ABORT_JOB which acts at once may change. -/
theorem abortReply_frame (id : Nat) (s : State) :
    s.ChangesOnly (abortReply id s).state [.ports, .maintenance, .notices, .portCounters, .deviceCounters] := by
  intro x hx
  have hr := s.finishHead_aborted_ready
  unfold abortReply
  split
  · cases x <;> simp [State.Same, refuse] at hx ⊢
  split
  · split
    · cases x <;> simp [State.Same, hr] at hx ⊢
    · cases x <;> simp [State.Same, refuse] at hx ⊢
  split
  · split
    · cases x <;> simp [State.Same] at hx ⊢
    · cases x <;> simp [State.Same, refuse] at hx ⊢
  · cases x <;> simp [State.Same, refuse] at hx ⊢

theorem enqueueReply_frame (p : Port) (w : JobWork) (s : State) :
    s.ChangesOnly (enqueueReply p w s).state [.maintenance] := by
  intro x hx
  unfold enqueueReply
  dsimp only
  split <;> cases x <;> simp [State.Same, refuse] at hx ⊢

/-- The settings rows that run at once, with the settings they leave (R42, R71, R106, R186). -/
inductive SettingRow (p : Port) (x : Settings) : Instr → Nat → Nat → Settings → Prop
  | timebaseDivider (n : Nat) : SettingRow p x (.settingSetTimebaseDivider p) 2 n { x with timebaseDivider := n }
  | sweepInterval (n : Nat) : SettingRow p x (.settingSetSweepInterval p) 3 n { x with sweepInterval := n }
  | transferTimeout (n : Nat) : SettingRow p x (.settingSetTransferTimeout p) 4 n { x with transferTimeout := n }
  | creditCapacity (n : Nat) : SettingRow p x (.settingSetCreditCapacity p) 5 n { x with creditCapacity := n }
  | refillAmount (n : Nat) : SettingRow p x (.settingSetRefillAmount p) 6 n { x with refillAmount := n }
  | refillInterval (n : Nat) : SettingRow p x (.settingSetRefillInterval p) 7 n { x with refillInterval := n }

/-- A request that runs at once leaves the directory, the arbiter, READY and the clock, and changes a setting by its own
row alone. -/
theorem DirectAct.frame {p : Port} {s : State} {rq : RequestFrame} {c : Instr} {act : State → Reply}
    (h : DirectAct p s rq c act) :
    s.ChangesOnly (act s).state
        [.maintenance, .ports, .notices, .lease, .settings, .portCounters, .deviceCounters]
      ∧ ((act s).state.settings = s.settings
        ∨ ∃ id n, rq.body = .settingSet id n ∧ SettingRow p s.settings c id n (act s).state.settings) := by
  have hself : ∀ l, s.ChangesOnly s l := fun l x _ => by cases x <;> simp [State.Same]
  cases h with
  | attach n m k hb =>
    refine ⟨fun x hx => ?_, .inl ?_⟩ <;> unfold attachReply <;> split <;>
      (try (cases x <;> simp [State.Same, State.replaceParameters, refuse] at hx ⊢)) <;>
      simp [State.replaceParameters, refuse]
  | detach hb =>
    refine ⟨fun x hx => ?_, .inl ?_⟩
    · cases x <;> simp [State.Same, detachReply] at hx ⊢
    · simp [detachReply]
  | evict n hb =>
    unfold evictReply
    split
    · split
      · refine ⟨fun x hx => ?_, .inl ?_⟩
        · cases x <;> simp [State.Same] at hx ⊢
        · simp
      · exact ⟨hself _, .inl rfl⟩
    · exact ⟨hself _, .inl rfl⟩
  | sweep hb =>
    unfold sweepReply
    split
    · exact ⟨hself _, .inl rfl⟩
    · exact ⟨(enqueueReply_frame p _ s).mono (by simp), .inl (enqueueReply_frame p _ s .settings (by simp))⟩
  | purge d o l hb =>
    unfold purgeReply
    split
    · exact ⟨(enqueueReply_frame p _ s).mono (by simp), .inl (enqueueReply_frame p _ s .settings (by simp))⟩
    · exact ⟨hself _, .inl rfl⟩
  | clear hb => exact ⟨(enqueueReply_frame p _ s).mono (by simp), .inl (enqueueReply_frame p _ s .settings (by simp))⟩
  | abort id hb ha hw => exact ⟨(abortReply_frame id s).mono (by simp), .inl (abortReply_frame id s .settings (by simp))⟩
  | settingGet id hb =>
    unfold settingGetReply
    split
    · exact ⟨hself _, .inl rfl⟩
    split
    · exact ⟨hself _, .inl rfl⟩
    · exact ⟨hself _, .inl rfl⟩
  | timebaseDivider n hb =>
    refine ⟨fun x hx => ?_, .inr ⟨2, n, hb, .timebaseDivider n⟩⟩
    cases x <;> simp [State.Same, setTimebaseDivider] at hx ⊢
  | sweepInterval n hb =>
    refine ⟨fun x hx => ?_, .inr ⟨3, n, hb, .sweepInterval n⟩⟩
    cases x <;> simp [State.Same, setSweepInterval] at hx ⊢
  | transferTimeout n hb =>
    refine ⟨fun x hx => ?_, .inr ⟨4, n, hb, .transferTimeout n⟩⟩
    cases x <;> simp [State.Same, setTransferTimeout] at hx ⊢
  | creditCapacity n hb =>
    refine ⟨fun x hx => ?_, .inr ⟨5, n, hb, .creditCapacity n⟩⟩
    cases x <;> simp [State.Same, setCreditCapacity] at hx ⊢
  | refillAmount n hb =>
    refine ⟨fun x hx => ?_, .inr ⟨6, n, hb, .refillAmount n⟩⟩
    cases x <;> simp [State.Same, setRefillAmount] at hx ⊢
  | refillInterval n hb =>
    refine ⟨fun x hx => ?_, .inr ⟨7, n, hb, .refillInterval n⟩⟩
    cases x <;> simp [State.Same, setRefillInterval] at hx ⊢
  | leaseTake n hb =>
    unfold leaseTakeReply
    split
    · exact ⟨fun x hx => by cases x <;> simp [State.Same] at hx ⊢, .inl rfl⟩
    split
    · exact ⟨fun x hx => by cases x <;> simp [State.Same] at hx ⊢, .inl rfl⟩
    · exact ⟨hself _, .inl rfl⟩
  | leaseRenew n hb =>
    unfold leaseRenewReply
    split
    · exact ⟨fun x hx => by cases x <;> simp [State.Same] at hx ⊢, .inl rfl⟩
    · exact ⟨hself _, .inl rfl⟩
  | leaseDrop hb =>
    unfold leaseDropReply
    split
    · exact ⟨fun x hx => by cases x <;> simp [State.Same] at hx ⊢, .inl rfl⟩
    · exact ⟨hself _, .inl rfl⟩
  | statRead a b hb =>
    unfold statReadReply
    split
    · exact ⟨hself _, .inl rfl⟩
    · exact ⟨hself _, .inl rfl⟩
  | statTake a b hb =>
    unfold statTakeReply
    split
    · refine ⟨fun x hx => ?_, .inl ?_⟩
      · cases x <;> simp [State.Same] at hx ⊢
      · simp
    · exact ⟨hself _, .inl rfl⟩
  | keepalive | unknown | jobStatus | unknownSetting | statReadSession => exact ⟨hself _, .inl rfl⟩

/-- A checked reply is a refusal of the state as it was, or what the request's own rule gives (R128). -/
theorem checkedReply_cases (v : View) (p : Port) (rq : RequestFrame) (act : State → Reply) (s : State) :
    (∃ st, checkedReply v p rq act s = refuse s st)
      ∨ (commonCheck v p rq.body = none ∧ checkedReply v p rq act s = act s) := by
  unfold checkedReply
  split
  next st _ => exact .inl ⟨st, rfl⟩
  next h => exact .inr ⟨h, rfl⟩

/-- A request that passes the common checks is in range (R128 step 4). -/
theorem commonCheck_inRange {v : View} {p : Port} {r : Request} (h : commonCheck v p r = none) : r.inRange = true := by
  unfold commonCheck at h
  split at h
  · cases h
  split at h
  · cases h
  split at h
  · cases h
  split at h
  · cases h
  next hr => simpa using hr

/-- A request other than a read-only one or an ATTACH passes the common checks in ONLINE alone (R128 step 1). -/
theorem commonCheck_online {v : View} {p : Port} {r : Request} (h : commonCheck v p r = none)
    (hr : r.readOnly = false) (ha : ∀ a b c, r ≠ .attach a b c) : v.session.get p = .online := by
  have hp : portStateCheck v p r = none := by
    unfold commonCheck at h
    split at h
    · cases h
    next hp => exact hp
  cases hs : v.session.get p with
  | online => rfl
  | offline =>
    unfold portStateCheck at hp
    cases r <;> simp_all [Request.readOnly] <;> split at hp <;> simp_all
  | draining =>
    unfold portStateCheck at hp
    cases r <;> simp_all [Request.readOnly] <;> split at hp <;> simp_all

/-! ### Timers and links -/

@[simp] theorem State.expireKeepalive_frame (s : State) (p : Port) :
    (s.expireKeepalive p).resetHeld = s.resetHeld ∧ (s.expireKeepalive p).ready = s.ready
      ∧ (s.expireKeepalive p).directory = s.directory ∧ (s.expireKeepalive p).lastGranted = s.lastGranted
      ∧ (s.expireKeepalive p).grant = s.grant ∧ (s.expireKeepalive p).domains = s.domains
      ∧ (s.expireKeepalive p).transfers = s.transfers ∧ (s.expireKeepalive p).settings = s.settings
      ∧ (s.expireKeepalive p).timebase = s.timebase ∧ (s.expireKeepalive p).deviceCounters = s.deviceCounters
      ∧ (s.expireKeepalive p).pending = s.pending := by
  unfold State.expireKeepalive
  split <;> simp

@[simp] theorem State.expireRefill_frame (s : State) (p : Port) :
    (s.expireRefill p).resetHeld = s.resetHeld ∧ (s.expireRefill p).ready = s.ready
      ∧ (s.expireRefill p).directory = s.directory ∧ (s.expireRefill p).lastGranted = s.lastGranted
      ∧ (s.expireRefill p).grant = s.grant ∧ (s.expireRefill p).domains = s.domains
      ∧ (s.expireRefill p).transfers = s.transfers ∧ (s.expireRefill p).maintenance = s.maintenance
      ∧ (s.expireRefill p).notices = s.notices ∧ (s.expireRefill p).lease = s.lease
      ∧ (s.expireRefill p).settings = s.settings ∧ (s.expireRefill p).timebase = s.timebase
      ∧ (s.expireRefill p).portCounters = s.portCounters ∧ (s.expireRefill p).deviceCounters = s.deviceCounters
      ∧ (s.expireRefill p).pending = s.pending := by
  unfold State.expireRefill
  split <;> simp

@[simp] theorem State.expireNextTransfer_frame (s : State) :
    s.expireNextTransfer.resetHeld = s.resetHeld ∧ s.expireNextTransfer.ready = s.ready
      ∧ s.expireNextTransfer.directory = s.directory ∧ s.expireNextTransfer.lastGranted = s.lastGranted
      ∧ s.expireNextTransfer.grant = s.grant ∧ s.expireNextTransfer.domains = s.domains
      ∧ s.expireNextTransfer.maintenance = s.maintenance ∧ s.expireNextTransfer.ports = s.ports
      ∧ s.expireNextTransfer.notices = s.notices ∧ s.expireNextTransfer.lease = s.lease
      ∧ s.expireNextTransfer.settings = s.settings ∧ s.expireNextTransfer.timebase = s.timebase
      ∧ s.expireNextTransfer.portCounters = s.portCounters ∧ s.expireNextTransfer.deviceCounters = s.deviceCounters
      ∧ s.expireNextTransfer.pending = s.pending := by
  unfold State.expireNextTransfer State.expireEntry
  split <;> simp

@[simp] theorem State.expireLease_frame (s : State) :
    s.expireLease.resetHeld = s.resetHeld ∧ s.expireLease.ready = s.ready
      ∧ s.expireLease.directory = s.directory ∧ s.expireLease.lastGranted = s.lastGranted
      ∧ s.expireLease.grant = s.grant ∧ s.expireLease.domains = s.domains
      ∧ s.expireLease.transfers = s.transfers ∧ s.expireLease.maintenance = s.maintenance
      ∧ s.expireLease.ports = s.ports ∧ s.expireLease.settings = s.settings ∧ s.expireLease.timebase = s.timebase
      ∧ s.expireLease.deviceCounters = s.deviceCounters ∧ s.expireLease.pending = s.pending := by
  unfold State.expireLease
  split
  · split <;> simp
  · simp

@[simp] theorem State.expireSweep_frame (s : State) :
    s.expireSweep.resetHeld = s.resetHeld ∧ s.expireSweep.ready = s.ready
      ∧ s.expireSweep.directory = s.directory ∧ s.expireSweep.lastGranted = s.lastGranted
      ∧ s.expireSweep.grant = s.grant ∧ s.expireSweep.domains = s.domains
      ∧ s.expireSweep.transfers = s.transfers ∧ s.expireSweep.ports = s.ports ∧ s.expireSweep.notices = s.notices
      ∧ s.expireSweep.lease = s.lease ∧ s.expireSweep.settings = s.settings ∧ s.expireSweep.timebase = s.timebase
      ∧ s.expireSweep.portCounters = s.portCounters ∧ s.expireSweep.deviceCounters = s.deviceCounters
      ∧ s.expireSweep.pending = s.pending := by
  unfold State.expireSweep
  split
  · unfold State.sweepAttempt
    split <;> simp
  · simp

@[simp] theorem State.startWindow_frame (s : State) (p : Port) :
    (s.startWindow p).resetHeld = s.resetHeld ∧ (s.startWindow p).ready = s.ready
      ∧ (s.startWindow p).directory = s.directory ∧ (s.startWindow p).lastGranted = s.lastGranted
      ∧ (s.startWindow p).grant = s.grant ∧ (s.startWindow p).domains = s.domains
      ∧ (s.startWindow p).transfers = s.transfers ∧ (s.startWindow p).maintenance = s.maintenance
      ∧ (s.startWindow p).ports = s.ports ∧ (s.startWindow p).lease = s.lease
      ∧ (s.startWindow p).settings = s.settings ∧ (s.startWindow p).timebase = s.timebase
      ∧ (s.startWindow p).portCounters = s.portCounters ∧ (s.startWindow p).deviceCounters = s.deviceCounters
      ∧ (s.startWindow p).pending = s.pending := by
  unfold State.startWindow
  split <;> simp

@[simp] theorem State.linkIsLost_frame (s : State) (p : Port) :
    (s.linkIsLost p).resetHeld = s.resetHeld ∧ (s.linkIsLost p).ready = s.ready
      ∧ (s.linkIsLost p).directory = s.directory ∧ (s.linkIsLost p).lastGranted = s.lastGranted
      ∧ (s.linkIsLost p).grant = s.grant ∧ (s.linkIsLost p).domains = s.domains
      ∧ (s.linkIsLost p).transfers = s.transfers ∧ (s.linkIsLost p).settings = s.settings
      ∧ (s.linkIsLost p).timebase = s.timebase ∧ (s.linkIsLost p).deviceCounters = s.deviceCounters
      ∧ (s.linkIsLost p).pending = s.pending := by
  unfold State.linkIsLost State.loseLink
  split <;> simp

@[simp] theorem State.frameArrives_frame (s : State) (p : Port) (f : Frame) :
    (s.frameArrives p f).resetHeld = s.resetHeld ∧ (s.frameArrives p f).ready = s.ready
      ∧ (s.frameArrives p f).directory = s.directory ∧ (s.frameArrives p f).lastGranted = s.lastGranted
      ∧ (s.frameArrives p f).grant = s.grant ∧ (s.frameArrives p f).domains = s.domains
      ∧ (s.frameArrives p f).transfers = s.transfers ∧ (s.frameArrives p f).maintenance = s.maintenance
      ∧ (s.frameArrives p f).lease = s.lease ∧ (s.frameArrives p f).settings = s.settings
      ∧ (s.frameArrives p f).timebase = s.timebase ∧ (s.frameArrives p f).deviceCounters = s.deviceCounters
      ∧ (s.frameArrives p f).pending = s.pending := by
  unfold State.frameArrives State.requestArrives
  dsimp only
  split
  · split <;> simp
  · simp

@[simp] theorem State.tick_frame (s : State) :
    s.tick.resetHeld = s.resetHeld ∧ s.tick.ready = s.ready ∧ s.tick.directory = s.directory
      ∧ s.tick.lastGranted = s.lastGranted ∧ s.tick.grant = s.grant ∧ s.tick.domains = s.domains
      ∧ s.tick.settings = s.settings ∧ s.tick.portCounters = s.portCounters
      ∧ s.tick.deviceCounters = s.deviceCounters ∧ s.tick.pending = s.pending := by
  simp [State.tick]

/-- What every expiry and every window's start keeps, everything that a millitick owes keeps (log 10). -/
theorem State.deliverDue_keeps {L : State → Prop} (hk : ∀ s p, L s → L (State.expireKeepalive s p))
    (hr : ∀ s p, L s → L (State.expireRefill s p)) (ht : ∀ s, L s → L (State.expireNextTransfer s))
    (hl : ∀ s, L s → L (State.expireLease s)) (hs : ∀ s, L s → L (State.expireSweep s))
    (hw : ∀ s p, L s → L (State.startWindow s p)) {s : State} (h : L s) : L s.deliverDue := by
  have each : ∀ (f : State → Port → State), (∀ s p, L s → L (f s p)) → ∀ s, L s → L (s.eachPort f) := fun f hf s h => by
    simp only [State.eachPort, allPorts, List.foldl_cons, List.foldl_nil]
    exact hf _ _ (hf _ _ (hf _ _ (hf _ _ h)))
  have all : ∀ (l : List Nat) (s : State), L s → L (l.foldl (fun t _ => t.expireNextTransfer) s) := fun l => by
    induction l with
    | nil => exact fun s h => h
    | cons n rest ih => exact fun s h => ih _ (ht _ h)
  exact each _ hw _ (hs _ (hl _ (all _ _ (each _ hr _ (each _ hk _ h)))))

theorem State.deliverDue_settled {α : Type} (f : State → α) (hk : ∀ s p, f (State.expireKeepalive s p) = f s)
    (hr : ∀ s p, f (State.expireRefill s p) = f s) (ht : ∀ s, f (State.expireNextTransfer s) = f s)
    (hl : ∀ s, f (State.expireLease s) = f s) (hs : ∀ s, f (State.expireSweep s) = f s)
    (hw : ∀ s p, f (State.startWindow s p) = f s) (s : State) : f s.deliverDue = f s :=
  State.deliverDue_keeps (L := fun t => f t = f s) (fun t p h => (hk t p).trans h) (fun t p h => (hr t p).trans h)
    (fun t h => (ht t).trans h) (fun t h => (hl t).trans h) (fun t h => (hs t).trans h)
    (fun t p h => (hw t p).trans h) rfl

@[simp] theorem State.deliverDue_frame (s : State) :
    s.deliverDue.resetHeld = s.resetHeld ∧ s.deliverDue.ready = s.ready ∧ s.deliverDue.directory = s.directory
      ∧ s.deliverDue.lastGranted = s.lastGranted ∧ s.deliverDue.grant = s.grant
      ∧ s.deliverDue.domains = s.domains ∧ s.deliverDue.settings = s.settings ∧ s.deliverDue.timebase = s.timebase
      ∧ s.deliverDue.deviceCounters = s.deviceCounters ∧ s.deliverDue.pending = s.pending := by
  refine ⟨?_, ?_, ?_, ?_, ?_, ?_, ?_, ?_, ?_, ?_⟩
  · exact State.deliverDue_settled State.resetHeld (by simp) (by simp) (by simp) (by simp) (by simp) (by simp) s
  · exact State.deliverDue_settled State.ready (by simp) (by simp) (by simp) (by simp) (by simp) (by simp) s
  · exact State.deliverDue_settled State.directory (by simp) (by simp) (by simp) (by simp) (by simp) (by simp) s
  · exact State.deliverDue_settled State.lastGranted (by simp) (by simp) (by simp) (by simp) (by simp) (by simp) s
  · exact State.deliverDue_settled State.grant (by simp) (by simp) (by simp) (by simp) (by simp) (by simp) s
  · exact State.deliverDue_settled State.domains (by simp) (by simp) (by simp) (by simp) (by simp) (by simp) s
  · exact State.deliverDue_settled State.settings (by simp) (by simp) (by simp) (by simp) (by simp) (by simp) s
  · exact State.deliverDue_settled State.timebase (by simp) (by simp) (by simp) (by simp) (by simp) (by simp) s
  · exact State.deliverDue_settled State.deviceCounters (by simp) (by simp) (by simp) (by simp) (by simp) (by simp) s
  · exact State.deliverDue_settled State.pending (by simp) (by simp) (by simp) (by simp) (by simp) (by simp) s

end Sys2Proof.Machine
end

section
/-! SUPPORT. The settings, the policies, READY and the lease: what every command leaves of them (R24, R54, R173, R179). -/

namespace Sys2Proof.Machine

/-! ### Parts that a grant leaves -/

@[simp] theorem State.milliTick_frame (s : State) :
    s.milliTick.resetHeld = s.resetHeld ∧ s.milliTick.ready = s.ready ∧ s.milliTick.directory = s.directory
      ∧ s.milliTick.domains = s.domains ∧ s.milliTick.settings = s.settings
      ∧ s.milliTick.deviceCounters = s.deviceCounters ∧ s.milliTick.pending = s.pending := by
  simp [State.milliTick]

/-- A request that runs at once keeps every part that its own rule and the response keep. -/
theorem DirectAct.answer_frame {p : Port} {s : State} {rq : RequestFrame} {c : Instr} {act : State → Reply}
    (h : DirectAct p s rq c act) :
    s.ChangesOnly (s.answer s.view p rq act).arbitrate
        [.arbiter, .maintenance, .ports, .notices, .lease, .settings, .portCounters, .deviceCounters]
      ∧ ((s.answer s.view p rq act).arbitrate.settings = s.settings
        ∨ ∃ id n, rq.body = .settingSet id n ∧ (Request.settingSet id n).inRange = true
            ∧ SettingRow p s.settings c id n (s.answer s.view p rq act).arbitrate.settings) := by
  unfold State.answer
  dsimp only
  rcases checkedReply_cases s.view p rq act s with ⟨st, he⟩ | ⟨hp, he⟩ <;> rw [he]
  · refine ⟨fun x hx => ?_, .inl ?_⟩
    · cases x <;> simp [State.Same, refuse] at hx ⊢
    · simp [refuse]
  · have hfr := h.frame.1.trans (State.respond_arbitrate_changes (act s).state p rq (act s).status (act s).result)
    refine ⟨hfr.mono (by simp), h.frame.2.imp (fun hs => ?_) fun ⟨id, n, hb, hs⟩ => ?_⟩
    · simpa using hs
    · exact ⟨id, n, hb, hb ▸ commonCheck_inRange hp, by simpa using hs⟩

/-- How a request in its grant acts on the settings: not at all, or by one of the two rows that need a grant. -/
theorem State.actRequest_settings {p : Port} {v : View} {rq : RequestFrame} {c : Instr} {u : Option Nat}
    {act : State → Reply} (h : GrantedAct p v rq c u act) (s : State) :
    (s.actRequest v p rq act).settings = s.settings
      ∨ (∃ x, c = .settingSetHashSeed p ∧ (Request.settingSet 1 x).inRange = true
          ∧ (s.actRequest v p rq act).settings = { s.settings with hashSeed := x })
      ∨ ∃ id x q, c = .settingSetQuota p ∧ (Request.settingSet id x).inRange = true ∧ quotaPortOf id = some q
          ∧ (s.actRequest v p rq act).settings = { s.settings with quota := s.settings.quota.set q x } := by
  unfold State.actRequest
  dsimp only
  rcases checkedReply_cases v p rq act s with ⟨st, he⟩ | ⟨hp, he⟩ <;> rw [he]
  · exact .inl (by simp [refuse])
  · have hr := commonCheck_inRange hp
    rcases h.acts s with ha | ⟨_, _, _, _, _, _, _, _, _, _, _, _, _, _, _, _, ha⟩ | ⟨x, hc, hb, -, ha⟩
      | ⟨id, x, q, hc, hb, hq, -, ha⟩
    · exact .inl (by simpa [State.Same] using ha.frame .settings (by simp))
    · exact .inl (by rw [ha]; simp)
    · exact .inr (.inl ⟨x, hc, hb ▸ hr, by rw [ha]; simp⟩)
    · exact .inr (.inr ⟨id, x, q, hc, hb ▸ hr, hq, by rw [ha]; simp⟩)

/-- How a request in its grant acts on the policies: not at all, or by DOMAIN_SET. -/
theorem State.actRequest_policies {p : Port} {v : View} {rq : RequestFrame} {c : Instr} {u : Option Nat}
    {act : State → Reply} (h : GrantedAct p v rq c u act) (s : State) :
    (s.actRequest v p rq act).domains.map Domain.policy = s.domains.map Domain.policy ∨ c = .domainSet p := by
  unfold State.actRequest
  dsimp only
  rcases checkedReply_cases v p rq act s with ⟨st, he⟩ | ⟨hp, he⟩ <;> rw [he]
  · exact .inl (by simp [refuse])
  · rcases h.acts s with ha | ⟨_, _, _, _, _, _, _, _, _, _, _, _, hc, _⟩ | ⟨x, hc, hb, -, ha⟩
      | ⟨id, x, q, hc, hb, hq, -, ha⟩
    · exact .inl (by simpa using ha.policies)
    · exact .inr hc
    · exact .inl (by rw [ha]; simp)
    · exact .inl (by rw [ha]; simp)

theorem State.actBucket_frame {v : View} {j : Job} {c : Instr} {u : Option Nat} {f : Nat → State → State}
    (h : BucketAct v j c u f) (s : State) :
    (s.actBucket j f).settings = s.settings
      ∧ (s.actBucket j f).domains.map Domain.policy = s.domains.map Domain.policy := by
  have hb := s.overSlots_actsInBucket h.actsInBucket (bucketSlots j.cursor)
  unfold State.actBucket
  exact ⟨by simpa [State.Same] using hb.frame .settings (by simp), by simpa using hb.policies⟩

theorem State.domain_policy_eq {s t : State} (h : t.domains.map Domain.policy = s.domains.map Domain.policy)
    (d : DomainId) : (t.domain d).policy = (s.domain d).policy := by
  have := congrArg (fun v => v[d.val]) h
  simpa [State.domain, Vector.get_eq_getElem] using this

/-! ### Policies and settings -/

/-- Settles O17: the settings change by their own rows alone, and a policy by DOMAIN_SET alone. -/
theorem policyAndSettingsKeepTheirValues : Obligations.PolicyAndSettingsKeepTheirValues := by
  unfold Obligations.PolicyAndSettingsKeepTheirValues
  intro c s t h hreset
  have same : t.domains.map Domain.policy = s.domains.map Domain.policy → t.settings = s.settings →
      ((∀ p, c ≠ .domainSet p) → ∀ d, (t.domain d).policy = (s.domain d).policy)
      ∧ ((∀ p, c ≠ .settingSetHashSeed p ∧ c ≠ .settingSetTimebaseDivider p ∧ c ≠ .settingSetSweepInterval p
          ∧ c ≠ .settingSetTransferTimeout p ∧ c ≠ .settingSetCreditCapacity p ∧ c ≠ .settingSetRefillAmount p
          ∧ c ≠ .settingSetRefillInterval p ∧ c ≠ .settingSetQuota p) → t.settings = s.settings) :=
    fun hd hs => ⟨fun _ => State.domain_policy_eq hd, fun _ => hs⟩
  cases exec_effect h with
  | resetN => exact absurd rfl hreset
  | direct _ _ p rq act hrq ha =>
    obtain ⟨hfr, hset⟩ := ha.answer_frame
    refine ⟨fun _ => State.domain_policy_eq (congrArg _ (hfr .domains (by simp))), fun hc => ?_⟩
    rcases hset with hset | ⟨id, n, -, -, hrow⟩
    · exact hset
    · have := hc p
      generalize (s.answer s.view p rq act).arbitrate.settings = m at hrow
      cases hrow <;> simp at this
  | granted _ _ p rq g u act hg hcl hrq ha =>
    refine ⟨fun hc => State.domain_policy_eq ?_, fun hc => ?_⟩
    · simp only [State.advance_frame]
      split
      · rfl
      · exact (State.actRequest_policies ha s).resolve_right (hc p)
    · have hc := hc p
      simp only [State.advance_frame]
      split
      · rfl
      · rcases State.actRequest_settings ha s with h | ⟨_, h, _⟩ | ⟨_, _, _, h, _⟩
        · exact h
        · exact absurd h hc.1
        · exact absurd h hc.2.2.2.2.2.2.2
  | bucket _ _ g j rest u f hg hcl hq ha =>
    refine same ?_ ?_
    · simp only [State.advance_frame]
      split
      · rfl
      · exact (State.actBucket_frame ha s).2
    · simp only [State.advance_frame]
      split
      · rfl
      · exact (State.actBucket_frame ha s).1
  | resolution x _ g y rest hg =>
    have ha := resolveExpiry_acts g.view y x.failing s .p0
    exact same (by simpa using ha.policies) (by simpa [State.Same] using ha.frame .settings (by simp))
  | nothing | abortWaits | resolutionGoesOn | resetNRelease | millitick | pacingWindowStart | linkUp | linkLost
  | frameArrival | requestTake | responseTransmit | noticeTransmit | frameTransmitEnd | keepaliveTimerExpiry
  | refillTimerExpiry | transferTimerExpiry | leaseTimerExpiry | sweepTimerExpiry =>
    refine same ?_ ?_ <;>
      simp [State.addAbort, State.linkComesUp, State.takeRequest, State.sendNotice, State.frameSent]

/-! ### READY -/

/-- READY rises in a grant only where the start-up clear finishes at bucket 2047 (R24). -/
theorem State.endBucket_ready {s : State} {j : Job} {rest : List Job} (h : s.maintenance.queue = j :: rest)
    (k : JobCounts) : (s.modifyCounts (fun _ => k)).endBucket.ready
      = (s.ready || (decide (2048 ≤ j.cursor + 1) && decide (j.work = .clear) && decide (j.id = 0))) := by
  have hm := State.modifyCounts_maintenance h (fun _ => k)
  have hr : (s.modifyCounts (fun _ => k)).ready = s.ready := by simp
  generalize s.modifyCounts (fun _ => k) = s1 at hm hr
  have hq : s1.maintenance.queue = { j with counts := k } :: rest := by rw [hm]
  unfold State.endBucket
  rw [hq]
  dsimp only
  split
  next hl =>
    have hl' : 2048 ≤ j.cursor + 1 := hl
    simp [State.finishHead_ready hq, hr, hl']
  next hl =>
    have hl' : ¬ 2048 ≤ j.cursor + 1 := hl
    have hr2 : (s1.modifyHeadJob (fun h => { h with cursor := h.cursor + 1 })).ready = s.ready := by simp [hr]
    unfold State.stopIfAborted
    split
    · split
      · simp only [State.answerAborts_frame, State.answerAbort_frame, State.finishHead_aborted_ready,
          State.clearAborts_frame, hr2]
        simp [hl']
      · simp [hr, hl']
    · simp [hr, hl']

theorem State.conclude_ready (s : State) (c : Client) (e : Ending) :
    (s.conclude c e).ready = s.ready
      ∨ (c = .maintenance ∧ ∃ j rest, s.maintenance.queue = j :: rest ∧ j.id = 0 ∧ j.work = .clear ∧ 2047 ≤ j.cursor
          ∧ (s.conclude c e).ready = true) := by
  cases c with
  | executor p => exact .inl (by cases e <;> simp [State.conclude])
  | transferController => exact .inl rfl
  | maintenance =>
    cases e with
    | response => exact .inl rfl
    | resolution => exact .inl rfl
    | bucket k =>
      change (s.modifyCounts (fun _ => k)).endBucket.ready = _ ∨ _
      cases hq : s.maintenance.queue with
      | nil => exact .inl (by simp [State.modifyCounts, State.modifyHeadJob, State.endBucket, hq])
      | cons j rest =>
        have hr := State.endBucket_ready hq k
        by_cases hl : 2048 ≤ j.cursor + 1 ∧ j.work = .clear ∧ j.id = 0
        · refine .inr ⟨rfl, j, rest, rfl, hl.2.2, hl.2.1, by omega, ?_⟩
          change (s.modifyCounts (fun _ => k)).endBucket.ready = true
          rw [hr]
          simp [hl.2.2, hl.2.1, hl.1]
        · refine .inl (hr.trans ?_)
          simp only [not_and] at hl
          by_cases h1 : 2048 ≤ j.cursor + 1 <;> by_cases h2 : j.work = .clear <;> simp_all

theorem State.advance_ready (s : State) (u : Option Nat) :
    (s.advance u).ready = s.ready
      ∨ ∃ g j rest, s.grant = some g ∧ g.client = .maintenance ∧ s.maintenance.queue = j :: rest ∧ j.id = 0
          ∧ j.work = .clear ∧ 2047 ≤ j.cursor ∧ (s.advance u).ready = true := by
  unfold State.advance
  split
  next g hg =>
    dsimp only
    split
    · unfold State.finishGrant
      simp only [State.deliverAll_frame, State.withGrant_grant]
      split
      next e _ =>
        rcases State.conclude_ready ((g.reports.take (u.getD (g.reports.length + 1))).foldl State.deliver
          (s.withGrant (some { g with reports := g.reports.drop (u.getD (g.reports.length + 1)) }))) g.client e with
          h | ⟨hc, j, rest, hq, h0, hw, hcur, h⟩
        · exact .inl (by simpa using h)
        · exact .inr ⟨g, j, rest, hg, hc, by simpa using hq, h0, hw, hcur, by simpa using h⟩
      · exact .inl (by simp)
    · exact .inl (by simp)
  · exact .inl rfl

/-- Settles O16: a grant raises READY only as `State.advance_ready` says, and no other command but RESET_N changes it. -/
theorem readyChangesOnlyByClearAndReset : Obligations.ReadyChangesOnlyByClearAndReset := by
  unfold Obligations.ReadyChangesOnlyByClearAndReset
  intro c s t h
  have same : t.ready = s.ready → (s.ready = true → t.ready = false → c = .resetN)
      ∧ (s.ready = false → t.ready = true → (∃ g, c = .startupClearBucket g)
        ∧ ∃ j rest, s.maintenance.queue = j :: rest ∧ j.id = 0 ∧ j.work = .clear ∧ 2047 ≤ j.cursor) := fun he =>
    ⟨fun h1 h2 => by simp_all, fun h1 h2 => by simp_all⟩
  have quiet : ∀ {w : State} {g : Grant} {u : Option Nat}, s.Acted w g → g.client ≠ .maintenance →
      (w.advance u).ready = s.ready := fun {w g u} hw hc => by
    obtain ⟨l, e, hg⟩ := hw.grant
    rcases w.advance_ready u with hr | ⟨g', _, _, hg', hc', _⟩
    · exact hr.trans (hw.frame .ready (by simp))
    · cases hg.symm.trans hg'
      exact absurd hc' hc
  cases exec_effect h with
  | resetN => exact ⟨fun _ _ => rfl, fun _ h2 => by simp [State.reset] at h2⟩
  | direct _ _ p rq act hrq ha => exact same (ha.answer_frame.1 .ready (by simp))
  | granted _ _ p rq g u act hg hcl hrq ha => exact same (quiet (ha.acted hg) (by rw [hcl]; simp))
  | resolutionGoesOn _ _ g hg hcl hb => exact same (quiet (.of_begun hg hb) (by rw [hcl]; simp))
  | resolution x _ g y rest hg hcl => exact same (quiet (resolveExpiry_acted hg y x.failing) (by rw [hcl]; simp))
  | bucket _ _ g j rest u f hg hcl hq ha =>
    have hw := ha.acted hg hq
    have hm := hw.frame .maintenance (by simp)
    rcases State.advance_ready _ u with hr | ⟨_, j', rest', _, _, hq', h0, hwk, hcur, hr⟩
    · exact same (hr.trans (hw.frame .ready (by simp)))
    · have hjj : j = j' := by
        have : s.maintenance.queue = j' :: rest' := (congrArg Maintenance.queue hm).symm.trans hq'
        rw [hq] at this
        exact (List.cons.inj this).1
      subst hjj
      refine ⟨fun _ h2 => by simp [hr] at h2, fun _ _ => ⟨?_, j, rest, hq, h0, hwk, hcur⟩⟩
      cases ha with
      | startup g => exact ⟨g, rfl⟩
      | rewrite _ _ hid => exact absurd h0 hid
      | sweep _ hk | purge _ _ hk | orphan _ _ _ hk => rw [hwk] at hk; cases hk
  | nothing | abortWaits | resetNRelease | millitick | pacingWindowStart | linkUp | linkLost
  | frameArrival | requestTake | responseTransmit | noticeTransmit | frameTransmitEnd | keepaliveTimerExpiry
  | refillTimerExpiry | transferTimerExpiry | leaseTimerExpiry | sweepTimerExpiry =>
    refine same ?_
    simp [State.addAbort, State.linkComesUp, State.takeRequest, State.sendNotice, State.frameSent]

/-! ### The lease -/

/-- The lease stands as it did, or its holder has gone. -/
def Lease.Stands (l m : Lease) : Prop := m.holder = l.holder ∨ m.holder = none

theorem State.leaveOnline_leaseStands (s : State) (p : Port) (c : LeaveCause) :
    s.lease.Stands (s.leaveOnline p c).1.lease := by
  rw [State.leaveOnline_lease]
  split
  · exact .inr rfl
  · exact .inl rfl

theorem Lease.Stands.trans {a b c : Lease} (h : a.Stands b) (k : b.Stands c) : a.Stands c := by
  rcases k with k | k
  · rcases h with h | h
    · exact .inl (k.trans h)
    · exact .inr (k.trans h)
  · exact .inr k

theorem Lease.countDown_holder (l : Lease) : l.countDown.holder = l.holder := by
  unfold Lease.countDown
  split <;> rfl

theorem State.milliTick_leaseStands (s : State) : s.lease.Stands s.milliTick.lease := by
  have h : s.lease.Stands s.deliverDue.lease := by
    refine State.deliverDue_keeps (L := fun t => s.lease.Stands t.lease) (fun t p h => ?_) (fun t p h => ?_)
      (fun t h => ?_) (fun t h => ?_) (fun t h => ?_) (fun t p h => ?_) (.inl rfl)
    · unfold State.expireKeepalive
      split
      · exact h.trans (t.leaveOnline_leaseStands p _)
      · exact h
    · simpa using h
    · simpa using h
    · unfold State.expireLease
      split
      · split
        · exact .inr (by simp [Lease.free])
        · exact h
      · exact h
    · simpa using h
    · simpa using h
  refine h.trans (.inl ?_)
  simp [State.milliTick, State.tick, Lease.countDown_holder]

/-- Settles O18: of all commands a LEASE_TAKE that finds the lease FREE alone gives it a holder, and its common checks have
found the port ONLINE. -/
theorem leaseIsTakenOnlyFree : Obligations.LeaseIsTakenOnlyFree := by
  unfold Obligations.LeaseIsTakenOnlyFree
  intro c s t p h ht hs
  have stands : s.lease.Stands t.lease →
      c = .leaseTake p ∧ s.lease.holder = none ∧ (s.port p).session = .online := fun hl => by
    rcases hl with hl | hl
    · exact absurd (hl.symm.trans ht) hs
    · rw [hl] at ht
      cases ht
  have eq : t.lease = s.lease → c = .leaseTake p ∧ s.lease.holder = none ∧ (s.port p).session = .online :=
    fun he => stands (.inl (congrArg _ he))
  cases exec_effect h with
  | resetN => cases ht
  | direct _ _ q rq act hrq ha =>
    unfold State.answer at ht stands eq
    dsimp only at ht stands eq
    simp only [State.arbitrate_frame, State.respond_frame] at ht stands eq
    rcases checkedReply_cases s.view q rq act s with ⟨st, he⟩ | ⟨hp, he⟩ <;> rw [he] at ht stands eq
    · exact eq rfl
    cases ha with
    | leaseTake n hb =>
      have hon := commonCheck_online hp (by rw [hb]; rfl) (by rw [hb]; simp)
      unfold leaseTakeReply at ht
      split at ht
      next hn =>
        cases ht
        exact ⟨rfl, hn, by simpa using hon⟩
      next o ho =>
        split at ht
        next hoq => cases ht; exact absurd (hoq ▸ ho) hs
        · exact absurd ht hs
    | leaseRenew n hb =>
      unfold leaseRenewReply at ht
      split at ht
      next hh => cases ht; exact absurd hh hs
      · exact absurd ht hs
    | leaseDrop hb =>
      unfold leaseDropReply at ht
      split at ht
      · cases ht
      · exact absurd ht hs
    | attach n m k hb =>
      refine stands ?_
      unfold attachReply
      split
      · unfold State.comeOnlineLinked
        split
        · exact .inl (by simp)
        · refine Lease.Stands.trans (.inl ?_) (State.leaveOnline_leaseStands _ q _)
          simp
      · exact .inl (by simp [State.replaceParameters])
      · exact .inl rfl
    | detach hb => exact stands (s.leaveOnline_leaseStands q _)
    | evict n hb =>
      refine stands ?_
      unfold evictReply
      split
      · split
        · exact s.leaveOnline_leaseStands _ _
        · exact .inl rfl
      · exact .inl rfl
    | sweep hb =>
      refine eq ?_
      unfold sweepReply
      split
      · rfl
      · exact enqueueReply_frame q _ s .lease (by simp)
    | purge d o l hb =>
      refine eq ?_
      unfold purgeReply
      split
      · exact enqueueReply_frame q _ s .lease (by simp)
      · rfl
    | clear hb => exact eq (enqueueReply_frame q _ s .lease (by simp))
    | abort id => exact eq (abortReply_frame id s .lease (by simp))
    | settingGet id =>
      refine eq ?_
      unfold settingGetReply
      split
      · rfl
      · split <;> rfl
    | statRead a b =>
      refine eq ?_
      unfold statReadReply
      split <;> rfl
    | statTake a b =>
      refine eq ?_
      unfold statTakeReply
      split
      · simp
      · rfl
    | keepalive | unknown | jobStatus | timebaseDivider | unknownSetting | sweepInterval | transferTimeout
    | creditCapacity | refillAmount | refillInterval | statReadSession => exact eq rfl
  | granted _ _ q rq g u act hg hcl hrq ha =>
    exact eq (by simpa [State.Same] using (ha.acted hg).frame .lease (by simp))
  | resolutionGoesOn _ _ g hg hcl hb => exact eq (by simp)
  | resolution x _ g y rest hg hcl => exact eq (by
    simpa [State.Same] using (resolveExpiry_acted hg y x.failing).frame .lease (by simp))
  | bucket _ _ g j rest u f hg hcl hq ha => exact eq (by
    simpa [State.Same] using (ha.acted hg hq).frame .lease (by simp))
  | linkLost _ q hl =>
    refine stands ?_
    simp only [State.arbitrate_frame]
    unfold State.linkIsLost
    split
    · exact (s.loseLink q).leaveOnline_leaseStands q .link
    · exact .inl (by simp [State.loseLink])
  | keepaliveTimerExpiry _ q =>
    refine stands ?_
    simp only [State.arbitrate_frame, State.expireKeepalive]
    split
    · exact s.leaveOnline_leaseStands q .keepalive
    · exact .inl rfl
  | leaseTimerExpiry =>
    refine stands ?_
    unfold State.expireLease
    split
    · split
      · exact .inr (by simp [Lease.free])
      · exact .inl rfl
    · exact .inl rfl
  | millitick => exact stands s.milliTick_leaseStands
  | nothing | abortWaits | resetNRelease | pacingWindowStart | linkUp | frameArrival | requestTake | responseTransmit
  | noticeTransmit | frameTransmitEnd | refillTimerExpiry | transferTimerExpiry | sweepTimerExpiry =>
    refine eq ?_
    simp [State.addAbort, State.linkComesUp, State.takeRequest, State.sendNotice, State.frameSent]

end Sys2Proof.Machine
end

section
/-! SUPPORT. A predicate of the state that every operation keeps, every step keeps. -/

namespace Sys2Proof.Machine

/-- A predicate that each operation of the part keeps. -/
structure State.Kept (L : State → Prop) : Prop where
  reset : L State.reset
  quiet : ∀ {s t}, L s → s.ChangesOnly t [.resetHeld, .arbiter, .timebase, .pending] → L t
  refused : ∀ {s} {p : Port} {rq : RequestFrame} (st : Status), L s → (s.port p).executor = .busy rq →
    L (s.respond p rq st .none)
  direct : ∀ {s} {p : Port} {rq : RequestFrame} {c : Instr} {act : State → Reply}, L s →
    (s.port p).executor = .busy rq → commonCheck s.view p rq.body = none → DirectAct p s rq c act →
    L ((act s).state.respond p rq (act s).status (act s).result)
  abortWaits : ∀ {s} (p : Port), L s → L (s.addAbort p)
  request : ∀ {s} {p : Port} {v : View} {rq : RequestFrame} {c : Instr} {u : Option Nat} {act : State → Reply}, L s →
    rq.body.inRange = true → GrantedAct p v rq c u act → L (act s).state
  bucket : ∀ {s} {v : View} {j : Job} {rest : List Job} {c : Instr} {u : Option Nat} {f : Nat → State → State}, L s →
    s.maintenance.queue = j :: rest → BucketAct v j c u f → L (s.actBucket j f)
  resolution : ∀ {s} (v : View) (x : TransferIndex) (rest : List TransferIndex) (f : List Nat), L s →
    s.transfers.expiryList = x :: rest → L (resolveExpiry v x f s)
  advance : ∀ {s} (u : Option Nat), L s → L (s.advance u)
  startWindow : ∀ {s} (p : Port), L s → L (s.startWindow p)
  linkUp : ∀ {s} (p : Port), L s → (s.port p).link = .down → L (s.linkComesUp p)
  linkLost : ∀ {s} (p : Port), L s → (s.port p).link = .up → L (s.linkIsLost p)
  arrival : ∀ {s} (p : Port) (f : Frame), L s → (s.port p).link = .up → L (s.frameArrives p f)
  take : ∀ {s} (p : Port) (rq : RequestFrame) (rest : List RequestFrame), L s → (s.port p).executor = .idle →
    (s.port p).requestQueue = rq :: rest → (s.port p).responseQueue.length < Config.responseQueueSize →
    L (s.takeRequest p rq rest)
  beginResponse : ∀ {s} (p : Port) (r : Response), L s → (s.port p).canTransmit = true →
    (s.port p).readyResponse = some r → L (s.modifyPort p (fun c => c.beginResponse r))
  sendNotice : ∀ {s} (p : Port) (n : Notice) (rest : List Notice), L s → (s.port p).canTransmit = true →
    (s.noticePort p).queue = n :: rest → L (s.sendNotice p n)
  frameSent : ∀ {s} (p : Port) (f : OutFrame), L s → (s.port p).transmitter = some f → L (s.frameSent p f)
  keepalive : ∀ {s} (p : Port), L s → L (s.expireKeepalive p)
  refill : ∀ {s} (p : Port), L s → L (s.expireRefill p)
  transfer : ∀ {s}, L s → L s.expireNextTransfer
  lease : ∀ {s}, L s → L s.expireLease
  sweep : ∀ {s}, L s → L s.expireSweep
  tick : ∀ {s}, L s → L s.tick

section
variable {L : State → Prop}

theorem State.Kept.arbitrate (h : State.Kept L) {s : State} (hs : L s) : L s.arbitrate :=
  h.quiet hs fun x hx => by cases x <;> simp [State.Same] at hx ⊢

theorem State.Kept.withGrant (h : State.Kept L) {s : State} (hs : L s) (g : Option Grant) : L (s.withGrant g) :=
  h.quiet hs fun x hx => by cases x <;> simp [State.Same] at hx ⊢

theorem State.Kept.withPending (h : State.Kept L) {s : State} (hs : L s) (l : List Instr) : L (s.withPending l) :=
  h.quiet hs fun x hx => by cases x <;> simp [State.Same] at hx ⊢

theorem State.Kept.withTimebase (h : State.Kept L) {s : State} (hs : L s) (x : Timebase) : L (s.withTimebase x) :=
  h.quiet hs fun y hy => by cases y <;> simp [State.Same] at hy ⊢

theorem State.Kept.deliverDue (h : State.Kept L) {s : State} (hs : L s) : L s.deliverDue :=
  State.deliverDue_keeps (L := L) (fun _ p => h.keepalive p) (fun _ p => h.refill p) (fun _ => h.transfer) (fun _ => h.lease)
    (fun _ => h.sweep) (fun _ p => h.startWindow p) hs

theorem State.Kept.milliTick (h : State.Kept L) {s : State} (hs : L s) : L s.milliTick :=
  h.arbitrate (h.tick (h.deliverDue hs))

theorem State.Kept.answer (h : State.Kept L) {s : State} (hs : L s) {p : Port} {rq : RequestFrame} {c : Instr}
    {act : State → Reply} (hrq : (s.port p).executor = .busy rq) (ha : DirectAct p s rq c act) :
    L (s.answer s.view p rq act) := by
  unfold State.answer
  dsimp only
  rcases checkedReply_cases s.view p rq act s with ⟨st, he⟩ | ⟨hc, he⟩ <;> rw [he]
  · exact h.refused st hs hrq
  · exact h.direct hs hrq hc ha

theorem State.Kept.actRequest (h : State.Kept L) {s : State} (hs : L s) {v : View} {p : Port} {rq : RequestFrame}
    {c : Instr} {u : Option Nat} {act : State → Reply} (ha : GrantedAct p v rq c u act) :
    L (s.actRequest v p rq act) := by
  unfold State.actRequest
  dsimp only
  rcases checkedReply_cases v p rq act s with ⟨st, he⟩ | ⟨hc, he⟩ <;> rw [he]
  · exact h.withGrant hs _
  · exact h.withGrant (h.request hs (commonCheck_inRange hc) ha) _

/-- Every command keeps what every operation keeps. -/
theorem State.Kept.effect (h : State.Kept L) {c : Instr} {s t : State} (hs : L s) (he : Effect c s t) : L t := by
  cases he with
  | nothing => exact hs
  | direct _ _ p rq act hrq ha => exact h.arbitrate (h.answer hs hrq ha)
  | abortWaits _ p => exact h.abortWaits p hs
  | granted _ _ p rq g u act _ _ _ ha =>
    refine h.advance u ?_
    split
    · exact hs
    · exact h.actRequest hs ha
  | bucket _ _ g j rest u f _ _ hq ha =>
    refine h.advance u ?_
    split
    · exact hs
    · exact h.bucket hs hq ha
  | resolutionGoesOn => exact h.advance _ hs
  | resolution x _ g y rest _ _ _ hx => exact h.advance _ (h.withGrant (h.resolution g.view y rest x.failing hs hx) _)
  | resetN => exact h.withPending h.reset _
  | resetNRelease =>
    exact h.arbitrate (h.quiet hs fun x hx => by cases x <;> simp [State.Same] at hx ⊢)
  | millitick => exact h.milliTick hs
  | pacingWindowStart _ p => exact h.startWindow p hs
  | linkUp _ p hl => exact h.linkUp p hs hl
  | linkLost _ p hl => exact h.arbitrate (h.linkLost p hs hl)
  | frameArrival _ p f hl => exact h.arrival p f hs hl
  | requestTake _ p rq rest hi hq hr => exact h.arbitrate (h.take p rq rest hs hi hq hr)
  | responseTransmit _ p r hc hr => exact h.beginResponse p r hs hc hr
  | noticeTransmit _ p n rest hc hq => exact h.sendNotice p n rest hs hc hq
  | frameTransmitEnd _ p f hf => exact h.frameSent p f hs hf
  | keepaliveTimerExpiry _ p => exact h.arbitrate (h.keepalive p hs)
  | refillTimerExpiry _ p => exact h.refill p hs
  | transferTimerExpiry => exact h.arbitrate (h.transfer hs)
  | leaseTimerExpiry => exact h.lease hs
  | sweepTimerExpiry => exact h.arbitrate (h.sweep hs)

/-- Every step keeps what every operation keeps. -/
theorem State.Kept.step (h : State.Kept L) {s t : State} (hs : L s) (he : step s = .next t) : L t := by
  rcases step_cases he with rfl | ⟨c, rest, he⟩
  · rcases s.idle_cases with h' | ⟨-, -, h'⟩ | ⟨-, h'⟩ | ⟨-, h'⟩ | h' <;> rw [h']
    · exact hs
    · exact h.advance _ hs
    · exact h.arbitrate (h.deliverDue hs)
    · exact h.milliTick hs
    · exact h.withTimebase hs _
  · exact h.effect (h.withPending hs rest) he

end

/-! ### Settings and credits -/

/-- Every setting is in its range (R179). -/
def Settings.InRange (x : Settings) : Prop := ∀ id v, x.value id = some v → settingInRange id v = true

theorem Settings.InRange.row {p : Port} {x y : Settings} {c : Instr} {id n : Nat} (h : x.InRange)
    (hr : settingInRange id n = true) (hrow : SettingRow p x c id n y) : y.InRange := by
  intro i v hv
  have := h i v
  cases hrow <;> unfold Settings.value at hv this <;> split at hv <;> simp_all

theorem Settings.InRange.hashSeed {x : Settings} {n : Nat} (h : x.InRange) (hr : settingInRange 1 n = true) :
    ({ x with hashSeed := n } : Settings).InRange := by
  intro i v hv
  have := h i v
  unfold Settings.value at hv this
  split at hv <;> simp_all

theorem quotaPortOf_eq {id : Nat} {q : Port} (h : quotaPortOf id = some q) : id = 8 + portCode q := by
  unfold quotaPortOf at h
  split at h
  next h8 =>
    obtain ⟨n, rfl⟩ := Nat.exists_eq_add_of_le h8
    rw [Nat.add_sub_cancel_left] at h
    unfold portOfCode at h
    split at h <;> cases h <;> simp_all [portCode]
  · cases h

theorem Settings.InRange.quota {x : Settings} {id n : Nat} {q : Port} (h : x.InRange) (hq : quotaPortOf id = some q)
    (hr : settingInRange id n = true) : ({ x with quota := x.quota.set q n } : Settings).InRange := by
  have hn : n ≤ 16384 := by
    rw [quotaPortOf_eq hq] at hr
    cases q <;> simpa [settingInRange, portCode] using hr
  intro i v hv
  have := h i v
  unfold Settings.value at hv this
  cases q <;> split at hv <;> simp_all [PerPort.set, settingInRange]

theorem State.SettingsLaw.iff {s : State} :
    s.SettingsLaw ↔ s.settings.InRange ∧ ∀ p, (s.port p).claimCredit ≤ s.settings.creditCapacity :=
  ⟨fun h => ⟨h.range, h.credit⟩, fun h => ⟨h.1, h.2⟩⟩

/-- No credit rises past the capacity. -/
def State.CreditKept (s t : State) : Prop :=
  t.settings = s.settings
    ∧ ∀ q, (t.port q).claimCredit ≤ (s.port q).claimCredit ∨ (t.port q).claimCredit ≤ s.settings.creditCapacity

theorem State.SettingsLaw.mono {s t : State} (h : s.SettingsLaw) (k : s.CreditKept t) : t.SettingsLaw := by
  obtain ⟨hs, hc⟩ := k
  refine ⟨hs ▸ h.range, fun q => ?_⟩
  have := h.credit q
  rw [hs]
  rcases hc q with hq | hq <;> omega

theorem State.CreditKept.of_eq {s t : State} (hs : t.settings = s.settings) (hp : t.ports = s.ports) :
    s.CreditKept t :=
  ⟨hs, fun q => .inl (by simp [State.port, hp])⟩

theorem State.CreditKept.trans {s t u : State} (h : s.CreditKept t) (k : t.CreditKept u) : s.CreditKept u := by
  refine ⟨k.1.trans h.1, fun q => ?_⟩
  have h1 := h.2 q
  have h2 := k.2 q
  rw [h.1] at h2
  omega

/-- One Port Controller whose credit does not rise. -/
theorem State.CreditKept.modifyPort (s : State) (p : Port) {f : PortController → PortController}
    (h : (f (s.port p)).claimCredit ≤ (s.port p).claimCredit ∨ (f (s.port p)).claimCredit ≤ s.settings.creditCapacity) :
    s.CreditKept (s.modifyPort p f) := by
  refine ⟨by simp, fun q => ?_⟩
  rw [State.port_modifyPort]
  split
  next hq => exact hq ▸ h
  · exact .inl le_rfl

theorem PortController.MaybeAnswered.claimCredit {c d : PortController} (h : c.MaybeAnswered d) :
    d.claimCredit = c.claimCredit := by
  rcases h with rfl | ⟨_, _, _, rfl⟩ <;> rfl

theorem PerPort.afterDrain_claimCredit (v : PerPort PortController) (d : Option Port) (q : Port) :
    ((v.afterDrain d).get q).claimCredit = (v.get q).claimCredit := by
  cases d with
  | none => rfl
  | some p =>
    rw [PerPort.afterDrain, PerPort.get_set]
    split
    next h => rw [h]
    · rfl

theorem State.leaveOnline_creditKept (s : State) (p : Port) (c : LeaveCause) : s.CreditKept (s.leaveOnline p c).1 := by
  refine ⟨by simp, fun q => ?_⟩
  rw [State.port, State.leaveOnline_ports, PerPort.get_set]
  split
  · exact .inl (Nat.zero_le _)
  · exact .inl le_rfl

/-- The Port Controller of a port that comes ONLINE (R131). -/
def PortController.attached (c : PortController) (x : Settings) (timeout pacing : Nat) (subs : Subscriptions) :
    PortController :=
  { c with session := .online, keepaliveTimeout := timeout, pacingLimit := pacing, subscriptions := subs,
           claimCredit := x.creditCapacity, refillTimer := some x.refillInterval,
           keepaliveTimer := keepaliveStart timeout }

theorem State.comeOnline_ports (s : State) (p : Port) (n m : Nat) (x : Subscriptions) :
    (s.comeOnline p n m x).ports = s.ports.set p ((s.port p).attached s.settings n m x) := by
  simp [State.comeOnline, State.modifyPort, PortController.attached, State.port]

theorem State.comeOnline_creditKept (s : State) (p : Port) (n m : Nat) (x : Subscriptions) :
    s.CreditKept (s.comeOnline p n m x) := by
  refine ⟨by simp, fun q => ?_⟩
  rw [State.port, State.comeOnline_ports, PerPort.get_set]
  split
  · exact .inr le_rfl
  · exact .inl le_rfl

theorem State.respond_creditKept (s : State) (p : Port) (rq : RequestFrame) (st : Status) (res : Result) :
    s.CreditKept (s.respond p rq st res) := by
  refine ⟨by simp, fun q => ?_⟩
  rw [State.respond_port]
  split
  next h => exact .inl (by rw [h]; rfl)
  · exact .inl le_rfl

/-- The Port Controller of a port whose oldest request is taken (R123). -/
def PortController.taken (c : PortController) (rq : RequestFrame) (rest : List RequestFrame) : PortController :=
  { c with requestQueue := rest, responseQueue := c.responseQueue ++ [.reserved],
           creditReturn := c.creditReturn + 1, executor := .busy rq }

theorem State.takeRequest_ports (s : State) (p : Port) (rq : RequestFrame) (rest : List RequestFrame) :
    (s.takeRequest p rq rest).ports = s.ports.set p ((s.port p).taken rq rest) := by
  simp [State.takeRequest, State.modifyPort, PortController.taken, State.port]

theorem State.advance_creditKept (s : State) (u : Option Nat) : s.CreditKept (s.advance u) := by
  obtain ⟨d, -, hp⟩ := s.advance_ends u
  refine ⟨by simp, fun q => .inl ?_⟩
  rw [(hp q).claimCredit, PerPort.afterDrain_claimCredit]
  rfl

theorem State.finishHead_creditKept (s : State) (o : JobOutcome) : s.CreditKept (s.finishHead o) := by
  refine ⟨by simp, fun q => .inl ?_⟩
  cases hq : s.maintenance.queue with
  | nil => simp [State.finishHead, hq]
  | cons j rest =>
    rw [State.port, State.finishHead_ports hq, PerPort.afterDrain_claimCredit]
    rfl

theorem PortController.restartRefill_claimCredit (c : PortController) (n : Nat) :
    (c.restartRefill n).claimCredit = c.claimCredit := by
  unfold PortController.restartRefill
  split <;> rfl

/-- A request that runs at once keeps the settings law. -/
theorem DirectAct.settingsLaw {p : Port} {s : State} {rq : RequestFrame} {c : Instr} {act : State → Reply}
    (h : DirectAct p s rq c act) (hr : rq.body.inRange = true) (hs : s.SettingsLaw) : (act s).state.SettingsLaw := by
  have hrow : ∀ {id n}, rq.body = .settingSet id n → settingInRange id n = true := fun hb => by
    simpa [hb, Request.inRange] using hr
  cases h with
  | attach n m k hb =>
    refine hs.mono ?_
    unfold attachReply
    split
    · unfold State.comeOnlineLinked
      split
      · exact s.comeOnline_creditKept p _ _ _
      · exact (s.comeOnline_creditKept p _ _ _).trans (State.leaveOnline_creditKept _ _ _)
    · exact State.CreditKept.modifyPort s p (.inl le_rfl)
    · exact .of_eq rfl rfl
  | detach hb => exact hs.mono (s.leaveOnline_creditKept p _)
  | evict n hb =>
    refine hs.mono ?_
    unfold evictReply
    split
    · split
      · exact s.leaveOnline_creditKept _ _
      · exact .of_eq rfl rfl
    · exact .of_eq rfl rfl
  | abort id =>
    refine hs.mono ?_
    unfold abortReply
    split
    · exact .of_eq rfl rfl
    split
    · split
      · exact s.finishHead_creditKept _
      · exact .of_eq rfl rfl
    split
    · split
      · exact .of_eq (by simp) (by simp)
      · exact .of_eq rfl rfl
    · exact .of_eq rfl rfl
  | timebaseDivider n hb =>
    exact ⟨Settings.InRange.row (p := p) hs.range (hrow hb) (.timebaseDivider n), hs.credit⟩
  | sweepInterval n hb => exact ⟨Settings.InRange.row (p := p) hs.range (hrow hb) (.sweepInterval n), hs.credit⟩
  | transferTimeout n hb => exact ⟨Settings.InRange.row (p := p) hs.range (hrow hb) (.transferTimeout n), hs.credit⟩
  | creditCapacity n hb =>
    refine ⟨Settings.InRange.row (p := p) hs.range (hrow hb) (.creditCapacity n), fun q => ?_⟩
    simp [setCreditCapacity, State.port]
  | refillAmount n hb => exact ⟨Settings.InRange.row (p := p) hs.range (hrow hb) (.refillAmount n), hs.credit⟩
  | refillInterval n hb =>
    refine ⟨Settings.InRange.row (p := p) hs.range (hrow hb) (.refillInterval n), fun q => ?_⟩
    have := hs.credit q
    simpa [setRefillInterval, State.port, PerPort.map_get, PortController.restartRefill_claimCredit] using this
  | sweep | purge | clear | settingGet | leaseTake | leaseRenew | leaseDrop | statRead | statTake | keepalive | unknown
  | jobStatus | unknownSetting | statReadSession =>
    refine hs.mono (.of_eq ?_ ?_)
    all_goals
      simp only [sweepReply, purgeReply, enqueueReply, settingGetReply, leaseTakeReply, leaseRenewReply, leaseDropReply,
        statReadReply, statTakeReply, sessionReply]
      repeat' split
      all_goals simp [refuse]

/-- A request in its grant keeps the settings law. -/
theorem GrantedAct.settingsLaw {p : Port} {v : View} {rq : RequestFrame} {c : Instr} {u : Option Nat}
    {act : State → Reply} (h : GrantedAct p v rq c u act) {s : State} (hr : rq.body.inRange = true)
    (hs : s.SettingsLaw) : (act s).state.SettingsLaw := by
  rcases h.acts s with ha | ⟨_, _, _, _, _, _, _, _, _, _, _, _, _, _, _, _, ha⟩ | ⟨x, _, hb, -, ha⟩
    | ⟨id, x, q, _, hb, hq, -, ha⟩
  · refine hs.mono ⟨ha.frame .settings (by simp), fun q => .inl ?_⟩
    rcases ha.ports with hp | hp
    · simp [State.port, hp]
    · rw [State.port, hp]
      change ((s.takeCredit p).port q).claimCredit ≤ _
      rw [State.takeCredit, State.port_modifyPort]
      split
      next hqp => rw [hqp]; exact Nat.sub_le _ _
      · exact le_rfl
  · rw [ha]
    exact hs.mono (.of_eq (by simp) (by simp))
  · rw [ha]
    exact ⟨Settings.InRange.hashSeed hs.range (by simpa [hb, Request.inRange] using hr), hs.credit⟩
  · rw [ha]
    exact ⟨Settings.InRange.quota hs.range hq (by simpa [hb, Request.inRange] using hr), hs.credit⟩

theorem State.settingsLaw_kept : State.Kept State.SettingsLaw where
  reset := ⟨fun id v hv => by
      unfold Settings.value at hv
      split at hv <;> cases hv <;> decide, fun p => by cases p <;> decide⟩
  quiet hs h := hs.mono (.of_eq (h .settings (by simp)) (h .ports (by simp)))
  refused st hs _ := hs.mono (State.respond_creditKept _ _ _ _ _)
  direct hs _ hc h := (h.settingsLaw (commonCheck_inRange hc) hs).mono (State.respond_creditKept _ _ _ _ _)
  abortWaits p hs := hs.mono (.of_eq rfl rfl)
  request hs hr h := h.settingsLaw hr hs
  bucket {s v j rest c u f} hs hq h := by
    have hb := s.overSlots_actsInBucket h.actsInBucket (bucketSlots j.cursor)
    refine hs.mono (.of_eq (State.actBucket_frame h s).1 ?_)
    simpa [State.actBucket, State.Same] using hb.frame .ports (by simp)
  resolution v x rest f hs _ :=
    hs.mono (.of_eq ((resolveExpiry_acts v x f _ .p0).frame .settings (by simp)) (by simp))
  advance u hs := hs.mono (State.advance_creditKept _ u)
  startWindow p hs := hs.mono (.of_eq (by simp) (by simp))
  linkUp p hs _ := hs.mono (State.CreditKept.modifyPort _ p (.inl le_rfl))
  linkLost {s} p hs _ := by
    have hl : s.CreditKept (s.loseLink p) :=
      (State.CreditKept.modifyPort s p (f := PortController.loseLink) (.inl le_rfl)).trans (.of_eq rfl rfl)
    refine hs.mono ?_
    unfold State.linkIsLost
    split
    · exact hl.trans (State.leaveOnline_creditKept _ _ _)
    · exact hl
  arrival {s} p f hs _ := by
    have hk : ∀ c : PortController, c.restartKeepalive.claimCredit = c.claimCredit := fun c => by
      unfold PortController.restartKeepalive
      split <;> rfl
    refine hs.mono ((State.CreditKept.modifyPort s p (f := fun c => { c with masterCredits := c.masterCredits - 1 })
      (.inl le_rfl)).trans ?_)
    unfold State.frameArrives State.requestArrives
    dsimp only
    split
    · refine State.CreditKept.trans (State.CreditKept.modifyPort _ p (f := PortController.restartKeepalive)
        (.inl (hk _).le)) ?_
      split
      · exact State.CreditKept.modifyPort _ p (.inl le_rfl)
      · exact (State.CreditKept.modifyPort _ p (f := fun c => { c with overrun := true }) (.inl le_rfl)).trans
          (.of_eq (by simp) (by simp))
    · exact .of_eq (by simp) (by simp)
  take {s} p rq rest hs _ _ _ := by
    refine hs.mono ⟨by simp [State.takeRequest], fun q => .inl ?_⟩
    rw [State.port, State.takeRequest_ports, PerPort.get_set]
    split
    next h => rw [h]; exact le_rfl
    · exact le_rfl
  beginResponse p r hs _ _ := hs.mono (State.CreditKept.modifyPort _ p (.inl le_rfl))
  sendNotice {s} p n rest hs _ _ := hs.mono
    ((State.CreditKept.modifyPort s p (f := fun c => c.beginNotice n) (.inl le_rfl)).trans
      (.of_eq (by simp [State.sendNotice]) (by simp [State.sendNotice, State.modifyPort])))
  frameSent p f hs _ := hs.mono (State.CreditKept.modifyPort _ p (.inl le_rfl))
  keepalive {s} p hs := by
    unfold State.expireKeepalive
    split
    · exact hs.mono (s.leaveOnline_creditKept p _)
    · exact hs
  refill {s} p hs := by
    unfold State.expireRefill
    split
    · exact hs.mono (State.CreditKept.modifyPort s p (.inr (Nat.min_le_left _ _)))
    · exact hs
  transfer hs := hs.mono (.of_eq (by simp) (by simp))
  lease hs := hs.mono (.of_eq (by simp) (by simp))
  sweep hs := hs.mono (.of_eq (by simp) (by simp))
  tick {s} hs := hs.mono ⟨by simp, fun q => .inl (by simp [State.tick, State.port])⟩

/-- Settles O14: no operation takes a setting out of its range or a credit past the capacity. -/
theorem stepKeepsSettingsLaw : Obligations.StepKeepsSettingsLaw := by
  unfold Obligations.StepKeepsSettingsLaw
  exact fun s t hs h => State.settingsLaw_kept.step hs h

end Sys2Proof.Machine
end

section
/-! SUPPORT. What the requests that run at once can do, as one list of changes; what a notice or a count does to the
Notice Unit; and the bounds of every queue (R120, R122, R125, R162, R163, R166). -/

namespace Sys2Proof.Machine

/-! ### The changes of the requests that run at once -/

/-- What a request that runs at once, and passes the common checks, can do. -/
inductive State.AtOnceChange (p : Port) (s : State) : State → Prop
  | same : s.AtOnceChange p s
  | attach (n m : Nat) (x : Subscriptions) : (s.port p).session = .offline → s.AtOnceChange p (s.comeOnlineLinked p n m x)
  | renew (n m : Nat) (x : Subscriptions) : (s.port p).session = .online → s.AtOnceChange p (s.replaceParameters p n m x)
  | leave (q : Port) (c : LeaveCause) : (s.port q).session = .online → s.AtOnceChange p (s.leaveOnline q c).1
  | enqueue (w : JobWork) : w.kind ≠ .orphan → s.maintenance.hasRoom = true →
      (w = .sweep → s.maintenance.waitingSweep = none) → s.AtOnceChange p (s.enqueueJob w (some p)).1
  | abort (j : Job) (rest : List Job) : s.maintenance.queue = j :: rest → j.abortable = true →
      s.grantOf .maintenance = none → s.AtOnceChange p (s.finishHead .aborted)
  | cancel (j w : Job) (rest : List Job) : s.maintenance.queue = j :: rest → w ∈ rest → w.abortable = true →
      s.AtOnceChange p ((s.withQueue (j :: rest.erase w)).closeJob .cancelled w)
  | setting (x : Settings) : x.quota = s.settings.quota → x.hashSeed = s.settings.hashSeed →
      s.AtOnceChange p (s.withSettings x)
  | sweepInterval (n : Nat) : s.AtOnceChange p (setSweepInterval n s).state
  | creditCapacity (n : Nat) : s.AtOnceChange p (setCreditCapacity n s).state
  | refillInterval (n : Nat) : s.AtOnceChange p (setRefillInterval n s).state
  | holdLease (d : Nat) : (s.port p).session = .online → s.AtOnceChange p (s.withLease ⟨some p, d⟩)
  | freeLease : s.AtOnceChange p (s.withLease Lease.free)
  | counter (c : CounterId) (v : Count32) : s.AtOnceChange p (s.setCounter c v)

theorem DirectAct.change {p : Port} {s : State} {rq : RequestFrame} {c : Instr} {act : State → Reply}
    (h : DirectAct p s rq c act) (hc : commonCheck s.view p rq.body = none) : s.AtOnceChange p (act s).state := by
  have online : rq.body.readOnly = false → (∀ a b c, rq.body ≠ .attach a b c) → (s.port p).session = .online :=
    fun hr ha => by simpa using commonCheck_online hc hr ha
  cases h with
  | attach n m k hb =>
    unfold attachReply
    split
    next hs => exact .attach n m _ hs
    next hs => exact .renew n m _ hs
    · exact .same
  | detach hb => exact .leave p _ (online (by rw [hb]; rfl) (by simp [hb]))
  | evict n hb =>
    unfold evictReply
    split
    next q _ =>
      split
      next ho =>
        simp only [State.online, Bool.and_eq_true, decide_eq_true_eq] at ho
        exact .leave q _ ho.1
      · exact .same
    · exact .same
  | sweep hb =>
    unfold sweepReply enqueueReply
    split
    · exact .same
    next hw =>
      split
      next hr => exact .enqueue .sweep (by decide) hr fun _ => hw
      · exact .same
  | purge d o l hb =>
    unfold purgeReply enqueueReply
    split
    · split
      next f _ hr => exact .enqueue (.purge f) (by simp [JobWork.kind]) hr fun h => by cases h
      · exact .same
    · exact .same
  | clear hb =>
    unfold enqueueReply
    split
    next hr => exact .enqueue .clear (by decide) hr fun h => by cases h
    · exact .same
  | abort id _ _ hwait =>
    unfold abortReply
    split
    · exact .same
    next j rest hq =>
      split
      next hid =>
        split
        next ha =>
          refine .abort j rest hq ha ?_
          simp only [State.abortWaits, hc, hq, hid, ha] at hwait
          simpa using hwait
        · exact .same
      split
      next w hw =>
        split
        next ha => exact .cancel j w rest hq (List.mem_of_find?_eq_some hw) ha
        · exact .same
      · exact .same
  | settingGet id =>
    unfold settingGetReply
    split
    · exact .same
    · split
      · exact .same
      · exact .same
  | timebaseDivider n | transferTimeout n | refillAmount n => exact .setting _ rfl rfl
  | sweepInterval n => exact .sweepInterval n
  | creditCapacity n => exact .creditCapacity n
  | refillInterval n => exact .refillInterval n
  | leaseTake n hb =>
    have ho := online (by rw [hb]; rfl) (by simp [hb])
    unfold leaseTakeReply
    split
    · exact .holdLease n ho
    · split
      · exact .holdLease n ho
      · exact .same
  | leaseRenew n hb =>
    unfold leaseRenewReply
    split
    · exact .holdLease n (online (by rw [hb]; rfl) (by simp [hb]))
    · exact .same
  | leaseDrop hb =>
    unfold leaseDropReply
    split
    · exact .freeLease
    · exact .same
  | statRead a b =>
    unfold statReadReply
    split
    · exact .same
    · exact .same
  | statTake a b =>
    unfold statTakeReply
    split
    · exact .counter _ _
    · exact .same
  | keepalive | unknown | jobStatus | unknownSetting | statReadSession => exact .same

/-! ### What a handover leaves of the Notice Unit -/

/-- The Notice Unit keeps its bounds, a port that is not ONLINE stays so, and its part of the Notice Unit stands. -/
def State.Hears (s t : State) : Prop :=
  ∀ q, ((s.noticePort q).BoundsLaw → (t.noticePort q).BoundsLaw)
    ∧ ((s.port q).session ≠ .online → (t.port q).session ≠ .online ∧ t.noticePort q = s.noticePort q)

theorem State.Hears.refl (s : State) : s.Hears s := fun _ => ⟨id, fun h => ⟨h, rfl⟩⟩

theorem State.Hears.trans {s t u : State} (h : s.Hears t) (k : t.Hears u) : s.Hears u := fun q =>
  ⟨fun hb => (k q).1 ((h q).1 hb), fun ho =>
    have ⟨h1, h2⟩ := (h q).2 ho
    have ⟨k1, k2⟩ := (k q).2 h1
    ⟨k1, k2.trans h2⟩⟩

/-- Port Controllers change, but no port comes ONLINE, and the Notice Unit is as it was. -/
theorem State.Hears.of_notices {s t : State} (hn : t.notices = s.notices)
    (hp : ∀ q, (t.port q).session = .online → (s.port q).session = .online) : s.Hears t := fun q => by
  have : t.noticePort q = s.noticePort q := by rw [State.noticePort, State.noticePort, hn]
  exact ⟨fun hb => this ▸ hb, fun ho => ⟨fun h => ho (hp q h), this⟩⟩

theorem State.Hears.of_eq {s t : State} (hn : t.notices = s.notices) (hp : t.ports = s.ports) : s.Hears t :=
  .of_notices hn fun q h => by rwa [State.port, hp] at h

/-- A handover that begins in a state with the same Port Controllers and the same Notice Unit. -/
theorem State.Hears.after {s t u : State} (k : t.Hears u) (hn : t.notices = s.notices) (hp : t.ports = s.ports) :
    s.Hears u := (State.Hears.of_eq hn hp).trans k

/-- A handover that ends in a state with the same Port Controllers and the same Notice Unit. -/
theorem State.Hears.before {s t u : State} (k : s.Hears t) (hn : u.notices = t.notices) (hp : u.ports = t.ports) :
    s.Hears u := k.trans (.of_eq hn hp)

/-- A handover after a change of one Port Controller that does not bring it ONLINE. -/
theorem State.Hears.modifyPort (s : State) (p : Port) {f : PortController → PortController}
    (h : (f (s.port p)).session = .online → (s.port p).session = .online) : s.Hears (s.modifyPort p f) :=
  .of_notices rfl fun q hq => by
    rw [State.port_modifyPort] at hq
    split at hq
    next he => rw [he]; exact h hq
    · exact hq

theorem State.offerCopy_hears (s : State) (n : Notice) {p : Port} (h : (s.port p).session = .online) :
    s.Hears (s.offerCopy n p).1 := fun q => by
  have hports : (s.offerCopy n p).1.port q = s.port q := by rw [State.port]; simp [State.port]
  by_cases hq : q = p
  · subst hq
    refine ⟨fun hb => ?_, fun ho => absurd h ho⟩
    obtain ⟨h1, h2, h3⟩ := hb
    unfold State.offerCopy
    split
    next hlt => exact ⟨by simpa [State.noticePort_modifyNotices] using hlt, by simpa [State.noticePort_modifyNotices],
      by simpa [State.noticePort_modifyNotices]⟩
    · simp only [State.bump, State.noticePort_setCounter, State.noticePort_modifyNotices, if_true]
      exact ⟨h1, Nat.min_le_left _ _, h3⟩
  · rw [State.offerCopy_noticePort_ne s n hq]
    exact ⟨id, fun ho => ⟨hports ▸ ho, rfl⟩⟩

theorem State.offerCopies_hears (s : State) (a : Audience) (n : Notice) (l : List Port) :
    s.Hears (s.offerCopies a n l).1 := by
  induction l generalizing s with
  | nil => exact .refl s
  | cons p rest ih =>
    unfold State.offerCopies
    split
    next hr =>
      have ho : (s.port p).session = .online := by
        simp only [State.receives, State.online, Bool.and_eq_true, decide_eq_true_eq] at hr
        exact hr.1
      exact (s.offerCopy_hears n ho).trans (ih _)
    · exact ih s

theorem State.handOver_hears (s : State) (k : Nat) (l : List (Audience × Notice)) : s.Hears (s.handOver k l) := by
  induction k generalizing s l with
  | zero => exact .refl s
  | succ k ih =>
    cases l with
    | nil => exact .refl s
    | cons x rest => exact (s.offerCopies_hears x.1 x.2 allPorts).trans (ih _ _)

theorem State.notify_hears (s : State) (a : Audience) (n : Notice) : s.Hears (s.notify a n) := s.handOver_hears 5 _

theorem State.count_hears (s : State) (c : CounterId) : s.Hears (s.count c) := by
  have hb : s.Hears (s.bump c).1 := .of_eq (by simp [State.bump]) (by simp [State.bump])
  unfold State.count
  dsimp only
  split
  · exact hb.trans (State.notify_hears _ _ _)
  · exact hb

theorem State.deliver_hears (s : State) (r : Report) : s.Hears (s.deliver r) := by
  cases r with
  | count c => exact s.count_hears c
  | notice a n => exact s.notify_hears a n

theorem State.deliverAll_hears (s : State) (l : List Report) : s.Hears (l.foldl State.deliver s) := by
  induction l generalizing s with
  | nil => exact .refl s
  | cons r rest ih => exact (s.deliver_hears r).trans (ih _)

theorem PortController.answered_session (c : PortController) (r : Response) : (c.answered r).session = c.session := rfl

theorem State.respond_hears (s : State) (p : Port) (rq : RequestFrame) (st : Status) (res : Result) :
    s.Hears (s.respond p rq st res) := by
  have hp : s.Hears (s.modifyPort p (fun c => c.answered ⟨rq.kind, rq.tag, st, res⟩)) := .modifyPort s p id
  by_cases hr : st.isRefusal = true
  · rw [State.respond_refusal hr]
    exact hp.trans (State.count_hears _ _)
  · rw [State.respond_success (by simpa using hr)]
    exact hp

theorem State.closeJob_hears (s : State) (o : JobOutcome) (j : Job) : s.Hears (s.closeJob o j) := by
  have hr : s.Hears (s.recordJob (j.record o)) := .of_eq rfl rfl
  unfold State.closeJob State.notifyJobDone
  split
  · exact hr.trans (State.notify_hears _ _ _)
  · exact hr

theorem State.closeJobs_hears (s : State) (l : List Job) :
    s.Hears (l.foldl (fun t c => t.closeJob .cancelled c) s) := by
  induction l generalizing s with
  | nil => exact .refl s
  | cons c rest ih => exact (s.closeJob_hears .cancelled c).trans (ih _)

theorem State.finishHead_hears (s : State) (o : JobOutcome) : s.Hears (s.finishHead o) := by
  have hstart : ∀ s : State, s.Hears s.startHead := fun s => by
    unfold State.startHead
    split
    · split
      · exact (State.closeJobs_hears _ _).after rfl rfl
      · exact .refl s
    · exact .refl s
  have hafter : ∀ (s : State) j o, s.Hears (s.afterFinish j o) := fun s j o => by
    unfold State.afterFinish
    split
    · exact (s.notify_hears _ _).trans (State.count_hears _ _)
    next _ _ p c _ =>
      exact (State.Hears.modifyPort s p (f := fun q => { q with session := .offline }) (fun h => by cases h)).trans
        (State.notify_hears _ _ _)
    · split
      · exact .of_eq rfl rfl
      · exact .refl s
    · exact .refl s
  unfold State.finishHead
  split
  · exact (((State.closeJob_hears _ _ _).trans (hafter _ _ _)).trans (hstart _)).after rfl rfl
  · exact .refl s

theorem State.answerAbort_hears (s : State) (st : Status) (res : Result) (p : Port) : s.Hears (s.answerAbort st res p) := by
  unfold State.answerAbort
  split
  · split
    · exact s.respond_hears _ _ _ _
    · exact .refl s
  · exact .refl s

theorem State.answerAborts_hears (s : State) (l : List Port) (st : Status) (res : Result) :
    s.Hears (l.foldl (fun t p => t.answerAbort st res p) s) := by
  induction l generalizing s with
  | nil => exact .refl s
  | cons p rest ih => exact (s.answerAbort_hears st res p).trans (ih _)

theorem State.refuseAborts_hears (s : State) : s.Hears s.refuseAborts :=
  (s.clearAborts.answerAborts_hears _ _ _).after rfl rfl

theorem State.modifyHeadJob_hears (s : State) (f : Job → Job) : s.Hears (s.modifyHeadJob f) :=
  .of_eq (by simp) (by simp)

theorem State.conclude_hears (s : State) (c : Client) (e : Ending) : s.Hears (s.conclude c e) := by
  have hstop : ∀ s : State, s.Hears s.stopIfAborted := fun s => by
    unfold State.stopIfAborted
    split
    next j tail p rest hq ha =>
      split
      · refine State.Hears.trans ?_ (State.answerAborts_hears _ rest _ _)
        have hc : s.Hears s.clearAborts := .of_eq rfl rfl
        exact (hc.trans (State.finishHead_hears _ _)).trans (State.answerAbort_hears _ _ _ p)
      · exact s.refuseAborts_hears
    · exact .refl s
  have hend : ∀ s : State, s.Hears s.endBucket := fun s => by
    unfold State.endBucket
    split
    · split
      · exact (s.finishHead_hears _).trans (State.refuseAborts_hears _)
      · exact (s.modifyHeadJob_hears _).trans (hstop _)
    · exact .refl s
  unfold State.conclude
  split
  · unfold State.endRequest
    split
    · exact s.respond_hears _ _ _ _
    · exact .refl s
  · exact (s.modifyHeadJob_hears _).trans (hend _)
  all_goals exact .refl s

theorem State.advance_hears (s : State) (u : Option Nat) : s.Hears (s.advance u) := by
  have hgrant : ∀ (s : State) g, s.Hears (s.withGrant g) := fun s g => .of_eq rfl rfl
  have hfin : ∀ s : State, s.Hears s.finishGrant := fun s => by
    unfold State.finishGrant
    split
    next g _ =>
      split
      next e _ => exact (s.conclude_hears g.client e).before (by simp) (by simp)
      · exact .refl s
    · exact .refl s
  unfold State.advance
  split
  · dsimp only
    split
    · exact ((hgrant s _).trans (State.deliverAll_hears _ _)).trans (hfin _)
    · exact (hgrant s _).trans (State.deliverAll_hears _ _)
  · exact .refl s

/-! ### The order of the response places -/

theorem placesFit_idle {l : List Place} : placesFit .idle l = true ↔ ∃ ws : List Response, l = ws.map Place.written := by
  induction l with
  | nil => exact ⟨fun _ => ⟨[], rfl⟩, fun _ => rfl⟩
  | cons x rest ih =>
    cases x with
    | written r =>
      refine ih.trans ⟨fun ⟨ws, h⟩ => ⟨r :: ws, by rw [h]; rfl⟩, fun ⟨ws, h⟩ => ?_⟩
      cases ws with
      | nil => cases h
      | cons w ws => exact ⟨ws, (List.cons.inj h).2⟩
    | reserved | discard => exact ⟨fun h => (by cases rest <;> cases h), fun ⟨ws, h⟩ => by cases ws <;> cases h⟩

theorem placesFit_busy {rq : RequestFrame} {l : List Place} :
    placesFit (.busy rq) l = true ↔ ∃ (ws : List Response) (x : Place), l = ws.map Place.written ++ [x] ∧ (x = .reserved ∨ x = .discard) := by
  induction l with
  | nil => exact ⟨fun h => (nomatch h), fun ⟨ws, x, h, _⟩ => by cases ws <;> cases h⟩
  | cons y rest ih =>
    cases y with
    | written r =>
      have he : placesFit (.busy rq) (.written r :: rest) = placesFit (.busy rq) rest := rfl
      rw [he, ih]
      refine ⟨fun ⟨ws, x, h, hx⟩ => ⟨r :: ws, x, by rw [h]; rfl, hx⟩, fun ⟨ws, x, h, hx⟩ => ?_⟩
      cases ws with
      | nil => cases h; simp at hx
      | cons w ws => exact ⟨ws, x, (List.cons.inj h).2, hx⟩
    | reserved =>
      refine ⟨fun h => ?_, fun ⟨ws, x, h, _⟩ => ?_⟩
      · cases rest with
        | nil => exact ⟨[], .reserved, rfl, .inl rfl⟩
        | cons _ _ => cases h
      · cases ws with
        | nil => cases h; rfl
        | cons _ _ => cases h
    | discard =>
      refine ⟨fun h => ?_, fun ⟨ws, x, h, _⟩ => ?_⟩
      · cases rest with
        | nil => exact ⟨[], .discard, rfl, .inr rfl⟩
        | cons _ _ => cases h
      · cases ws with
        | nil => cases h; rfl
        | cons _ _ => cases h

/-- A response leaves the WRITTEN places (R125). -/
theorem flatMap_fillPlace_written (r : Response) (ws : List Response) :
    (ws.map Place.written).flatMap (fillPlace r) = ws.map Place.written := by
  induction ws with
  | nil => rfl
  | cons w ws ih => simp [List.map_cons, List.flatMap_cons, fillPlace, ih]

/-- LINK_LOST discards the WRITTEN places (R127). -/
theorem flatMap_afterLinkLost_written (ws : List Response) :
    (ws.map Place.written).flatMap Place.afterLinkLost = [] := by
  induction ws with
  | nil => rfl
  | cons w ws ih => simp [List.map_cons, List.flatMap_cons, Place.afterLinkLost, ih]

/-! ### The queues of one Port Controller -/

/-- The queue parts of a Port Controller are as they were. -/
structure PortController.SameQueues (c d : PortController) : Prop where
  link : d.link = c.link
  requests : d.requestQueue = c.requestQueue
  executor : d.executor = c.executor
  places : d.responseQueue = c.responseQueue
  transmitter : d.transmitter = c.transmitter
  creditReturn : d.creditReturn = c.creditReturn
  overrun : d.overrun = c.overrun

theorem PortController.SameQueues.refl (c : PortController) : c.SameQueues c := ⟨rfl, rfl, rfl, rfl, rfl, rfl, rfl⟩

theorem PortController.SameQueues.queueLaw {c d : PortController} (h : c.SameQueues d) (k : c.QueueLaw) :
    d.QueueLaw := by
  obtain ⟨h1, h2, h3, h4, h5, h6, h7⟩ := h
  obtain ⟨k1, k2, k3, k4, k5, k6, k7⟩ := k
  refine ⟨?_, ?_, ?_, ?_, ?_, ?_, ?_⟩ <;>
    simp only [PortController.unsent, PortController.readyResponse, h1, h2, h3, h4, h5, h6, h7] <;> assumption

theorem PortController.QueueLaw.answered {c : PortController} {rq : RequestFrame} (h : c.QueueLaw)
    (he : c.executor = .busy rq) (r : Response) : (c.answered r).QueueLaw := by
  obtain ⟨ws, x, hq, hx⟩ := placesFit_busy.1 (he ▸ h.order)
  have hwritten : ∃ ys : List Response, (c.answered r).responseQueue = ys.map Place.written
      ∧ (x = .reserved → ys = ws ++ [r]) ∧ (x = .discard → ys = ws) := by
    have hq' : (c.answered r).responseQueue = c.responseQueue.flatMap (fillPlace r) := rfl
    rcases hx with rfl | rfl
    · exact ⟨ws ++ [r], by simp [hq', hq, flatMap_fillPlace_written, fillPlace], fun _ => rfl, fun h => (nomatch h)⟩
    · exact ⟨ws, by simp [hq', hq, flatMap_fillPlace_written, fillPlace], fun h => (nomatch h), fun _ => rfl⟩
  obtain ⟨ys, hys, hres, hdis⟩ := hwritten
  have hd : x = .discard → ws = [] ∧ c.creditReturn = 0 := fun hx => by
    obtain ⟨hl, hc⟩ := h.discard (by simp [hq, hx])
    rw [hq] at hl
    cases ws with
    | nil => exact ⟨rfl, hc⟩
    | cons w ws => simp at hl
  have hlen : (x = .reserved ∧ ys.length = c.responseQueue.length) ∨ (x = .discard ∧ ys = [] ∧ c.creditReturn = 0) := by
    rcases hx with hx | hx
    · exact .inl ⟨hx, by simp [hres hx, hq]⟩
    · exact .inr ⟨hx, by rw [hdis hx, (hd hx).1], (hd hx).2⟩
  refine ⟨h.requests, ?_, ?_, ?_, ?_, ?_, fun hl => ?_⟩
  · have := h.places
    rw [hys, List.length_map]
    rcases hlen with ⟨-, hl⟩ | ⟨-, hl, -⟩
    · rw [hl]; exact this
    · simp [hl]
  · exact placesFit_idle.2 ⟨ys, hys⟩
  · have hcr : (c.answered r).creditReturn = c.creditReturn := rfl
    rcases hlen with ⟨-, hl⟩ | ⟨-, -, hl⟩
    · have hu : (c.answered r).unsent = c.unsent := by
        have ht : (c.answered r).transmitter = c.transmitter := rfl
        unfold PortController.unsent
        rw [ht, hys, List.length_map, hl]
      rw [hcr, hu]
      exact h.credits
    · simp [hcr, hl]
  · intro hm
    rw [hys] at hm
    simp at hm
  · intro r' n o ht
    have := h.sending r' n o ht
    unfold PortController.readyResponse at this ⊢
    cases ws with
    | nil => rcases hx with rfl | rfl <;> simp [hq] at this
    | cons w ws =>
      rcases hx with rfl | rfl
      · simp [hys, hres rfl]
      · simp [hys, hdis rfl]
  · obtain ⟨h1, h2, h3, h4, h5⟩ := h.down hl
    refine ⟨h1, h2, h3, h4, fun y hy => ?_⟩
    have hx' : x = .discard := h5 x (by simp [hq])
    rw [hys, hdis hx', (hd hx').1] at hy
    cases hy

theorem PortController.MaybeAnswered.queueLaw {c d : PortController} (h : c.MaybeAnswered d) (k : c.QueueLaw) :
    d.QueueLaw := by
  rcases h with rfl | ⟨rq, r, he, rfl⟩
  · exact k
  · exact k.answered he r

theorem PortController.QueueLaw.taken {c : PortController} {rq : RequestFrame} {rest : List RequestFrame}
    (h : c.QueueLaw) (he : c.executor = .idle) (hq : c.requestQueue = rq :: rest)
    (hr : c.responseQueue.length < Config.responseQueueSize) : (c.taken rq rest).QueueLaw := by
  obtain ⟨ws, hws⟩ := placesFit_idle.1 (he ▸ h.order)
  have hresp : (c.taken rq rest).responseQueue = ws.map Place.written ++ [.reserved] := by
    rw [← hws]; rfl
  refine ⟨?_, ?_, placesFit_busy.2 ⟨ws, .reserved, hresp, .inl rfl⟩, ?_, ?_, ?_, ?_⟩
  · have := h.requests
    rw [hq] at this
    exact (Nat.le_succ _).trans this
  · rw [hresp, ← hws]
    simpa using hr
  · have hc := h.credits
    have hs := h.sending
    have hu : c.unsent + 1 = (c.taken rq rest).unsent := by
      have ht : (c.taken rq rest).transmitter = c.transmitter := rfl
      have hl : (c.taken rq rest).responseQueue.length = c.responseQueue.length + 1 := by
        simp [hresp, hws]
      unfold PortController.unsent
      rw [ht, hl]
      split
      next r n o ht' =>
        have := hs r n o ht'
        unfold PortController.readyResponse at this
        split at this
        next hcr => rw [hcr]; simp
        · cases this
      · rfl
    rw [← hu]
    exact Nat.succ_le_succ hc
  · intro hm
    rw [hresp] at hm
    simp at hm
  · intro r n o ht
    have := h.sending r n o ht
    unfold PortController.readyResponse at this ⊢
    rw [hresp]
    cases ws with
    | nil => simp [hws] at this
    | cons w ws => rfl
  · intro hl
    have := (h.down hl).1
    rw [hq] at this
    cases this

theorem PortController.canTransmit_iff {c : PortController} :
    c.canTransmit = true ↔ c.link = .up ∧ c.transmitter = none := by
  simp [PortController.canTransmit]

theorem PortController.QueueLaw.beginResponse {c : PortController} (h : c.QueueLaw) (hc : c.canTransmit = true)
    {r : Response} (hr : c.readyResponse = some r) : (c.beginResponse r).QueueLaw := by
  obtain ⟨hl, -⟩ := PortController.canTransmit_iff.1 hc
  refine ⟨h.requests, h.places, h.order, Nat.zero_le _, fun hm => ⟨(h.discard hm).1, rfl⟩, fun _ _ _ _ => ?_, fun hd => ?_⟩
  · change c.readyResponse.isSome = true
    rw [hr]
    rfl
  · cases hl.symm.trans hd

theorem PortController.QueueLaw.beginNotice {c : PortController} (h : c.QueueLaw) (hc : c.canTransmit = true)
    (n : Notice) : (c.beginNotice n).QueueLaw := by
  obtain ⟨hl, -⟩ := PortController.canTransmit_iff.1 hc
  exact ⟨h.requests, h.places, h.order, Nat.zero_le _, fun hm => ⟨(h.discard hm).1, rfl⟩, fun _ _ _ ht => (nomatch ht),
    fun hd => by cases hl.symm.trans hd⟩

/-- The Port Controller after a frame has been sent (R122, R125). -/
def PortController.sent (c : PortController) (f : OutFrame) : PortController :=
  { c with transmitter := none, responseQueue := f.placesAfter c.responseQueue,
           masterCredits := c.masterCredits + f.credits }

theorem State.frameSent_ports (s : State) (p : Port) (f : OutFrame) :
    (s.frameSent p f).ports = s.ports.set p ((s.port p).sent f) := rfl

theorem placesFit_tail {e : Executor} {r : Response} {l : List Place}
    (h : placesFit e (.written r :: l) = true) : placesFit e l = true := by
  cases e with
  | idle => exact h
  | busy rq => exact h

theorem PortController.QueueLaw.sent {c : PortController} {f : OutFrame} (h : c.QueueLaw)
    (hf : c.transmitter = some f) : (c.sent f).QueueLaw := by
  cases f with
  | notice n k =>
    have hu : (c.sent (.notice n k)).unsent = c.unsent := by
      simp [PortController.unsent, PortController.sent, hf, OutFrame.placesAfter]
    refine ⟨h.requests, h.places, h.order, by rw [hu]; exact h.credits, h.discard, (fun _ _ _ ht => by cases ht),
      fun hd => ?_⟩
    cases hf.symm.trans (h.down hd).2.1
  | response r k o =>
    have hready := h.sending r k o hf
    unfold PortController.readyResponse at hready
    split at hready
    next r' rest hq =>
      have hrest : (c.sent (.response r k o)).responseQueue = rest := by
        simp [PortController.sent, OutFrame.placesAfter, hq]
      have hplaces := h.places
      have hcred := h.credits
      have hord := h.order
      rw [hq] at hplaces hord
      refine ⟨h.requests, ?_, ?_, ?_, fun hm => ?_, (fun _ _ _ ht => by cases ht), fun hd => ?_⟩
      · rw [hrest]; exact (Nat.le_succ _).trans hplaces
      · rw [hrest]; exact placesFit_tail hord
      · change c.creditReturn ≤ (c.sent (.response r k o)).responseQueue.length
        rw [hrest]
        simpa [PortController.unsent, hf, hq] using hcred
      · rw [hrest] at hm
        have := (h.discard (by rw [hq]; exact List.mem_cons_of_mem _ hm)).1
        rw [hq] at this
        cases this
      · cases hf.symm.trans (h.down hd).2.1
    · cases hready

theorem PortController.QueueLaw.loseLink {c : PortController} (h : c.QueueLaw) : c.loseLink.QueueLaw := by
  have hq : c.loseLink.responseQueue = c.responseQueue.flatMap Place.afterLinkLost := rfl
  have hcases : (c.executor = .idle ∧ c.loseLink.responseQueue = [])
      ∨ ((∃ rq, c.executor = .busy rq) ∧ c.loseLink.responseQueue = [.discard]) := by
    rw [hq]
    cases he : c.executor with
    | idle =>
      obtain ⟨ws, hws⟩ := placesFit_idle.1 (he ▸ h.order)
      exact .inl ⟨rfl, by rw [hws, flatMap_afterLinkLost_written]⟩
    | busy rq =>
      obtain ⟨ws, x, hws, hx⟩ := placesFit_busy.1 (he ▸ h.order)
      refine .inr ⟨⟨rq, rfl⟩, ?_⟩
      rw [hws, List.flatMap_append, flatMap_afterLinkLost_written]
      rcases hx with rfl | rfl <;> rfl
  refine ⟨Nat.zero_le _, ?_, ?_, Nat.zero_le _, ?_, fun _ _ _ ht => (nomatch ht), fun _ => ⟨rfl, rfl, rfl, rfl, ?_⟩⟩
  · rcases hcases with ⟨-, hr⟩ | ⟨-, hr⟩ <;> rw [hr] <;> decide
  · change placesFit c.executor c.loseLink.responseQueue = true
    rcases hcases with ⟨he, hr⟩ | ⟨⟨rq, he⟩, hr⟩ <;> rw [hr, he] <;> rfl
  · intro hm
    rcases hcases with ⟨-, hr⟩ | ⟨-, hr⟩
    · rw [hr] at hm
      cases hm
    · exact ⟨hr, rfl⟩
  · rcases hcases with ⟨-, hr⟩ | ⟨-, hr⟩ <;> simp [hr]

theorem PortController.QueueLaw.linkUp {c : PortController} (h : c.QueueLaw) :
    ({ c with link := .up, creditReturn := 0, overrun := false, masterCredits := 16 } : PortController).QueueLaw :=
  ⟨h.requests, h.places, h.order, Nat.zero_le _, fun hm => ⟨(h.discard hm).1, rfl⟩, h.sending, fun hd => (nomatch hd)⟩

/-! ### The queues of every port -/

/-- Every Port Controller keeps its queue law. -/
def State.PortsFit (s t : State) : Prop := ∀ q, (s.port q).QueueLaw → (t.port q).QueueLaw

theorem State.PortsFit.trans {s t u : State} (h : s.PortsFit t) (k : t.PortsFit u) : s.PortsFit u :=
  fun q hq => k q (h q hq)

theorem State.PortsFit.of_eq {s t : State} (h : t.ports = s.ports) : s.PortsFit t := fun q hq => by
  rw [State.port, h]; exact hq

theorem State.PortsFit.set {s t : State} {p : Port} {c : PortController} (h : t.ports = s.ports.set p c)
    (hc : (s.port p).QueueLaw → c.QueueLaw) : s.PortsFit t := fun q hq => by
  rw [State.port, h, PerPort.get_set]
  split
  next he => exact hc (he ▸ hq)
  · exact hq

theorem State.PortsFit.ends {s t : State} (h : s.Ends t) : s.PortsFit t := fun q hq => by
  obtain ⟨d, -, hp⟩ := h
  refine (hp q).queueLaw ?_
  cases d with
  | none => exact hq
  | some p =>
    rw [PerPort.afterDrain, PerPort.get_set]
    split
    next he => exact PortController.SameQueues.queueLaw (he ▸ ⟨rfl, rfl, rfl, rfl, rfl, rfl, rfl⟩) hq
    · exact hq

theorem State.QueuesLaw.mono {s t : State} (h : s.QueuesLaw) (hp : s.PortsFit t) (hn : s.Hears t) : t.QueuesLaw :=
  ⟨fun p => hp p (h.port p), fun p => (hn p).1 (h.notices p)⟩

theorem State.QueuesLaw.congr {s t : State} (h : s.QueuesLaw) (hp : s.PortsFit t) (hn : t.notices = s.notices) :
    t.QueuesLaw :=
  ⟨fun p => hp p (h.port p), fun p => by rw [State.noticePort, hn]; exact h.notices p⟩

theorem State.leaveOnline_queuesLaw {s : State} (h : s.QueuesLaw) (p : Port) (c : LeaveCause) :
    (s.leaveOnline p c).1.QueuesLaw := by
  refine ⟨fun q => State.PortsFit.set (s.leaveOnline_ports p c)
    (PortController.SameQueues.queueLaw ⟨rfl, rfl, rfl, rfl, rfl, rfl, rfl⟩) q (h.port q), fun q => ?_⟩
  unfold State.leaveOnline State.enqueueJob
  dsimp only
  refine (State.notify_hears _ _ _ q).1 ?_
  have hb := h.notices q
  have hm : ((s.modifyPort p PortController.left).modifyNotices p
      (fun x => { x with queue := [], lostCount := 0, windowCount := 0 })).noticePort q |>.BoundsLaw := by
    rw [State.noticePort_modifyNotices]
    split
    · exact ⟨Nat.zero_le _, Nat.zero_le _, Nat.zero_le _⟩
    · exact hb
  split <;> exact hm

theorem State.comeOnline_queuesLaw {s : State} (h : s.QueuesLaw) (p : Port) (n m : Nat) (x : Subscriptions) :
    (s.comeOnline p n m x).QueuesLaw := by
  refine ⟨fun q => State.PortsFit.set (s.comeOnline_ports p n m x)
    (PortController.SameQueues.queueLaw ⟨rfl, rfl, rfl, rfl, rfl, rfl, rfl⟩) q (h.port q), fun q => ?_⟩
  refine (State.notify_hears _ _ _ q).1 ?_
  rw [State.noticePort_modifyNotices]
  split
  next hq => exact ⟨hq ▸ (h.notices q).queue, hq ▸ (h.notices q).lost, Nat.zero_le _⟩
  · exact h.notices q

/-- A Port Controller after a request frame has passed its check, but for its joining the queue (R120, R137). -/
theorem PortController.restartKeepalive_sameQueues (c : PortController) : c.SameQueues c.restartKeepalive := by
  unfold PortController.restartKeepalive
  split <;> exact ⟨rfl, rfl, rfl, rfl, rfl, rfl, rfl⟩

theorem PortController.restartRefill_sameQueues (c : PortController) (n : Nat) : c.SameQueues (c.restartRefill n) := by
  unfold PortController.restartRefill
  split <;> exact ⟨rfl, rfl, rfl, rfl, rfl, rfl, rfl⟩

theorem setCreditCapacity_port (n : Nat) (s : State) (q : Port) :
    (setCreditCapacity n s).state.port q = { s.port q with claimCredit := min (s.port q).claimCredit n } := by
  cases q <;> rfl

theorem setRefillInterval_port (n : Nat) (s : State) (q : Port) :
    (setRefillInterval n s).state.port q = (s.port q).restartRefill n := by
  cases q <;> rfl

theorem State.AtOnceChange.queuesLaw {p : Port} {s t : State} (h : s.AtOnceChange p t) (k : s.QueuesLaw) :
    t.QueuesLaw := by
  cases h with
  | attach n m x =>
    unfold State.comeOnlineLinked
    split
    · exact State.comeOnline_queuesLaw k p n m x
    · exact State.leaveOnline_queuesLaw (State.comeOnline_queuesLaw k p n m x) p _
  | renew n m x =>
    exact k.congr (.set (p := p) rfl (PortController.SameQueues.queueLaw ⟨rfl, rfl, rfl, rfl, rfl, rfl, rfl⟩)) rfl
  | leave q c => exact State.leaveOnline_queuesLaw k q c
  | abort j rest hq =>
    refine k.mono (.of_eq ?_) (s.finishHead_hears _)
    rw [State.finishHead_ports hq, Job.drains_aborted]
    rfl
  | cancel j w rest hq => exact k.mono (.of_eq (by simp)) ((State.closeJob_hears _ _ _).after rfl rfl)
  | creditCapacity n =>
    refine k.congr (fun q hq => ?_) (by simp [setCreditCapacity])
    rw [setCreditCapacity_port]
    exact PortController.SameQueues.queueLaw (c := s.port q) ⟨rfl, rfl, rfl, rfl, rfl, rfl, rfl⟩ hq
  | refillInterval n =>
    refine k.congr (fun q hq => ?_) (by simp [setRefillInterval])
    rw [setRefillInterval_port]
    exact (PortController.restartRefill_sameQueues _ n).queueLaw hq
  | same | enqueue | setting | sweepInterval | holdLease | freeLease | counter =>
    exact k.congr (.of_eq (by simp [setSweepInterval])) (by simp [setSweepInterval])

theorem State.linkIsLost_queuesLaw {s : State} (k : s.QueuesLaw) (p : Port) : (s.linkIsLost p).QueuesLaw := by
  have hl : (s.loseLink p).QueuesLaw := by
    refine ⟨fun q => State.PortsFit.set (s := s) (p := p) rfl PortController.QueueLaw.loseLink q (k.port q), fun q => ?_⟩
    unfold State.loseLink
    rw [State.noticePort_modifyNotices]
    split
    · exact ⟨Nat.zero_le _, Nat.zero_le _, Nat.zero_le _⟩
    · exact k.notices q
  unfold State.linkIsLost
  split
  · exact State.leaveOnline_queuesLaw hl p _
  · exact hl

theorem State.frameArrives_queuesLaw {s : State} (k : s.QueuesLaw) {p : Port} (hl : (s.port p).link = .up) (f : Frame) :
    (s.frameArrives p f).QueuesLaw := by
  have hsame : ∀ (s : State) (g : PortController → PortController), (∀ c : PortController, c.SameQueues (g c)) → s.QueuesLaw →
      (s.modifyPort p g).QueuesLaw := fun s g hg k => k.congr (.set (p := p) rfl (hg _).queueLaw) rfl
  have k1 := hsame s (fun c => { c with masterCredits := c.masterCredits - 1 }) (fun c => ⟨rfl, rfl, rfl, rfl, rfl, rfl, rfl⟩) k
  unfold State.frameArrives State.requestArrives
  dsimp only
  split
  · have k2 := hsame _ PortController.restartKeepalive PortController.restartKeepalive_sameQueues k1
    have hl2 : ((((s.modifyPort p fun c => { c with masterCredits := c.masterCredits - 1 }).modifyPort p
        PortController.restartKeepalive)).port p).link = .up := by
      rw [State.port_modifyPort_same, (PortController.restartKeepalive_sameQueues _).link, State.port_modifyPort_same]
      exact hl
    generalize ((s.modifyPort p fun c => { c with masterCredits := c.masterCredits - 1 }).modifyPort p
      PortController.restartKeepalive) = s2 at k2 hl2
    split
    next hlt =>
      refine k2.congr (.set (p := p) rfl fun hc => ⟨?_, hc.places, hc.order, hc.credits, hc.discard, hc.sending, fun hd => ?_⟩) rfl
      · rw [List.length_append]
        exact hlt
      · cases hl2.symm.trans hd
    · refine State.QueuesLaw.mono (k2.congr (t := s2.modifyPort p fun c => { c with overrun := true }) (.set (p := p) rfl
        fun hc => ⟨hc.requests, hc.places, hc.order, hc.credits, hc.discard, hc.sending, fun hd => ?_⟩) rfl)
        (.of_eq (by simp)) (State.count_hears _ _)
      cases hl2.symm.trans hd
  · exact k1.mono (.of_eq (by simp)) (State.count_hears _ _)

theorem NoticePort.BoundsLaw.headLeaves {n : NoticePort} (h : n.BoundsLaw) {x : Notice} {rest : List Notice}
    (hq : n.queue = x :: rest) (p : Port) : (n.headLeaves p).BoundsLaw := by
  refine ⟨?_, Nat.zero_le _, Nat.min_le_left _ _⟩
  have := h.queue
  rw [hq, List.length_cons] at this
  unfold NoticePort.headLeaves
  dsimp only
  rw [hq, List.tail_cons, List.length_append]
  split
  · exact this
  · exact (Nat.le_succ _).trans this

theorem State.AtOnceChange.executor {p : Port} {s t : State} (h : s.AtOnceChange p t) (q : Port) :
    (t.port q).executor = (s.port q).executor := by
  have hset : ∀ {s t : State} {r : Port} {c : PortController}, t.ports = s.ports.set r c →
      c.executor = (s.port r).executor → (t.port q).executor = (s.port q).executor := fun {s t r c} ht hc => by
    rw [State.port, ht, PerPort.get_set]
    split
    next he => rw [he]; exact hc
    · rfl
  cases h with
  | attach n m x =>
    unfold State.comeOnlineLinked
    split
    · exact hset (s.comeOnline_ports p n m x) rfl
    · exact (hset (State.leaveOnline_ports _ p _) rfl).trans (hset (s.comeOnline_ports p n m x) rfl)
  | renew => exact hset (s := s) (r := p) rfl rfl
  | leave r c => exact hset (s.leaveOnline_ports r c) rfl
  | abort j rest hq =>
    rw [State.port, State.finishHead_ports hq, Job.drains_aborted]
    rfl
  | creditCapacity n => rw [setCreditCapacity_port]
  | refillInterval n =>
    rw [setRefillInterval_port]
    exact (PortController.restartRefill_sameQueues _ n).executor
  | same | enqueue | cancel | setting | sweepInterval | holdLease | freeLease | counter =>
    simp [setSweepInterval, State.port]

theorem State.respond_queuesLaw {s : State} {p : Port} {rq : RequestFrame} (k : s.QueuesLaw)
    (h : (s.port p).executor = .busy rq) (st : Status) (res : Result) : (s.respond p rq st res).QueuesLaw :=
  k.mono (fun q hq => (State.respond_maybeAnswered h st res q).queueLaw hq) (s.respond_hears p rq st res)

theorem State.takeCredit_portsFit (s : State) (p : Port) : s.PortsFit (s.takeCredit p) :=
  .set (p := p) rfl (PortController.SameQueues.queueLaw ⟨rfl, rfl, rfl, rfl, rfl, rfl, rfl⟩)

theorem State.ActsWide.portsFit {s t : State} {p : Port} (h : s.ActsWide t p) : s.PortsFit t := by
  rcases h.ports with hp | hp
  · exact .of_eq hp
  · exact (s.takeCredit_portsFit p).trans (.of_eq hp)

theorem State.takeRequest_hears (s : State) (p : Port) (rq : RequestFrame) (rest : List RequestFrame) :
    s.Hears (s.takeRequest p rq rest) :=
  (State.Hears.modifyPort s p (f := fun c => c.taken rq rest) id).trans (State.count_hears _ _)

theorem State.tick_port (s : State) (p : Port) :
    s.tick.port p = { s.port p with
      keepaliveTimer := countDown (s.port p).keepaliveTimer, refillTimer := countDown (s.port p).refillTimer } := by
  simp [State.tick, State.port]

theorem State.tick_noticePort (s : State) (p : Port) :
    s.tick.noticePort p = { s.noticePort p with windowDue := true } := by
  simp [State.tick, State.noticePort]

theorem State.queuesLaw_kept : State.Kept State.QueuesLaw where
  reset := by
    have hport : ∀ p, State.reset.port p = PortController.atReset := fun p => by cases p <;> rfl
    have hnotice : ∀ p, State.reset.noticePort p = NoticePort.atReset := fun p => by cases p <;> rfl
    refine ⟨fun p => ?_, fun p => ?_⟩
    · rw [hport]
      exact ⟨Nat.zero_le _, Nat.zero_le _, rfl, Nat.zero_le _, (fun h => by cases h), (fun _ _ _ h => by cases h),
        fun _ => ⟨rfl, rfl, rfl, rfl, fun _ h => (nomatch h)⟩⟩
    · rw [hnotice]
      exact ⟨Nat.zero_le _, Nat.zero_le _, Nat.zero_le _⟩
  quiet hs h := hs.congr (.of_eq (h .ports (by simp))) (h .notices (by simp))
  refused st hs he := State.respond_queuesLaw hs he st _
  direct hs he hc h := State.respond_queuesLaw ((h.change hc).queuesLaw hs) (((h.change hc).executor _).trans he) _ _
  abortWaits p hs := hs.congr (.of_eq rfl) rfl
  request hs _ h := hs.congr (h.actsWide _).portsFit ((h.actsWide _).frame .notices (by simp))
  bucket {s v j rest c u f} hs hq h := by
    have hb := s.overSlots_actsInBucket h.actsInBucket (bucketSlots j.cursor)
    refine hs.congr (.of_eq ?_) ?_
    · simpa [State.actBucket, State.Same] using hb.frame .ports (by simp)
    · simpa [State.actBucket, State.Same] using hb.frame .notices (by simp)
  resolution v x rest f hs _ :=
    hs.congr (.of_eq (by simp)) ((resolveExpiry_acts v x f _ .p0).frame .notices (by simp))
  advance u hs := hs.mono (.ends (State.advance_ends _ u)) (State.advance_hears _ u)
  startWindow {s} p hs := by
    unfold State.startWindow
    split
    · refine ⟨hs.port, fun q => ?_⟩
      rw [State.noticePort_modifyNotices]
      split
      next hq => exact ⟨hq ▸ (hs.notices q).queue, hq ▸ (hs.notices q).lost, Nat.zero_le _⟩
      · exact hs.notices q
    · exact hs
  linkUp p hs _ := hs.congr (.set (p := p) rfl PortController.QueueLaw.linkUp) rfl
  linkLost p hs _ := State.linkIsLost_queuesLaw hs p
  arrival p f hs hl := State.frameArrives_queuesLaw hs hl f
  take {s} p rq rest hs hi hq hr :=
    hs.mono (.set (s.takeRequest_ports p rq rest) fun h => h.taken hi hq hr)
      (State.takeRequest_hears s p rq rest)
  beginResponse p r hs hc hr := hs.congr (.set (p := p) rfl fun h => h.beginResponse hc hr) rfl
  sendNotice {s} p n rest hs hc hq := by
    refine State.QueuesLaw.mono (s := (s.modifyNotices p (fun x => x.headLeaves p)).modifyPort p (fun c => c.beginNotice n))
      ⟨fun q => ?_, fun q => ?_⟩ (.of_eq (by simp [State.sendNotice])) (State.count_hears _ _)
    · exact State.PortsFit.set (s := s) (p := p) rfl (fun h => h.beginNotice hc n) q (hs.port q)
    · change ((s.modifyNotices p (fun x => x.headLeaves p)).noticePort q).BoundsLaw
      rw [State.noticePort_modifyNotices]
      split
      · exact (hs.notices p).headLeaves hq p
      · exact hs.notices q
  frameSent p f hs hf := hs.congr (.set (p := p) rfl fun h => h.sent hf) rfl
  keepalive {s} p hs := by
    unfold State.expireKeepalive
    split
    · exact State.leaveOnline_queuesLaw hs p _
    · exact hs
  refill {s} p hs := by
    unfold State.expireRefill
    split
    · exact hs.congr (.set (p := p) rfl (PortController.SameQueues.queueLaw ⟨rfl, rfl, rfl, rfl, rfl, rfl, rfl⟩)) rfl
    · exact hs
  transfer hs := hs.congr (.of_eq (by simp)) (by simp)
  lease {s} hs := by
    refine hs.mono (.of_eq (by simp)) ?_
    unfold State.expireLease
    split
    · split
      · exact (State.notify_hears _ _ _).after rfl rfl
      · exact .refl s
    · exact .refl s
  sweep hs := hs.congr (.of_eq (by simp)) (by simp)
  tick {s} hs := by
    refine ⟨fun q => ?_, fun q => ?_⟩
    · rw [State.tick_port]
      exact PortController.SameQueues.queueLaw (c := s.port q) ⟨rfl, rfl, rfl, rfl, rfl, rfl, rfl⟩ (hs.port q)
    · rw [State.tick_noticePort]
      exact ⟨(hs.notices q).queue, (hs.notices q).lost, (hs.notices q).window⟩

/-- Settles O13: every operation keeps the bounds of every queue and the order of the response places. -/
theorem stepKeepsQueuesLaw : Obligations.StepKeepsQueuesLaw := by
  unfold Obligations.StepKeepsQueuesLaw
  exact fun s t hs h => State.queuesLaw_kept.step hs h

end Sys2Proof.Machine
end

section
/-! SUPPORT. The session law: what a port that is not ONLINE holds, the ORPHAN jobs of the DRAINING ports, and the lease
holder (R93, R118, R130, R137, R173). -/

namespace Sys2Proof.Machine

/-! ### One Port Controller -/

/-- What a Port Controller holds by its session state (R118, R130, R137, R40). -/
structure PortController.SessionFit (c : PortController) : Prop where
  link : c.session = .online → c.link = .up
  offline : c.session ≠ .online → c.keepaliveTimer = none ∧ c.refillTimer = none ∧ c.claimCredit = 0
    ∧ c.keepaliveTimeout = 0 ∧ c.pacingLimit = 0 ∧ c.subscriptions = Subscriptions.empty

/-- A Port Controller whose session state stands, and which still holds what that state allows. -/
structure PortController.SessionKept (c d : PortController) : Prop where
  session : d.session = c.session
  fit : c.SessionFit → d.SessionFit

theorem PortController.SessionKept.refl (c : PortController) : c.SessionKept c := ⟨rfl, id⟩

/-- The session part of a Port Controller, but for its timers and its credit, is as it was. -/
theorem PortController.SessionKept.of_online {c d : PortController} (hs : d.session = c.session)
    (hl : d.link = c.link) (ho : c.session ≠ .online → d.keepaliveTimer = c.keepaliveTimer
      ∧ d.refillTimer = c.refillTimer ∧ d.claimCredit ≤ c.claimCredit ∧ d.keepaliveTimeout = c.keepaliveTimeout
      ∧ d.pacingLimit = c.pacingLimit ∧ d.subscriptions = c.subscriptions) : c.SessionKept d := by
  refine ⟨hs, fun h => ⟨fun k => hl.trans (h.link (hs ▸ k)), fun k => ?_⟩⟩
  rw [hs] at k
  obtain ⟨h1, h2, h3, h4, h5, h6⟩ := h.offline k
  obtain ⟨k1, k2, k3, k4, k5, k6⟩ := ho k
  exact ⟨k1.trans h1, k2.trans h2, Nat.le_zero.1 (h3 ▸ k3), k4.trans h4, k5.trans h5, k6.trans h6⟩

theorem PortController.MaybeAnswered.sessionKept {c d : PortController} (h : c.MaybeAnswered d) : c.SessionKept d := by
  rcases h with rfl | ⟨rq, r, -, rfl⟩
  · exact .refl _
  · exact .of_online rfl rfl fun _ => ⟨rfl, rfl, le_rfl, rfl, rfl, rfl⟩

/-! ### The law and its frame -/

theorem State.PortSessionLaw.iff {s : State} {p : Port} : s.PortSessionLaw p ↔ (s.port p).SessionFit
    ∧ ((s.port p).session ≠ .online → (s.noticePort p).queue = [] ∧ (s.noticePort p).lostCount = 0)
    ∧ s.maintenance.orphanJobs p = if (s.port p).session = .draining then 1 else 0 := by
  constructor
  · intro ⟨hl, ho, hd⟩
    refine ⟨⟨hl, fun h => ?_⟩, fun h => ?_, hd⟩
    · obtain ⟨h1, h2, h3, h4, h5, h6, -, -⟩ := ho h
      exact ⟨h1, h2, h3, h4, h5, h6⟩
    · obtain ⟨-, -, -, -, -, -, h7, h8⟩ := ho h
      exact ⟨h7, h8⟩
  · intro ⟨hf, hn, hd⟩
    refine ⟨hf.link, fun h => ?_, hd⟩
    obtain ⟨h1, h2, h3, h4, h5, h6⟩ := hf.offline h
    exact ⟨h1, h2, h3, h4, h5, h6, hn h⟩

theorem State.PortSessionLaw.withLease {s : State} {p : Port} (h : s.PortSessionLaw p) (x : Lease) :
    (s.withLease x).PortSessionLaw p := ⟨h.link, h.offline, h.draining⟩

/-- A port that is not ONLINE is heard of no more: its notice queue and its lost count stand (R160). -/
def State.Silent (s t : State) : Prop :=
  ∀ q, (s.port q).session ≠ .online →
    (t.noticePort q).queue = (s.noticePort q).queue ∧ (t.noticePort q).lostCount = (s.noticePort q).lostCount

theorem State.Hears.silent {s t : State} (h : s.Hears t) : s.Silent t := fun q hq => by
  rw [((h q).2 hq).2]
  exact ⟨rfl, rfl⟩

theorem State.Silent.of_eq {s t : State} (h : t.notices = s.notices) : s.Silent t := fun q _ => by
  rw [State.noticePort, h]
  exact ⟨rfl, rfl⟩

/-- Every Port Controller keeps its session. -/
def State.SessionsKept (s t : State) : Prop := ∀ q, (s.port q).SessionKept (t.port q)

theorem State.SessionsKept.of_eq {s t : State} (h : t.ports = s.ports) : s.SessionsKept t := fun q => by
  rw [State.port, State.port, h]
  exact .refl _

theorem State.SessionsKept.set {s t : State} {p : Port} {c : PortController} (h : t.ports = s.ports.set p c)
    (hc : (s.port p).SessionKept c) : s.SessionsKept t := fun q => by
  rw [State.port, State.port, h, PerPort.get_set]
  split
  next he => exact he ▸ hc
  · exact .refl _

theorem State.SessionLaw.mono {s t : State} (h : s.SessionLaw) (hp : s.SessionsKept t) (hn : s.Silent t)
    (hl : t.lease = s.lease) (hm : ∀ q, t.maintenance.orphanJobs q = s.maintenance.orphanJobs q) : t.SessionLaw := by
  refine ⟨fun q => State.PortSessionLaw.iff.2 ?_, fun q hq => ?_, fun hq => ?_⟩
  · obtain ⟨h1, h2, h3⟩ := State.PortSessionLaw.iff.1 (h.port q)
    have hs := (hp q).session
    refine ⟨(hp q).fit h1, fun ho => ?_, ?_⟩
    · rw [hs] at ho
      rw [(hn q ho).1, (hn q ho).2]
      exact h2 ho
    · rw [hm, hs]
      exact h3
  · rw [(hp q).session]
    exact h.holder q (hl ▸ hq)
  · rw [hl]
    exact h.free (hl ▸ hq)

/-- The law of every port but one, which has no ORPHAN job; a lease holder is ONLINE, or that port. -/
structure State.SessionLawBut (s : State) (p : Port) : Prop where
  port : ∀ q, q ≠ p → s.PortSessionLaw q
  jobs : s.maintenance.orphanJobs p = 0
  holder : ∀ q, q ≠ p → s.lease.holder = some q → (s.port q).session = .online
  free : s.lease.holder = none → s.lease.remaining = 0

theorem State.SessionLaw.but {s : State} (h : s.SessionLaw) {p : Port} (hp : (s.port p).session ≠ .draining) :
    s.SessionLawBut p :=
  ⟨fun q _ => h.port q, by rw [(h.port p).draining, if_neg hp], fun q _ => h.holder q, h.free⟩

/-- What is said of every port but one depends on the other ports alone. -/
theorem State.SessionLawBut.mono {s t : State} {p : Port} (h : s.SessionLawBut p)
    (hp : ∀ q, q ≠ p → t.port q = s.port q) (hn : ∀ q, q ≠ p → t.noticePort q = s.noticePort q)
    (hl : t.lease = s.lease) (hm : t.maintenance = s.maintenance) : t.SessionLawBut p := by
  refine ⟨fun q hq => ?_, by rw [hm]; exact h.jobs, fun q hq hh => ?_, fun hh => ?_⟩
  · obtain ⟨h1, h2, h3⟩ := h.port q hq
    exact ⟨by rw [hp q hq]; exact h1, by rw [hp q hq, hn q hq]; exact h2, by rw [hm, hp q hq]; exact h3⟩
  · rw [hp q hq]
    exact h.holder q hq (hl ▸ hh)
  · rw [hl]
    exact h.free (hl ▸ hh)

/-! ### The ORPHAN jobs of a queue -/

/-- An ORPHAN job for a port. -/
def Job.orphanFor (p : Port) (j : Job) : Bool :=
  match j.work with
  | .orphan t _ => decide (t = p)
  | .sweep | .purge _ | .clear => false

theorem Job.orphanFor_other {j : Job} (h : j.work.kind ≠ .orphan) (p : Port) : j.orphanFor p = false := by
  unfold Job.orphanFor
  cases hw : j.work <;> simp [hw, JobWork.kind] at h ⊢

/-- The ORPHAN jobs of a list of jobs for a port. -/
def orphansIn (l : List Job) (p : Port) : Nat := l.countP (Job.orphanFor p)

theorem Maintenance.orphanJobs_eq (m : Maintenance) (p : Port) : m.orphanJobs p = orphansIn m.queue p := rfl

theorem orphansIn_cons (j : Job) (l : List Job) (p : Port) :
    orphansIn (j :: l) p = orphansIn l p + if j.orphanFor p = true then 1 else 0 := List.countP_cons

theorem orphansIn_cons_other {j : Job} (h : j.work.kind ≠ .orphan) (l : List Job) (p : Port) :
    orphansIn (j :: l) p = orphansIn l p := by
  rw [orphansIn_cons, Job.orphanFor_other h]
  rfl

theorem orphansIn_append (l m : List Job) (p : Port) : orphansIn (l ++ m) p = orphansIn l p + orphansIn m p :=
  List.countP_append

/-- A list that loses jobs other than ORPHAN jobs keeps its ORPHAN jobs. -/
theorem orphansIn_filter {f : Job → Bool} (h : ∀ j, f j = false → j.work.kind ≠ .orphan) (l : List Job) (p : Port) :
    orphansIn (l.filter f) p = orphansIn l p := by
  induction l with
  | nil => rfl
  | cons j rest ih =>
    by_cases hf : f j = true
    · rw [List.filter_cons_of_pos hf, orphansIn_cons, orphansIn_cons, ih]
    · rw [List.filter_cons_of_neg hf, ih, orphansIn_cons_other (h j (by simpa using hf))]

theorem orphansIn_keptJobs (l : List Job) (p : Port) : orphansIn (keptJobs l) p = orphansIn l p := by
  cases l with
  | nil => rfl
  | cons j rest =>
    unfold keptJobs
    rw [orphansIn_cons, orphansIn_cons]
    congr 1
    split
    · refine orphansIn_filter (fun c hc => ?_) rest p
      intro hk
      simp [JobWork.yieldsToClear, hk] at hc
    · rfl

theorem orphansIn_erase {w : Job} (h : w.work.kind ≠ .orphan) (l : List Job) (p : Port) :
    orphansIn (l.erase w) p = orphansIn l p := by
  induction l with
  | nil => rfl
  | cons j rest ih =>
    rw [List.erase_cons]
    split
    next he =>
      have : j = w := by simpa using he
      rw [orphansIn_cons_other (this ▸ h)]
    · rw [orphansIn_cons, orphansIn_cons, ih]

theorem State.enqueueJob_orphanJobs {w : JobWork} (h : w.kind ≠ .orphan) (s : State) (r : Option Port) (q : Port) :
    (s.enqueueJob w r).1.maintenance.orphanJobs q = s.maintenance.orphanJobs q := by
  rw [Maintenance.orphanJobs_eq, Maintenance.orphanJobs_eq]
  simp only [State.enqueueJob, State.withMaintenance_maintenance]
  rw [orphansIn_append, orphansIn_cons_other h]
  rfl

/-! ### Leaving and coming ONLINE -/

/-- A port has left ONLINE, but for its PORT_STATE (R134). -/
def State.leaving (s : State) (p : Port) (c : LeaveCause) : State :=
  ((((s.modifyPort p PortController.left).modifyNotices p
    (fun q => { q with queue := [], lostCount := 0, windowCount := 0 })).withLease
      (if s.lease.holder = some p then Lease.free else s.lease)).enqueueJob (.orphan p c) none).1

theorem State.leaveOnline_eq (s : State) (p : Port) (c : LeaveCause) :
    (s.leaveOnline p c).1 = (s.leaving p c).notify (.subscribersBut .portState p) (.portState p .draining (.left c)) := by
  unfold State.leaveOnline State.leaving
  dsimp only
  by_cases h : s.lease.holder = some p
  · rw [if_pos h, if_pos (by exact h)]
  · rw [if_neg h, if_neg (by exact h)]
    rfl

theorem State.leaving_port (s : State) (p : Port) (c : LeaveCause) (q : Port) :
    (s.leaving p c).port q = if q = p then (s.port p).left else s.port q := State.port_modifyPort s p q _

theorem State.leaving_noticePort (s : State) (p : Port) (c : LeaveCause) (q : Port) :
    (s.leaving p c).noticePort q
      = if q = p then { s.noticePort p with queue := [], lostCount := 0, windowCount := 0 } else s.noticePort q :=
  State.noticePort_modifyNotices (s.modifyPort p PortController.left) p q
    (fun w => { w with queue := [], lostCount := 0, windowCount := 0 })

theorem State.leaving_lease (s : State) (p : Port) (c : LeaveCause) :
    (s.leaving p c).lease = if s.lease.holder = some p then Lease.free else s.lease := rfl

theorem State.leaving_maintenance (s : State) (p : Port) (c : LeaveCause) :
    (s.leaving p c).maintenance = { s.maintenance with
      queue := s.maintenance.queue ++ [⟨s.maintenance.newId, .orphan p c, none, 0, JobCounts.zero⟩]
      nextId := nextJobId s.maintenance.newId } := rfl

/-- A notice keeps the law (R160). -/
theorem State.SessionLaw.notify {s : State} (h : s.SessionLaw) (a : Audience) (n : Notice) :
    (s.notify a n).SessionLaw :=
  h.mono (.of_eq (by simp)) (s.notify_hears a n).silent (by simp) fun q => by simp

theorem State.leaveOnline_sessionLaw {s : State} {p : Port} (h : s.SessionLawBut p) (c : LeaveCause) :
    (s.leaveOnline p c).1.SessionLaw := by
  rw [State.leaveOnline_eq]
  refine State.SessionLaw.notify ⟨fun q => State.PortSessionLaw.iff.2 ?_, fun q hq => ?_, fun hq => ?_⟩ _ _
  · have hjobs : (s.leaving p c).maintenance.orphanJobs q = s.maintenance.orphanJobs q + if p = q then 1 else 0 := by
      rw [State.leaving_maintenance, Maintenance.orphanJobs_eq, Maintenance.orphanJobs_eq, orphansIn_append,
        orphansIn_cons]
      simp [Job.orphanFor, orphansIn]
    rw [State.leaving_port, State.leaving_noticePort, hjobs]
    by_cases hq : q = p
    · subst hq
      rw [if_pos rfl, if_pos rfl, if_pos rfl, h.jobs]
      exact ⟨⟨fun hs => (nomatch hs), fun _ => ⟨rfl, rfl, rfl, rfl, rfl, rfl⟩⟩, fun _ => ⟨rfl, rfl⟩, rfl⟩
    · rw [if_neg hq, if_neg hq, if_neg (Ne.symm hq)]
      exact State.PortSessionLaw.iff.1 (h.port q hq)
  · rw [State.leaving_lease] at hq
    split at hq
    · cases hq
    next hp =>
      have hqp : q ≠ p := fun he => hp (he ▸ hq)
      rw [State.leaving_port, if_neg hqp]
      exact h.holder q hqp hq
  · rw [State.leaving_lease] at hq ⊢
    split at hq
    next hp => rw [if_pos hp]; rfl
    next hp => rw [if_neg hp]; exact h.free hq

/-- A port has come ONLINE, but for its PORT_STATE (R131). -/
def State.coming (s : State) (p : Port) (n m : Nat) (x : Subscriptions) : State :=
  (s.modifyPort p (fun c => c.attached s.settings n m x)).modifyNotices p
    (fun w => { w with windowCount := 0, windowLimit := m })

theorem State.comeOnline_eq (s : State) (p : Port) (n m : Nat) (x : Subscriptions) :
    s.comeOnline p n m x = (s.coming p n m x).notify (.subscribersBut .portState p) (.portState p .online .attach) := rfl

theorem State.coming_port (s : State) (p : Port) (n m : Nat) (x : Subscriptions) (q : Port) :
    (s.coming p n m x).port q = if q = p then (s.port p).attached s.settings n m x else s.port q :=
  State.port_modifyPort s p q (fun c => c.attached s.settings n m x)

theorem State.coming_noticePort (s : State) (p : Port) (n m : Nat) (x : Subscriptions) (q : Port) :
    (s.coming p n m x).noticePort q
      = if q = p then { s.noticePort p with windowCount := 0, windowLimit := m } else s.noticePort q :=
  State.noticePort_modifyNotices (s.modifyPort p (fun c => c.attached s.settings n m x)) p q
    (fun w => { w with windowCount := 0, windowLimit := m })

theorem State.coming_but {s : State} {p : Port} (h : s.SessionLaw) (hp : (s.port p).session ≠ .draining)
    (n m : Nat) (x : Subscriptions) : (s.coming p n m x).SessionLawBut p :=
  (h.but hp).mono (fun q hq => by rw [State.coming_port, if_neg hq]) (fun q hq => by rw [State.coming_noticePort, if_neg hq])
    rfl rfl

theorem State.SessionLawBut.notify {s : State} {p : Port} (h : s.SessionLawBut p) (a : Audience) (n : Notice) :
    (s.notify a n).SessionLawBut p := by
  have hport : ∀ q, (s.notify a n).port q = s.port q := fun q => by simp [State.port]
  have hsil := (s.notify_hears a n).silent
  refine ⟨fun q hq => State.PortSessionLaw.iff.2 ?_, by simpa using h.jobs, fun q hq hh => ?_, fun hh => ?_⟩
  · obtain ⟨h1, h2, h3⟩ := State.PortSessionLaw.iff.1 (h.port q hq)
    rw [hport]
    refine ⟨h1, fun ho => ?_, by simpa using h3⟩
    rw [(hsil q ho).1, (hsil q ho).2]
    exact h2 ho
  · rw [hport]
    exact h.holder q hq (by simpa using hh)
  · simpa using h.free (by simpa using hh)

theorem State.comeOnlineLinked_sessionLaw {s : State} {p : Port} (h : s.SessionLaw)
    (hp : (s.port p).session = .offline) (n m : Nat) (x : Subscriptions) :
    (s.comeOnlineLinked p n m x).SessionLaw := by
  have hb := State.coming_but h (by rw [hp]; decide) n m x
  unfold State.comeOnlineLinked
  rw [State.comeOnline_eq]
  split
  next hl =>
    refine State.SessionLaw.notify ⟨fun q => ?_, fun q hq => ?_, hb.free⟩ _ _
    · by_cases hq : q = p
      · subst hq
        refine State.PortSessionLaw.iff.2 ?_
        rw [State.coming_port, if_pos rfl]
        exact ⟨⟨fun _ => hl, fun ho => absurd rfl ho⟩, fun ho => absurd rfl ho, hb.jobs⟩
      · exact hb.port q hq
    · by_cases hqp : q = p
      · rw [hqp, State.coming_port, if_pos rfl]
        rfl
      · exact hb.holder q hqp hq
  · exact State.leaveOnline_sessionLaw (hb.notify _ _) _

/-! ### The operations -/

theorem State.finishHead_aborted_sessionLaw {s : State} (h : s.SessionLaw) {j : Job} {rest : List Job}
    (hq : s.maintenance.queue = j :: rest) (ha : j.abortable = true) : (s.finishHead .aborted).SessionLaw := by
  have hk : j.work.kind ≠ .orphan := by
    simp only [Job.abortable, Bool.and_eq_true, decide_eq_true_eq] at ha
    exact ha.1
  refine h.mono (.of_eq ?_) (s.finishHead_hears _).silent (by simp) fun q => ?_
  · rw [State.finishHead_ports hq, Job.drains_aborted]
    rfl
  · rw [State.finishHead_maintenance hq, Maintenance.orphanJobs_eq, Maintenance.orphanJobs_eq, hq,
      orphansIn_keptJobs, orphansIn_cons_other hk]

theorem State.AtOnceChange.sessionLaw {p : Port} {s t : State} (h : s.AtOnceChange p t) (k : s.SessionLaw) :
    t.SessionLaw := by
  cases h with
  | same => exact k
  | attach n m x hp => exact State.comeOnlineLinked_sessionLaw k hp n m x
  | renew n m x hp =>
    exact k.mono (.set (p := p) rfl (.of_online rfl rfl fun ho => absurd hp ho)) (.of_eq rfl) rfl fun _ => rfl
  | leave q c hq => exact State.leaveOnline_sessionLaw (k.but (by rw [hq]; decide)) c
  | enqueue w hw => exact k.mono (.of_eq rfl) (.of_eq rfl) rfl (State.enqueueJob_orphanJobs hw s _)
  | abort j rest hq ha => exact State.finishHead_aborted_sessionLaw k hq ha
  | cancel j w rest hq hw ha =>
    have hk : w.work.kind ≠ .orphan := by
      simp only [Job.abortable, Bool.and_eq_true, decide_eq_true_eq] at ha
      exact ha.1
    refine k.mono (.of_eq (by simp)) (State.Hears.silent (.after (State.closeJob_hears (s.withQueue (j :: rest.erase w)) .cancelled w) rfl rfl)) (by simp) fun q => ?_
    rw [State.closeJob_maintenance, Maintenance.orphanJobs_eq, Maintenance.orphanJobs_eq, hq]
    change orphansIn (j :: rest.erase w) q = _
    rw [orphansIn_cons, orphansIn_cons, orphansIn_erase hk]
  | creditCapacity n =>
    refine k.mono (fun q => ?_) (.of_eq rfl) rfl fun _ => rfl
    rw [setCreditCapacity_port]
    exact .of_online rfl rfl fun _ => ⟨rfl, rfl, Nat.min_le_left _ _, rfl, rfl, rfl⟩
  | refillInterval n =>
    refine k.mono (fun q => ?_) (.of_eq rfl) rfl fun _ => rfl
    rw [setRefillInterval_port]
    unfold PortController.restartRefill
    split
    next ho => exact .of_online rfl rfl fun hn => absurd ho hn
    · exact .refl _
  | holdLease d hp =>
    refine ⟨fun q => (k.port q).withLease _, fun q hq => ?_, fun hq => by cases hq⟩
    obtain rfl : p = q := Option.some.inj hq
    exact hp
  | freeLease => exact ⟨fun q => (k.port q).withLease _, fun q hq => (by cases hq), fun _ => rfl⟩
  | setting | sweepInterval | counter =>
    exact k.mono (.of_eq (by simp [setSweepInterval])) (.of_eq (by simp [setSweepInterval])) (by simp [setSweepInterval])
      fun _ => by simp [setSweepInterval, Maintenance.orphanJobs]

/-- The end of a grant keeps the law: a DONE ORPHAN job was the only one of its port, which is OFFLINE then (R152). -/
theorem State.advance_sessionLaw {s : State} (h : s.SessionLaw) (u : Option Nat) : (s.advance u).SessionLaw := by
  obtain ⟨d, hm, hp⟩ := s.advance_ends u
  have hsil := (s.advance_hears u).silent
  have hl : (s.advance u).lease = s.lease := by simp
  have plain : d = none → (∀ q, (s.advance u).maintenance.orphanJobs q = s.maintenance.orphanJobs q) →
      (s.advance u).SessionLaw := fun hd hj => h.mono (fun q => by
        have := hp q
        rw [hd] at this
        exact this.sessionKept) hsil hl hj
  generalize s.advance u = t at hm hp hsil hl plain
  generalize htm : t.maintenance = m at hm plain
  cases hm with
  | same l => exact plain rfl fun q => rfl
  | head j rest k n l hq _ =>
    refine plain rfl fun q => ?_
    rw [Maintenance.orphanJobs_eq, Maintenance.orphanJobs_eq, hq, orphansIn_cons, orphansIn_cons]
    rfl
  | finish j rest o rs l hq ho =>
    have hjobs : ∀ q, t.maintenance.orphanJobs q = orphansIn rest q := fun q => by
      rw [htm, Maintenance.orphanJobs_eq, orphansIn_keptJobs]
    have hold : ∀ q, s.maintenance.orphanJobs q = orphansIn (j :: rest) q := fun q => by
      rw [Maintenance.orphanJobs_eq, hq]
    by_cases hk : j.work.kind = .orphan
    · obtain ⟨p, c, hw⟩ : ∃ p c, j.work = .orphan p c := by
        cases hw : j.work <;> simp [hw, JobWork.kind] at hk ⊢
      have hdone : o = .done := by
        rcases ho with ho | ⟨-, ha⟩
        · exact ho
        · simp [Job.abortable, hk] at ha
      have hd : j.drains o = some p := by simp [Job.drains, hw, hdone]
      rw [hd] at hp
      have hpp : orphansIn (j :: rest) p = 1 ∧ orphansIn rest p = 0 ∧ (s.port p).session = .draining := by
        have := (h.port p).draining
        rw [hold, orphansIn_cons, if_pos (by simp [Job.orphanFor, hw])] at this
        rw [orphansIn_cons, if_pos (by simp [Job.orphanFor, hw])]
        split at this
        next hs => exact ⟨this, by omega, hs⟩
        · omega
      obtain ⟨-, hrest, hdr⟩ := hpp
      have hother : ∀ q, q ≠ p → orphansIn (j :: rest) q = orphansIn rest q := fun q hqp => by
        rw [orphansIn_cons, if_neg (by simp [Job.orphanFor, hw, Ne.symm hqp]), Nat.add_zero]
      have hport : ∀ q, q ≠ p → (s.port q).SessionKept (t.port q) := fun q hqp => by
        have := hp q
        rw [PerPort.afterDrain, PerPort.get_set, if_neg hqp] at this
        exact this.sessionKept
      have hdrained := hp p
      rw [PerPort.afterDrain, PerPort.get_set, if_pos rfl] at hdrained
      refine ⟨fun q => State.PortSessionLaw.iff.2 ?_, fun q hh => ?_, fun hh => ?_⟩
      · rw [hjobs]
        obtain ⟨h1, h2, h3⟩ := State.PortSessionLaw.iff.1 (h.port q)
        by_cases hqp : q = p
        · subst hqp
          have hno : (s.port q).session ≠ .online := by rw [hdr]; decide
          have hs : (t.port q).session = .offline := hdrained.sessionKept.session
          refine ⟨hdrained.sessionKept.fit ⟨fun ho => (nomatch ho), fun _ => h1.offline hno⟩, fun _ => ?_, ?_⟩
          · rw [(hsil q hno).1, (hsil q hno).2]
            exact h2 hno
          · rw [hrest, hs]
            rfl
        · have hs := (hport q hqp).session
          refine ⟨(hport q hqp).fit h1, fun hno => ?_, ?_⟩
          · rw [hs] at hno
            rw [(hsil q hno).1, (hsil q hno).2]
            exact h2 hno
          · rw [← hother q hqp, ← hold, hs]
            exact h3
      · rw [hl] at hh
        have ho := h.holder q hh
        have hqp : q ≠ p := fun he => by rw [he, hdr] at ho; cases ho
        rw [(hport q hqp).session]
        exact ho
      · rw [hl] at hh ⊢
        exact h.free hh
    · refine plain ?_ fun q => ?_
      · have hw := JobWork.kind_ne_orphan.1 hk
        unfold Job.drains
        split
        next p c hw' => exact absurd hw' (hw p c)
        · rfl
      · rw [← htm, hjobs, hold, orphansIn_cons_other hk]

theorem State.actBucket_maintenance {s : State} {v : View} {j : Job} {rest : List Job} {c : Instr} {u : Option Nat}
    {f : Nat → State → State} (hq : s.maintenance.queue = j :: rest) (h : BucketAct v j c u f) :
    (s.actBucket j f).maintenance = s.maintenance := by
  have hb := s.overSlots_actsInBucket h.actsInBucket (bucketSlots j.cursor)
  exact (hb.counts j.counts).trans (State.modifyCounts_same hq)

theorem State.takeCredit_sessionsKept (s : State) (p : Port) : s.SessionsKept (s.takeCredit p) :=
  .set (p := p) rfl (.of_online rfl rfl fun _ => ⟨rfl, rfl, Nat.sub_le _ _, rfl, rfl, rfl⟩)

theorem State.ActsWide.sessionsKept {s t : State} {p : Port} (h : s.ActsWide t p) : s.SessionsKept t := by
  rcases h.ports with hp | hp
  · exact .of_eq hp
  · exact fun q => by
      have := s.takeCredit_sessionsKept p q
      rw [State.port] at this ⊢
      rwa [State.port, hp]

theorem State.linkIsLost_sessionLaw {s : State} (h : s.SessionLaw) (p : Port) : (s.linkIsLost p).SessionLaw := by
  have hport : ∀ q, (s.loseLink p).port q = if q = p then (s.port p).loseLink else s.port q := fun q =>
    State.port_modifyPort s p q PortController.loseLink
  have hnote : ∀ q, (s.loseLink p).noticePort q
      = if q = p then { s.noticePort p with queue := [], lostCount := 0, windowCount := 0 } else s.noticePort q :=
    fun q => State.noticePort_modifyNotices (s.modifyPort p PortController.loseLink) p q
      (fun w => { w with queue := [], lostCount := 0, windowCount := 0 })
  unfold State.linkIsLost
  split
  next ho =>
    have hs : (s.port p).session = .online := by simpa [State.online] using ho
    have hb : (s.loseLink p).SessionLawBut p := (h.but (by rw [hs]; decide)).mono
      (fun q hq => by rw [hport, if_neg hq]) (fun q hq => by rw [hnote, if_neg hq]) rfl rfl
    exact State.leaveOnline_sessionLaw hb .link
  next ho =>
    have hs : (s.port p).session ≠ .online := by simpa [State.online] using ho
    refine h.mono (.set (p := p) (c := (s.port p).loseLink) rfl ⟨rfl, fun hf => ⟨fun k => absurd k hs, hf.offline⟩⟩)
      (fun q hq => ?_) rfl fun _ => rfl
    rw [hnote]
    by_cases hqp : q = p
    · obtain ⟨-, h2, -⟩ := State.PortSessionLaw.iff.1 (h.port q)
      rw [if_pos hqp, (h2 hq).1, (h2 hq).2]
      exact ⟨rfl, rfl⟩
    · rw [if_neg hqp]
      exact ⟨rfl, rfl⟩

/-- A request arrival keeps the session of its port. -/
theorem State.frameArrives_sessionLaw {s : State} (h : s.SessionLaw) (p : Port) (f : Frame) :
    (s.frameArrives p f).SessionLaw := by
  have hset : ∀ (s : State) (g : PortController → PortController), (∀ c : PortController, c.SessionKept (g c)) →
      s.SessionLaw → (s.modifyPort p g).SessionLaw := fun s g hg k =>
    k.mono (.set (p := p) rfl (hg _)) (.of_eq rfl) rfl fun _ => rfl
  have hcount : ∀ (s : State) c, s.SessionLaw → (s.count c).SessionLaw := fun s c k =>
    k.mono (.of_eq (by simp)) (s.count_hears c).silent (by simp) fun q => by simp
  have quiet : ∀ c d : PortController, d.session = c.session → d.link = c.link → d.keepaliveTimer = c.keepaliveTimer →
      d.refillTimer = c.refillTimer → d.claimCredit = c.claimCredit → d.keepaliveTimeout = c.keepaliveTimeout →
      d.pacingLimit = c.pacingLimit → d.subscriptions = c.subscriptions → c.SessionKept d :=
    fun c d h1 h2 h3 h4 h5 h6 h7 h8 => .of_online h1 h2 fun _ => ⟨h3, h4, h5.le, h6, h7, h8⟩
  have hkeep : ∀ c : PortController, c.SessionKept c.restartKeepalive := fun c => by
    unfold PortController.restartKeepalive
    split
    next hc => exact .of_online rfl rfl fun ho => absurd hc.1 ho
    · exact .refl c
  have h1 := hset s (fun c => { c with masterCredits := c.masterCredits - 1 })
    (fun c => quiet c _ rfl rfl rfl rfl rfl rfl rfl rfl) h
  unfold State.frameArrives State.requestArrives
  dsimp only
  split
  · have h2 := hset _ PortController.restartKeepalive hkeep h1
    split
    · exact hset _ _ (fun c => quiet c _ rfl rfl rfl rfl rfl rfl rfl rfl) h2
    · exact hcount _ _ (hset _ _ (fun c => quiet c _ rfl rfl rfl rfl rfl rfl rfl rfl) h2)
  · exact hcount _ _ h1

theorem State.sessionLaw_kept : State.Kept State.SessionLaw where
  reset := by
    refine ⟨fun p => State.PortSessionLaw.iff.2 ?_, (fun p h => by cases h), fun _ => rfl⟩
    have hport : State.reset.port p = PortController.atReset := by cases p <;> rfl
    have hnote : State.reset.noticePort p = NoticePort.atReset := by cases p <;> rfl
    rw [hport, hnote]
    exact ⟨⟨fun h => (nomatch h), fun _ => ⟨rfl, rfl, rfl, rfl, rfl, rfl⟩⟩, fun _ => ⟨rfl, rfl⟩, rfl⟩
  quiet {s t} hs h := hs.mono (.of_eq (h .ports (by simp))) (.of_eq (h .notices (by simp))) (h .lease (by simp)) fun q => by
    have : t.maintenance = s.maintenance := h .maintenance (by simp)
    rw [this]
  refused {s p rq} st hs he := hs.mono (fun q => (State.respond_maybeAnswered he st _ q).sessionKept)
    (s.respond_hears p rq st _).silent (by simp) fun q => by simp
  direct {s p rq c act} hs he hc h := by
    have hd := h.change hc
    exact (hd.sessionLaw hs).mono
      (fun q => (State.respond_maybeAnswered ((hd.executor p).trans he) _ _ q).sessionKept)
      (State.respond_hears _ p rq _ _).silent (by simp) fun q => by simp
  abortWaits p hs := hs.mono (.of_eq rfl) (.of_eq rfl) rfl fun _ => rfl
  request {s p v rq c u act} hs _ h := by
    have ha := h.actsWide s
    have hm : (act s).state.maintenance = s.maintenance := ha.frame .maintenance (by simp)
    exact hs.mono ha.sessionsKept (.of_eq (ha.frame .notices (by simp))) (ha.frame .lease (by simp)) fun q => by rw [hm]
  bucket {s v j rest c u f} hs hq h := by
    have hb := s.overSlots_actsInBucket h.actsInBucket (bucketSlots j.cursor)
    refine hs.mono (.of_eq ?_) (.of_eq ?_) ?_ fun q => by rw [State.actBucket_maintenance hq h]
    · simpa [State.actBucket, State.Same] using hb.frame .ports (by simp)
    · simpa [State.actBucket, State.Same] using hb.frame .notices (by simp)
    · simpa [State.actBucket, State.Same] using hb.frame .lease (by simp)
  resolution {s} v x rest f hs _ := by
    have ha := resolveExpiry_acts v x f s .p0
    have hm : (resolveExpiry v x f s).maintenance = s.maintenance := ha.frame .maintenance (by simp)
    exact hs.mono (.of_eq (by simp)) (.of_eq (ha.frame .notices (by simp))) (ha.frame .lease (by simp)) fun q => by
      rw [hm]
  advance u hs := State.advance_sessionLaw hs u
  startWindow {s} p hs := by
    refine hs.mono (.of_eq (by simp)) (fun q _ => ?_) (by simp) fun q => by simp
    unfold State.startWindow
    split
    · rw [State.noticePort_modifyNotices]
      split
      next he => rw [he]; exact ⟨rfl, rfl⟩
      · exact ⟨rfl, rfl⟩
    · exact ⟨rfl, rfl⟩
  linkUp p hs _ := hs.mono (.set (p := p) rfl ⟨rfl, fun hf => ⟨fun _ => rfl, hf.offline⟩⟩) (.of_eq rfl) rfl fun _ => rfl
  linkLost p hs _ := State.linkIsLost_sessionLaw hs p
  arrival p f hs _ := State.frameArrives_sessionLaw hs p f
  take {s} p rq rest hs _ _ _ :=
    hs.mono (.set (s.takeRequest_ports p rq rest) (.of_online rfl rfl fun _ => ⟨rfl, rfl, le_rfl, rfl, rfl, rfl⟩))
      (s.takeRequest_hears p rq rest).silent (by simp [State.takeRequest]) fun q => by simp [State.takeRequest]
  beginResponse p r hs _ _ :=
    hs.mono (.set (p := p) rfl (.of_online rfl rfl fun _ => ⟨rfl, rfl, le_rfl, rfl, rfl, rfl⟩)) (.of_eq rfl) rfl
      fun _ => rfl
  sendNotice {s} p n rest hs _ hq := by
    have ho : (s.port p).session = .online := by
      by_contra ho
      obtain ⟨-, h2, -⟩ := State.PortSessionLaw.iff.1 (hs.port p)
      have := (h2 ho).1
      rw [hq] at this
      cases this
    have h1 : ((s.modifyNotices p (fun x => x.headLeaves p)).modifyPort p (fun c => c.beginNotice n)).SessionLaw := by
      refine hs.mono (.set (p := p) rfl (.of_online rfl rfl fun _ => ⟨rfl, rfl, le_rfl, rfl, rfl, rfl⟩)) (fun q hno => ?_)
        rfl fun _ => rfl
      change ((s.modifyNotices p (fun x => x.headLeaves p)).noticePort q).queue = _
        ∧ ((s.modifyNotices p (fun x => x.headLeaves p)).noticePort q).lostCount = _
      rw [State.noticePort_modifyNotices, if_neg (fun he : q = p => hno (he ▸ ho))]
      exact ⟨rfl, rfl⟩
    exact h1.mono (.of_eq (by simp [State.sendNotice])) (State.count_hears _ _).silent (by simp [State.sendNotice])
      fun q => by simp [State.sendNotice]
  frameSent {s} p f hs _ :=
    hs.mono (.set (s.frameSent_ports p f) (.of_online rfl rfl fun _ => ⟨rfl, rfl, le_rfl, rfl, rfl, rfl⟩)) (.of_eq rfl)
      rfl fun _ => rfl
  keepalive {s} p hs := by
    unfold State.expireKeepalive
    split
    next hd =>
      refine State.leaveOnline_sessionLaw (hs.but fun hdr => ?_) _
      have := ((hs.port p).offline (by rw [hdr]; decide)).1
      simp [timerDue, this] at hd
    · exact hs
  refill {s} p hs := by
    unfold State.expireRefill
    split
    next hd =>
      refine hs.mono (.set (p := p) rfl (.of_online rfl rfl fun ho => ?_)) (.of_eq rfl) rfl fun _ => rfl
      obtain ⟨-, hr, -⟩ := (hs.port p).offline ho
      simp [timerDue, hr] at hd
    · exact hs
  transfer hs := hs.mono (.of_eq (by simp)) (.of_eq (by simp)) (by simp) fun q => by simp
  lease {s} hs := by
    have hf : (s.withLease Lease.free).SessionLaw := ⟨fun q => (hs.port q).withLease _, (fun q hq => by cases hq), fun _ => rfl⟩
    unfold State.expireLease
    split
    · split
      · exact hf.notify _ _
      · exact hs
    · exact hs
  sweep {s} hs := by
    refine hs.mono (.of_eq (by simp)) (.of_eq (by simp)) (by simp) fun q => ?_
    unfold State.expireSweep State.sweepAttempt
    split
    · split
      · rfl
      · exact State.enqueueJob_orphanJobs (by decide) s none q
    · rfl
  tick {s} hs := by
    refine ⟨fun q => State.PortSessionLaw.iff.2 ?_, fun q hq => ?_, fun hq => ?_⟩
    · obtain ⟨h1, h2, h3⟩ := State.PortSessionLaw.iff.1 (hs.port q)
      rw [State.tick_port, State.tick_noticePort]
      refine ⟨⟨h1.link, fun ho => ?_⟩, h2, by simpa [State.tick, Maintenance.orphanJobs] using h3⟩
      obtain ⟨k1, k2, k3, k4, k5, k6⟩ := h1.offline ho
      exact ⟨by simp [k1, countDown], by simp [k2, countDown], k3, k4, k5, k6⟩
    · rw [State.tick_port]
      exact hs.holder q (by simpa [State.tick, Lease.countDown_holder] using hq)
    · have hn : s.lease.holder = none := by simpa [State.tick, Lease.countDown_holder] using hq
      have hl : s.tick.lease = s.lease := by simp [State.tick, Lease.countDown, hn]
      rw [hl]
      exact hs.free hn

/-- Settles O11: every operation keeps what a port holds by its session state, its ORPHAN job, and the lease holder. -/
theorem stepKeepsSessionLaw : Obligations.StepKeepsSessionLaw := by
  unfold Obligations.StepKeepsSessionLaw
  exact fun s t hs h => State.sessionLaw_kept.step hs h

end Sys2Proof.Machine
end

section
/-! SUPPORT. The job queue: fresh ids and the limits of its kinds (R92, R93, R99). -/

namespace Sys2Proof.Machine

/-! ### Fresh ids -/

theorem nextJobId_range {id : Nat} : 1 ≤ nextJobId id ∧ nextJobId id ≤ 255 := by
  unfold nextJobId
  split <;> omega

/-- The id counter after some steps (R92). -/
theorem nextJobId_iterate {id : Nat} (h : 1 ≤ id ∧ id ≤ 255) (n : Nat) :
    nextJobId^[n] id = (id - 1 + n) % 255 + 1 := by
  induction n with
  | zero => simp; omega
  | succ n ih =>
    rw [Function.iterate_succ_apply', ih]
    unfold nextJobId
    split <;> omega

theorem freeJobId_range (queue : List Job) (k : Nat) {id : Nat} (h : 1 ≤ id ∧ id ≤ 255) :
    1 ≤ freeJobId queue k id ∧ freeJobId queue k id ≤ 255 := by
  induction k generalizing id with
  | zero => exact h
  | succ k ih =>
    unfold freeJobId
    split
    · exact ih nextJobId_range
    · exact h

/-- A search that ends on an id in use has found every id in use that it has looked at. -/
theorem freeJobId_taken {queue : List Job} {k id : Nat} (h : freeJobId queue k id ∈ queue.map Job.id) :
    ∀ i ≤ k, nextJobId^[i] id ∈ queue.map Job.id := by
  induction k generalizing id with
  | zero =>
    intro i hi
    rw [Nat.le_zero.1 hi]
    exact h
  | succ k ih =>
    unfold freeJobId at h
    split at h
    next hany =>
      have hid : id ∈ queue.map Job.id := by simpa using hany
      intro i hi
      cases i with
      | zero => exact hid
      | succ i => exact ih h i (Nat.le_of_succ_le_succ hi)
    next hany =>
      have hid : id ∉ queue.map Job.id := by simpa using hany
      exact absurd h hid

/-- With fewer than 255 jobs in the queue the next id is held by none of them (R92). -/
theorem Maintenance.newId_fresh {m : Maintenance} (hn : 1 ≤ m.nextId ∧ m.nextId ≤ 255) (hl : m.queue.length < 255) :
    m.newId ∉ m.queue.map Job.id := by
  intro h
  have hall := freeJobId_taken h
  have hnodup : ((List.range (m.queue.length + 1)).map (fun i => nextJobId^[i] m.nextId)).Nodup := by
    refine List.Nodup.map_on (fun i hi j hj he => ?_) List.nodup_range
    rw [nextJobId_iterate hn, nextJobId_iterate hn] at he
    rw [List.mem_range] at hi hj
    omega
  have hsub : (List.range (m.queue.length + 1)).map (fun i => nextJobId^[i] m.nextId) ⊆ m.queue.map Job.id := by
    intro x hx
    obtain ⟨i, hi, rfl⟩ := List.mem_map.1 hx
    exact hall i (Nat.le_of_lt_succ (List.mem_range.1 hi))
  have := (hnodup.subperm hsub).length_le
  simp at this

theorem Maintenance.newId_range {m : Maintenance} (hn : 1 ≤ m.nextId ∧ m.nextId ≤ 255) :
    1 ≤ m.newId ∧ m.newId ≤ 255 := freeJobId_range _ _ hn

/-! ### The law of a Maintenance Engine -/

/-- The jobs law speaks of the Maintenance Engine alone. -/
structure Maintenance.Law (m : Maintenance) : Prop where
  ids : (m.queue.map Job.id).Nodup
  idRange : ∀ j ∈ m.queue, j.id ≤ 255
  nextId : 1 ≤ m.nextId ∧ m.nextId ≤ 255
  others : m.queue.countP (fun j => decide (j.work.kind ≠ .orphan)) ≤ Config.otherJobsLimit
  sweeps : m.queue.tail.countP (fun j => decide (j.work.kind = .sweep)) ≤ 1
  history : m.history.length ≤ Config.historySize

theorem State.JobsLaw.iff {s : State} : s.JobsLaw ↔ s.maintenance.Law :=
  ⟨fun ⟨h1, h2, h3, h4, h5, h6⟩ => ⟨h1, h2, h3, h4, h5, h6⟩, fun ⟨h1, h2, h3, h4, h5, h6⟩ => ⟨h1, h2, h3, h4, h5, h6⟩⟩

theorem State.JobsLaw.of_eq {s t : State} (h : s.JobsLaw) (he : t.maintenance = s.maintenance) : t.JobsLaw :=
  State.JobsLaw.iff.2 (he ▸ State.JobsLaw.iff.1 h)

/-- A queue that has lost jobs keeps the law. -/
theorem Maintenance.Law.shorter {m n : Maintenance} (h : m.Law) (hq : n.queue.Sublist m.queue)
    (ht : n.queue.tail.Sublist m.queue.tail) (hn : n.nextId = m.nextId) (hh : n.history.length ≤ 8) : n.Law :=
  ⟨h.ids.sublist (hq.map _), fun j hj => h.idRange j (hq.subset hj), by rw [hn]; exact h.nextId,
    (hq.countP_le).trans h.others, (ht.countP_le).trans h.sweeps, hh⟩

theorem pushRecord_length (l : List JobRecord) (r : JobRecord) (h : l.length ≤ 8) : (pushRecord l r).length ≤ 8 := by
  unfold pushRecord
  split <;> simp <;> omega

theorem historyAfter_length (l rs : List JobRecord) (h : l.length ≤ 8) : (historyAfter l rs).length ≤ 8 := by
  induction rs generalizing l with
  | nil => exact h
  | cons r rest ih =>
    rw [historyAfter_cons]
    exact ih _ (pushRecord_length l r h)

theorem keptJobs_sublist (l : List Job) : (keptJobs l).Sublist l ∧ (keptJobs l).tail.Sublist l.tail := by
  cases l with
  | nil => exact ⟨List.Sublist.slnil, List.Sublist.slnil⟩
  | cons j rest =>
    have he : keptJobs (j :: rest)
        = j :: if j.work = .clear then rest.filter (fun c => !c.work.yieldsToClear) else rest := rfl
    rw [he]
    split
    · exact ⟨List.filter_sublist.cons_cons j, List.filter_sublist⟩
    · exact ⟨List.Sublist.refl _, List.Sublist.refl _⟩

/-- What the end of a grant leaves keeps the law. -/
theorem Maintenance.GoesOn.law {m n : Maintenance} {d : Option Port} (h : m.GoesOn n d) (k : m.Law) : n.Law := by
  cases h with
  | same l => exact ⟨k.ids, k.idRange, k.nextId, k.others, k.sweeps, k.history⟩
  | head j rest c i l hq _ =>
    obtain ⟨h1, h2, h3, h4, h5, h6⟩ := k
    rw [hq] at h1 h2 h4 h5
    refine ⟨h1, fun x hx => ?_, h3, ?_, h5, h6⟩
    · rcases List.mem_cons.1 hx with rfl | hx
      · exact h2 j List.mem_cons_self
      · exact h2 x (List.mem_cons_of_mem _ hx)
    · rw [List.countP_cons] at h4 ⊢
      exact h4
  | finish j rest o rs l hq _ =>
    obtain ⟨hk, hkt⟩ := keptJobs_sublist rest
    refine k.shorter ?_ ?_ rfl (historyAfter_length _ _ k.history)
    · rw [hq]
      exact hk.cons j
    · rw [hq]
      exact hkt.trans (List.tail_sublist rest)

/-- A job that joins the tail under the next id keeps the law, where its kind has room (R92, R93). -/
theorem Maintenance.Law.enqueue {m : Maintenance} (h : m.Law) (hl : m.queue.length < 255) {w : JobWork} (r : Option Port)
    (hw : w.kind ≠ .orphan → m.hasRoom = true) (hs : w.kind = .sweep → m.waitingSweep = none) :
    Maintenance.Law { m with
      queue := m.queue ++ [⟨m.newId, w, r, 0, JobCounts.zero⟩], nextId := nextJobId m.newId } := by
  have hid := Maintenance.newId_fresh h.nextId hl
  refine ⟨?_, fun j hj => ?_, nextJobId_range, ?_, ?_, h.history⟩
  · rw [List.map_append]
    exact List.Nodup.append h.ids (List.nodup_singleton _) (by simpa using hid)
  · rcases List.mem_append.1 hj with hj | hj
    · exact h.idRange j hj
    · rw [List.mem_singleton.1 hj]
      exact (Maintenance.newId_range h.nextId).2
  · dsimp only
    rw [List.countP_append, List.countP_singleton]
    by_cases hk : w.kind = .orphan
    · simpa [hk] using h.others
    · have hr := hw hk
      simp only [Maintenance.hasRoom, decide_eq_true_eq] at hr
      simp only [ne_eq, hk, not_false_eq_true, decide_true, if_true]
      exact hr
  · dsimp only
    cases hq : m.queue with
    | nil => exact Nat.zero_le _
    | cons j rest =>
      have hsw := h.sweeps
      rw [hq, List.tail_cons] at hsw
      rw [List.cons_append, List.tail_cons, List.countP_append, List.countP_singleton]
      by_cases hk : w.kind = .sweep
      · have hn := hs hk
        simp only [Maintenance.waitingSweep, hq, List.tail_cons, List.find?_eq_none] at hn
        have h0 : rest.countP (fun j => decide (j.work.kind = .sweep)) = 0 := List.countP_eq_zero.2 hn
        simp [h0, hk]
      · simpa [hk] using hsw

/-! ### The length of the queue -/

theorem length_le_orphans (l : List Job) :
    l.length ≤ l.countP (fun j => decide (j.work.kind ≠ .orphan)) + orphansIn l .p0 + orphansIn l .p1 + orphansIn l .p2
      + orphansIn l .p3 := by
  induction l with
  | nil => exact Nat.zero_le _
  | cons j rest ih =>
    have hone : 1 ≤ (if decide (j.work.kind ≠ .orphan) = true then 1 else 0)
        + (if j.orphanFor .p0 = true then 1 else 0) + (if j.orphanFor .p1 = true then 1 else 0)
        + (if j.orphanFor .p2 = true then 1 else 0) + if j.orphanFor .p3 = true then 1 else 0 := by
      cases hw : j.work with
      | orphan t c => cases t <;> simp [Job.orphanFor, hw]
      | sweep | purge f | clear => simp [JobWork.kind, Job.orphanFor, hw]
    rw [List.length_cons, List.countP_cons, orphansIn_cons, orphansIn_cons, orphansIn_cons, orphansIn_cons]
    omega

/-- The queue holds at most eight jobs (R93). -/
theorem State.queue_length_le {s : State} (h : s.SessionLaw) (k : s.JobsLaw) : s.maintenance.queue.length ≤ 8 := by
  have hone : ∀ p, orphansIn s.maintenance.queue p ≤ 1 := fun p => by
    have := (h.port p).draining
    rw [Maintenance.orphanJobs_eq] at this
    rw [this]
    split <;> omega
  have := length_le_orphans s.maintenance.queue
  have h0 := hone .p0
  have h1 := hone .p1
  have h2 := hone .p2
  have h3 := hone .p3
  have h4 := k.others
  simp only [Config.otherJobsLimit] at h4
  omega

theorem State.leaveOnline_jobsLaw {s : State} (h : s.JobsLaw) (hl : s.maintenance.queue.length < 255) (p : Port)
    (c : LeaveCause) : (s.leaveOnline p c).1.JobsLaw := by
  rw [State.JobsLaw.iff, (s.leaveOnline_maintenance p c).1]
  exact (State.JobsLaw.iff.1 h).enqueue hl none (fun hk => absurd rfl hk) fun hk => by cases hk

theorem State.AtOnceChange.jobsLaw {p : Port} {s t : State} (h : s.AtOnceChange p t) (k : s.JobsLaw)
    (hl : s.maintenance.queue.length < 255) : t.JobsLaw := by
  have km := State.JobsLaw.iff.1 k
  cases h with
  | attach n m x =>
    unfold State.comeOnlineLinked
    split
    · exact k.of_eq (by simp)
    · exact State.leaveOnline_jobsLaw (k.of_eq (by simp)) (by simpa using hl) p _
  | leave q c => exact State.leaveOnline_jobsLaw k hl q c
  | enqueue w hw hr hs =>
    exact State.JobsLaw.iff.2 (km.enqueue hl (some p) (fun _ => hr) fun hk => hs (JobWork.kind_eq_sweep.1 hk))
  | abort j rest hq =>
    obtain ⟨hk, hkt⟩ := keptJobs_sublist rest
    rw [State.JobsLaw.iff, State.finishHead_maintenance hq]
    refine km.shorter ?_ ?_ rfl (historyAfter_length _ _ k.history)
    · rw [hq]
      exact hk.cons j
    · rw [hq]
      exact hkt.trans (List.tail_sublist rest)
  | cancel j w rest hq hw =>
    rw [State.JobsLaw.iff, State.closeJob_maintenance]
    refine km.shorter ?_ ?_ rfl (pushRecord_length _ _ k.history)
    · rw [hq]
      exact List.erase_sublist.cons_cons j
    · rw [hq]
      exact List.erase_sublist
  | sweepInterval n => exact State.JobsLaw.iff.2 ⟨k.ids, k.idRange, k.nextId, k.others, k.sweeps, k.history⟩
  | same | renew | setting | creditCapacity | refillInterval | holdLease | freeLease | counter =>
    exact k.of_eq (by simp [State.replaceParameters, setCreditCapacity, setRefillInterval])

/-- The session law and the jobs law are kept together: the room in the queue rests on both. -/
theorem State.jobsLaw_kept : State.Kept (fun s => s.SessionLaw ∧ s.JobsLaw) where
  reset := ⟨State.sessionLaw_kept.reset, State.JobsLaw.iff.2
    ⟨by decide, by decide, by decide, by decide, by decide, by decide⟩⟩
  quiet hs h := ⟨State.sessionLaw_kept.quiet hs.1 h, hs.2.of_eq (h .maintenance (by simp))⟩
  refused st hs he := ⟨State.sessionLaw_kept.refused st hs.1 he, hs.2.of_eq (by simp)⟩
  direct hs he hc h := ⟨State.sessionLaw_kept.direct hs.1 he hc h,
    ((h.change hc).jobsLaw hs.2 (by have := State.queue_length_le hs.1 hs.2; omega)).of_eq (by simp)⟩
  abortWaits p hs := ⟨State.sessionLaw_kept.abortWaits p hs.1,
    State.JobsLaw.iff.2 ⟨hs.2.ids, hs.2.idRange, hs.2.nextId, hs.2.others, hs.2.sweeps, hs.2.history⟩⟩
  request hs hr h := ⟨State.sessionLaw_kept.request hs.1 hr h,
    hs.2.of_eq ((h.actsWide _).frame .maintenance (by simp))⟩
  bucket hs hq h := ⟨State.sessionLaw_kept.bucket hs.1 hq h, hs.2.of_eq (State.actBucket_maintenance hq h)⟩
  resolution v x rest f hs hx := ⟨State.sessionLaw_kept.resolution v x rest f hs.1 hx,
    hs.2.of_eq ((resolveExpiry_acts v x f _ .p0).frame .maintenance (by simp))⟩
  advance {s} u hs := by
    obtain ⟨d, hm, -⟩ := s.advance_ends u
    exact ⟨State.sessionLaw_kept.advance u hs.1, State.JobsLaw.iff.2 (hm.law (State.JobsLaw.iff.1 hs.2))⟩
  startWindow p hs := ⟨State.sessionLaw_kept.startWindow p hs.1, hs.2.of_eq (by simp)⟩
  linkUp p hs hl := ⟨State.sessionLaw_kept.linkUp p hs.1 hl, hs.2.of_eq rfl⟩
  linkLost {s} p hs hl := by
    refine ⟨State.sessionLaw_kept.linkLost p hs.1 hl, ?_⟩
    have hlen := State.queue_length_le hs.1 hs.2
    unfold State.linkIsLost
    split
    · exact State.leaveOnline_jobsLaw (s := s.loseLink p) (hs.2.of_eq rfl) (show s.maintenance.queue.length < 255 by omega) p _
    · exact hs.2.of_eq rfl
  arrival p f hs hl := ⟨State.sessionLaw_kept.arrival p f hs.1 hl, hs.2.of_eq (by simp)⟩
  take p rq rest hs hi hq hr := ⟨State.sessionLaw_kept.take p rq rest hs.1 hi hq hr,
    hs.2.of_eq (by simp [State.takeRequest])⟩
  beginResponse p r hs hc hr := ⟨State.sessionLaw_kept.beginResponse p r hs.1 hc hr, hs.2.of_eq rfl⟩
  sendNotice p n rest hs hc hq := ⟨State.sessionLaw_kept.sendNotice p n rest hs.1 hc hq,
    hs.2.of_eq (by simp [State.sendNotice])⟩
  frameSent p f hs hf := ⟨State.sessionLaw_kept.frameSent p f hs.1 hf, hs.2.of_eq rfl⟩
  keepalive {s} p hs := by
    refine ⟨State.sessionLaw_kept.keepalive p hs.1, ?_⟩
    unfold State.expireKeepalive
    split
    · exact State.leaveOnline_jobsLaw hs.2 (by have := State.queue_length_le hs.1 hs.2; omega) p _
    · exact hs.2
  refill p hs := ⟨State.sessionLaw_kept.refill p hs.1, hs.2.of_eq (by simp)⟩
  transfer hs := ⟨State.sessionLaw_kept.transfer hs.1, hs.2.of_eq (by simp)⟩
  lease hs := ⟨State.sessionLaw_kept.lease hs.1, hs.2.of_eq (by simp)⟩
  sweep {s} hs := by
    refine ⟨State.sessionLaw_kept.sweep hs.1, ?_⟩
    have hlen := State.queue_length_le hs.1 hs.2
    unfold State.expireSweep
    split
    · have hat : s.sweepAttempt.maintenance.Law := by
        unfold State.sweepAttempt
        split
        · exact State.JobsLaw.iff.1 hs.2
        next hr =>
          simp only [Bool.or_eq_true, Bool.not_eq_true', not_or, Bool.not_eq_true, Bool.not_eq_false,
            Option.isSome_eq_false_iff, Option.isNone_iff_eq_none] at hr
          exact (State.JobsLaw.iff.1 hs.2).enqueue (w := .sweep) (by omega) none (fun _ => hr.2) fun _ => hr.1
      exact State.JobsLaw.iff.2 ⟨hat.ids, hat.idRange, hat.nextId, hat.others, hat.sweeps, hat.history⟩
    · exact hs.2
  tick {s} hs := by
    have hm : s.tick.maintenance = { s.maintenance with sweepTimer := countDown s.maintenance.sweepTimer } := by
      simp [State.tick]
    refine ⟨State.sessionLaw_kept.tick hs.1, State.JobsLaw.iff.2 ?_⟩
    rw [hm]
    exact ⟨hs.2.ids, hs.2.idRange, hs.2.nextId, hs.2.others, hs.2.sweeps, hs.2.history⟩

/-- Settles O12: every operation keeps the ids and the limits of the queue, which the session law bounds. -/
theorem stepKeepsJobsLaw : Obligations.StepKeepsJobsLaw := by
  unfold Obligations.StepKeepsJobsLaw
  exact fun s t hs hj h => (State.jobsLaw_kept.step ⟨hs, hj⟩ h).2

end Sys2Proof.Machine
end

section
/-! SUPPORT. The arbiter's law: a free directory leaves no client waiting (R13, R14). -/

namespace Sys2Proof.Machine

/-! ### What waits -/

/-- The arbiter's part is as it was, and no client has stopped waiting. -/
structure State.Waits (s t : State) : Prop where
  resetHeld : t.resetHeld = s.resetHeld
  grant : t.grant = s.grant
  lastGranted : t.lastGranted = s.lastGranted
  waiting : ∀ c, s.waiting c = true → t.waiting c = true

theorem State.Waits.refl (s : State) : s.Waits s := ⟨rfl, rfl, rfl, fun _ => id⟩

theorem State.Waits.trans {s t u : State} (h : s.Waits t) (k : t.Waits u) : s.Waits u :=
  ⟨k.resetHeld.trans h.resetHeld, k.grant.trans h.grant, k.lastGranted.trans h.lastGranted,
    fun c hc => k.waiting c (h.waiting c hc)⟩

/-- What a client waits with depends on the executors, the job queue and the expiry list alone. -/
theorem State.waiting_congr {s t : State} (he : ∀ p, (t.port p).executor = (s.port p).executor)
    (hm : t.maintenance.queue = s.maintenance.queue) (hx : t.transfers.expiryList = s.transfers.expiryList) (c : Client) :
    t.waiting c = s.waiting c := by
  cases c with
  | executor p => simp only [State.waiting, he p]
  | maintenance => simp only [State.waiting, hm]
  | transferController => simp only [State.waiting, hx]

/-- A queue that is not empty stays so, and so does the expiry list. -/
theorem State.waiting_mono {s t : State} (he : ∀ p, (t.port p).executor = (s.port p).executor)
    (hm : s.maintenance.queue ≠ [] → t.maintenance.queue ≠ [])
    (hx : s.transfers.expiryList ≠ [] → t.transfers.expiryList ≠ []) (c : Client) (h : s.waiting c = true) :
    t.waiting c = true := by
  cases c with
  | executor p => simpa only [State.waiting, he p] using h
  | maintenance =>
    simp only [State.waiting, Bool.not_eq_true', List.isEmpty_eq_false_iff] at h ⊢
    exact hm h
  | transferController =>
    simp only [State.waiting, Bool.not_eq_true', List.isEmpty_eq_false_iff] at h ⊢
    exact hx h

/-- The part of the law that does not speak of a free directory. -/
structure State.ArbiterBusyLaw (s : State) : Prop where
  held : s.resetHeld = true → s.grant = none
  inProgress : ∀ g, s.grant = some g →
    s.lastGranted = g.client ∧ (g.ending = none → g.reports = [] ∧ s.waiting g.client = true)

theorem State.ArbiterLaw.busy {s : State} (h : s.ArbiterLaw) : s.ArbiterBusyLaw := ⟨h.held, h.inProgress⟩

theorem State.ArbiterBusyLaw.mono {s t : State} (h : s.ArbiterBusyLaw) (k : s.Waits t) : t.ArbiterBusyLaw := by
  refine ⟨fun hr => ?_, fun g hg => ?_⟩
  · rw [k.grant]
    exact h.held (k.resetHeld ▸ hr)
  · obtain ⟨hl, hn⟩ := h.inProgress g (k.grant ▸ hg)
    exact ⟨k.lastGranted.trans hl, fun he => ⟨(hn he).1, k.waiting _ (hn he).2⟩⟩

/-- The law, where exactly the clients that waited wait. -/
theorem State.ArbiterLaw.congr {s t : State} (h : s.ArbiterLaw) (hr : t.resetHeld = s.resetHeld)
    (hg : t.grant = s.grant) (hl : t.lastGranted = s.lastGranted) (hw : ∀ c, t.waiting c = s.waiting c) :
    t.ArbiterLaw := by
  have hb := h.busy.mono (t := t) ⟨hr, hg, hl, fun c hc => (hw c).trans hc⟩
  exact ⟨hb.held, fun h1 h2 c => by rw [hw]; exact h.free (hr ▸ h1) (hg ▸ h2) c, hb.inProgress⟩

theorem State.waiting_withGrant (s : State) (g : Option Grant) (c : Client) : (s.withGrant g).waiting c = s.waiting c :=
  State.waiting_congr (fun _ => rfl) rfl rfl c

/-- The arbiter's choice makes the law hold. -/
theorem State.ArbiterBusyLaw.arbitrate {s : State} (h : s.ArbiterBusyLaw) : s.arbitrate.ArbiterLaw := by
  unfold State.arbitrate
  split
  next hb =>
    refine ⟨h.held, fun h1 h2 => ?_, h.inProgress⟩
    simp [h1, h2] at hb
  next hb =>
    simp only [Bool.or_eq_true, not_or, Bool.not_eq_true] at hb
    split
    next c hc =>
      have hw : s.waiting c = true := List.find?_some hc
      refine ⟨fun hr => ?_, fun _ hn => (nomatch hn), fun g hg => ?_⟩
      · rw [State.withLastGranted_resetHeld, State.withGrant_resetHeld, hb.1] at hr
        cases hr
      · obtain rfl : Grant.fresh c s.view = g := by simpa using hg
        exact ⟨rfl, fun _ => ⟨rfl, (State.waiting_congr (fun _ => rfl) rfl rfl c).trans hw⟩⟩
    next hc =>
      refine ⟨h.held, fun _ _ c => ?_, h.inProgress⟩
      simpa using List.find?_eq_none.1 hc c (mem_clientsAfter c _)

/-! ### A grant goes on -/

theorem State.advance_arbiterLaw {w : State} {g : Grant} {e : Ending} (hg : w.grant = some g) (he : g.ending = some e)
    (hr : w.resetHeld = false) (hl : w.lastGranted = g.client) (u : Option Nat) : (w.advance u).ArbiterLaw := by
  unfold State.advance
  rw [hg]
  dsimp only
  generalize hd : (g.reports.take (u.getD (g.reports.length + 1))).foldl State.deliver
    (w.withGrant (some { g with reports := g.reports.drop (u.getD (g.reports.length + 1)) })) = d
  have hdg : d.grant = some { g with reports := g.reports.drop (u.getD (g.reports.length + 1)) } := by
    rw [← hd]; simp
  have hdr : d.resetHeld = false := by rw [← hd]; simpa using hr
  have hdl : d.lastGranted = g.client := by rw [← hd]; simpa using hl
  split
  · unfold State.finishGrant
    rw [hdg]
    dsimp only
    rw [he]
    refine State.ArbiterBusyLaw.arbitrate ⟨fun _ => rfl, fun g' hg' => by cases hg'⟩
  · refine ⟨fun h => ?_, fun _ hn => ?_, fun g' hg' => ?_⟩
    · rw [hdr] at h; cases h
    · rw [hdg] at hn; cases hn
    · rw [hdg] at hg'
      obtain rfl := Option.some.inj hg'
      exact ⟨hdl, fun hn => by rw [show _ = g.ending from rfl, he] at hn; cases hn⟩

theorem State.Acted.arbiterLaw {s w : State} {g : Grant} (h : s.Acted w g) (hs : s.ArbiterLaw) (u : Option Nat) :
    (w.advance u).ArbiterLaw := by
  obtain ⟨l, e, hg⟩ := h.grant
  have hr : s.resetHeld = false := by
    cases hr : s.resetHeld
    · rfl
    · have := hs.held hr
      rw [h.before] at this
      cases this
  exact State.advance_arbiterLaw hg rfl ((h.frame .resetHeld (by simp)).trans hr)
    (h.lastGranted.trans (hs.inProgress g h.before).1) u

/-! ### Requests that run at once -/

/-- A request that runs at once is of a kind that needs no grant (R13, R124). -/
theorem DirectAct.not_granted {p : Port} {s : State} {rq : RequestFrame} {c : Instr} {act : State → Reply}
    (h : DirectAct p s rq c act) : rq.body.granted = false := by
  cases h with
  | unknownSetting id x hb hv =>
    rw [hb]
    change (id == 1 || (quotaPortOf id).isSome) = false
    cases hq : quotaPortOf id with
    | none =>
      have : id ≠ 1 := fun he => by subst he; cases hv
      simp [this]
    | some q =>
      rw [quotaPortOf_eq hq] at hv
      cases q <;> cases hv
  | attach _ _ _ hb | detach hb | keepalive hb | evict _ hb | unknown hb | sweep hb | purge _ _ _ hb | clear hb
  | abort _ hb | jobStatus _ hb | settingGet _ hb | timebaseDivider _ hb | sweepInterval _ hb | transferTimeout _ hb
  | creditCapacity _ hb | refillAmount _ hb | refillInterval _ hb | leaseTake _ hb | leaseRenew _ hb | leaseDrop hb
  | statRead _ _ hb | statReadSession _ _ _ hb | statTake _ _ hb => rw [hb]; rfl

theorem State.leaveOnline_waits (s : State) (p : Port) (c : LeaveCause) : s.Waits (s.leaveOnline p c).1 := by
  refine ⟨by simp, by simp, by simp, State.waiting_mono (fun q => ?_) (fun _ => ?_) (by simp)⟩
  · rw [State.port, State.leaveOnline_ports, PerPort.get_set]
    split
    next he => rw [he]; rfl
    · rfl
  · rw [(s.leaveOnline_maintenance p c).1]
    simp

/-- The job queue that an at-once change leaves is not empty, but for an abort of the RUNNING job outside its grant. -/
theorem State.AtOnceChange.queue {p : Port} {s t : State} (h : s.AtOnceChange p t) (hq : s.maintenance.queue ≠ []) :
    t.maintenance.queue ≠ [] ∨ s.grantOf .maintenance = none := by
  cases h with
  | attach n m x =>
    refine .inl ?_
    unfold State.comeOnlineLinked
    split
    · simpa using hq
    · rw [(State.leaveOnline_maintenance _ p _).1]
      simp
  | leave q c => exact .inl (by rw [(s.leaveOnline_maintenance q c).1]; simp)
  | enqueue w => exact .inl (by simp [State.enqueueJob])
  | abort _ _ _ _ hg => exact .inr hg
  | cancel => exact .inl (by simp [State.closeJob_maintenance, State.withQueue])
  | same | renew | setting | sweepInterval | creditCapacity | refillInterval | holdLease | freeLease | counter =>
    exact .inl (by simpa [State.replaceParameters, setSweepInterval, setCreditCapacity, setRefillInterval] using hq)

theorem State.answer_arbiterBusyLaw {s : State} (hs : s.ArbiterLaw) {p : Port} {rq : RequestFrame} {c : Instr}
    {act : State → Reply} (hrq : (s.port p).executor = .busy rq) (h : DirectAct p s rq c act) :
    (s.answer s.view p rq act).ArbiterBusyLaw := by
  have hresp : ∀ {t : State} st res, (∀ q, (t.port q).executor = (s.port q).executor) → t.resetHeld = s.resetHeld →
      t.grant = s.grant → t.lastGranted = s.lastGranted → t.transfers = s.transfers →
      (s.maintenance.queue ≠ [] → t.maintenance.queue ≠ [] ∨ s.grantOf .maintenance = none) →
      (t.respond p rq st res).ArbiterBusyLaw := fun {t} st res he h1 h2 h3 h4 hq => by
    refine ⟨fun hr => ?_, fun g hg => ?_⟩
    · simp only [State.respond_frame] at hr ⊢
      exact h2.trans (hs.held (h1 ▸ hr))
    · simp only [State.respond_frame] at hg ⊢
      obtain ⟨hl, hn⟩ := hs.inProgress g (h2 ▸ hg)
      refine ⟨h3.trans hl, fun hend => ⟨(hn hend).1, ?_⟩⟩
      have hw := (hn hend).2
      cases hc : g.client with
      | executor q =>
        rw [hc] at hw
        have hqp : q ≠ p := fun hqp => by
          simp only [State.waiting, hqp, hrq, h.not_granted] at hw
          cases hw
        simp only [State.waiting, State.respond_port, if_neg hqp, he q] at hw ⊢
        exact hw
      | maintenance =>
        rw [hc] at hw
        simp only [State.waiting, State.respond_frame, Bool.not_eq_true', List.isEmpty_eq_false_iff] at hw ⊢
        refine (hq hw).resolve_right fun hnone => ?_
        have := State.grantOf_eq_some.2 ⟨h2 ▸ hg, hc⟩
        rw [hnone] at this
        cases this
      | transferController =>
        rw [hc] at hw
        simpa only [State.waiting, State.respond_frame, h4] using hw
  unfold State.answer
  dsimp only
  rcases checkedReply_cases s.view p rq act s with ⟨st, he⟩ | ⟨hc, he⟩ <;> rw [he]
  · exact hresp st _ (fun _ => rfl) rfl rfl rfl rfl fun hq => .inl hq
  · have hd := h.change hc
    have hf := h.frame.1
    exact hresp _ _ hd.executor (hf .resetHeld (by simp)) (hf .arbiter (by simp)).1 (hf .arbiter (by simp)).2
      (hf .transfers (by simp)) hd.queue

/-! ### Timers -/

theorem State.expireNextTransfer_waits (s : State) : s.Waits s.expireNextTransfer := by
  refine ⟨by simp, by simp, by simp, State.waiting_mono (fun q => by simp [State.port]) (by simp) fun hx => ?_⟩
  unfold State.expireNextTransfer State.expireEntry
  split
  · simp
  · exact hx

theorem State.expireSweep_waits (s : State) : s.Waits s.expireSweep := by
  refine ⟨by simp, by simp, by simp, State.waiting_mono (fun q => by simp [State.port]) (fun hq => ?_) (by simp)⟩
  unfold State.expireSweep State.sweepAttempt
  split
  · split
    · exact hq
    · simp [State.enqueueJob]
  · exact hq

theorem State.deliverDue_waits (s : State) : s.Waits s.deliverDue := by
  refine State.deliverDue_keeps (L := fun t => s.Waits t) (fun t p h => h.trans ?_) (fun t p h => h.trans ?_)
    (fun t h => h.trans t.expireNextTransfer_waits) (fun t h => h.trans ?_) (fun t h => h.trans t.expireSweep_waits)
    (fun t p h => h.trans ?_) (.refl s)
  · unfold State.expireKeepalive
    split
    · exact t.leaveOnline_waits p _
    · exact .refl t
  · refine ⟨by simp, by simp, by simp, State.waiting_mono (fun q => ?_) (by simp) (by simp)⟩
    unfold State.expireRefill
    split
    · rw [State.port_modifyPort]
      split
      next he => rw [he]; rfl
      · rfl
    · rfl
  · exact ⟨by simp, by simp, by simp, State.waiting_mono (fun q => by simp [State.port]) (by simp) (by simp)⟩
  · exact ⟨by simp, by simp, by simp, State.waiting_mono (fun q => by simp [State.port]) (by simp) (by simp)⟩

theorem State.tick_waits (s : State) : s.Waits s.tick :=
  ⟨by simp, by simp, by simp, State.waiting_mono (fun q => by rw [State.tick_port]) (by simp [State.tick])
    (by simp [State.tick])⟩

theorem State.milliTick_arbiterLaw {s : State} (h : s.ArbiterLaw) : s.milliTick.ArbiterLaw :=
  (h.busy.mono (s.deliverDue_waits.trans s.deliverDue.tick_waits)).arbitrate

theorem State.idle_arbiterLaw {s : State} (h : s.ArbiterLaw) : s.idle.ArbiterLaw := by
  rcases s.idle_cases with h' | ⟨hr, hm, h'⟩ | ⟨-, h'⟩ | ⟨-, h'⟩ | h' <;> rw [h']
  · exact h
  · unfold State.midGrant at hm
    cases hg : s.grant with
    | none => rw [hg] at hm; cases hm
    | some g =>
      rw [hg] at hm
      exact (State.Acted.of_begun hg hm).arbiterLaw h none
  · exact (h.busy.mono s.deliverDue_waits).arbitrate
  · exact State.milliTick_arbiterLaw h
  · exact h.congr rfl rfl rfl (State.waiting_congr (fun _ => rfl) rfl rfl)

/-! ### Every command -/

theorem State.linkIsLost_waits (s : State) (p : Port) : s.Waits (s.linkIsLost p) := by
  have hl : s.Waits (s.loseLink p) := by
    refine ⟨rfl, rfl, rfl, State.waiting_mono (fun q => ?_) id id⟩
    change ((s.modifyPort p PortController.loseLink).port q).executor = _
    rw [State.port_modifyPort]
    split
    next he => rw [he]; rfl
    · rfl
  unfold State.linkIsLost
  split
  · exact hl.trans (State.leaveOnline_waits _ p _)
  · exact hl

/-- A change of one Port Controller that leaves its executor leaves what waits. -/
theorem State.ArbiterLaw.setPort {s t : State} (h : s.ArbiterLaw) {p : Port} {c : PortController}
    (ht : t.ports = s.ports.set p c) (hc : c.executor = (s.port p).executor) (hr : t.resetHeld = s.resetHeld)
    (hg : t.grant = s.grant) (hl : t.lastGranted = s.lastGranted) (hm : t.maintenance = s.maintenance)
    (hx : t.transfers = s.transfers) : t.ArbiterLaw := by
  refine h.congr hr hg hl (State.waiting_congr (fun q => ?_) (by rw [hm]) (by rw [hx]))
  rw [State.port, ht, PerPort.get_set]
  split
  next he => rw [he]; exact hc
  · rfl

theorem State.modifyPort_executor (s : State) (p q : Port) {f : PortController → PortController}
    (hf : ∀ c, (f c).executor = c.executor) : ((s.modifyPort p f).port q).executor = (s.port q).executor := by
  rw [State.port_modifyPort]
  split
  next he => rw [he, hf]
  · rfl

theorem State.frameArrives_executor (s : State) (p : Port) (f : Frame) (q : Port) :
    ((s.frameArrives p f).port q).executor = (s.port q).executor := by
  have hk : ∀ c : PortController, c.restartKeepalive.executor = c.executor := fun c =>
    (PortController.restartKeepalive_sameQueues c).executor
  have hcount : ∀ (t : State) c, ((t.count c).port q) = t.port q := fun t c => by simp [State.port]
  unfold State.frameArrives State.requestArrives
  dsimp only
  split
  · split
    · rw [State.modifyPort_executor, State.modifyPort_executor _ _ _ hk, State.modifyPort_executor] <;> exact fun _ => rfl
    · rw [hcount, State.modifyPort_executor, State.modifyPort_executor _ _ _ hk, State.modifyPort_executor] <;>
        exact fun _ => rfl
  · rw [hcount, State.modifyPort_executor]
    exact fun _ => rfl

theorem Effect.arbiterLaw {c : Instr} {s t : State} (h : Effect c s t) (hs : s.ArbiterLaw) : t.ArbiterLaw := by
  cases h with
  | nothing => exact hs
  | direct _ _ p rq act hrq ha => exact (State.answer_arbiterBusyLaw hs hrq ha).arbitrate
  | abortWaits _ p => exact hs.congr rfl rfl rfl (State.waiting_congr (fun _ => rfl) rfl rfl)
  | granted _ _ p rq g u act hg _ _ ha => exact (ha.acted hg).arbiterLaw hs u
  | bucket _ _ g j rest u f hg _ hq ha => exact (ha.acted hg hq).arbiterLaw hs u
  | resolutionGoesOn x _ g hg _ hb => exact (State.Acted.of_begun hg hb).arbiterLaw hs _
  | resolution x _ g y rest hg => exact (resolveExpiry_acted hg y x.failing).arbiterLaw hs _
  | resetN => exact ⟨fun _ => rfl, fun h => (nomatch h), fun g hg => (nomatch hg)⟩
  | resetNRelease _ hr =>
    have hg := hs.held hr
    exact State.ArbiterBusyLaw.arbitrate ⟨fun h => (nomatch h), fun g hg' => by rw [State.withResetHeld_grant, hg] at hg'; cases hg'⟩
  | millitick => exact State.milliTick_arbiterLaw hs
  | pacingWindowStart _ p =>
    exact hs.congr (by simp) (by simp) (by simp) (State.waiting_congr (fun q => by simp [State.port]) (by simp) (by simp))
  | linkUp _ p => exact hs.setPort (p := p) rfl rfl rfl rfl rfl rfl rfl
  | linkLost _ p => exact (hs.busy.mono (s.linkIsLost_waits p)).arbitrate
  | frameArrival _ p f =>
    exact hs.congr (by simp) (by simp) (by simp)
      (State.waiting_congr (s.frameArrives_executor p f) (by simp) (by simp))
  | requestTake _ p rq rest hi =>
    refine (hs.busy.mono ⟨by simp [State.takeRequest], by simp [State.takeRequest], by simp [State.takeRequest],
      fun d hd => ?_⟩).arbitrate
    cases d with
    | executor q =>
      have hqp : q ≠ p := fun he => by simp only [State.waiting, he, hi] at hd; cases hd
      simp only [State.waiting, State.port, State.takeRequest_ports, PerPort.get_set, if_neg hqp] at hd ⊢
      exact hd
    | maintenance => simpa [State.waiting, State.takeRequest] using hd
    | transferController => simpa [State.waiting, State.takeRequest] using hd
  | responseTransmit _ p r => exact hs.setPort (p := p) rfl rfl rfl rfl rfl rfl rfl
  | noticeTransmit _ p n =>
    refine hs.setPort (p := p) (c := (s.port p).beginNotice n) ?_ rfl ?_ ?_ ?_ ?_ ?_ <;>
      simp [State.sendNotice, State.modifyPort, State.port]
  | frameTransmitEnd _ p f => exact hs.setPort (s.frameSent_ports p f) rfl rfl rfl rfl rfl rfl
  | keepaliveTimerExpiry _ p =>
    refine (hs.busy.mono ?_).arbitrate
    unfold State.expireKeepalive
    split
    · exact s.leaveOnline_waits p _
    · exact .refl s
  | refillTimerExpiry _ p =>
    unfold State.expireRefill
    split
    · exact hs.setPort (p := p) rfl rfl rfl rfl rfl rfl rfl
    · exact hs
  | transferTimerExpiry => exact (hs.busy.mono s.expireNextTransfer_waits).arbitrate
  | leaseTimerExpiry =>
    exact hs.congr (by simp) (by simp) (by simp) (State.waiting_congr (fun q => by simp [State.port]) (by simp) (by simp))
  | sweepTimerExpiry => exact (hs.busy.mono s.expireSweep_waits).arbitrate

/-- Settles O6: every change of what waits ends with the arbiter's choice. -/
theorem stepKeepsArbiterLaw : Obligations.StepKeepsArbiterLaw := by
  unfold Obligations.StepKeepsArbiterLaw
  intro s t hs h
  rcases step_cases h with rfl | ⟨c, rest, he⟩
  · exact State.idle_arbiterLaw hs
  · exact he.arbiterLaw (hs.congr rfl rfl rfl (State.waiting_congr (fun _ => rfl) rfl rfl))

end Sys2Proof.Machine
end

section
/-! SUPPORT. The arbiter's circular order (R14), the queue of commands, the reset state, and the passing of time (O1 to O5). -/

namespace Sys2Proof.Machine

/-! ### The circular order -/

/-- The search after a client passes the clients by rising distance. -/
theorem clientsAfter_rising (l : Client) : (clientsAfter l).Pairwise (fun c d => l.distance c < l.distance d) := by
  cases l with
  | executor p => cases p <;> decide
  | maintenance => decide
  | transferController => decide

theorem Client.place_le (c : Client) : c.place ≤ 5 := by
  cases c with
  | executor p => cases p <;> decide
  | maintenance => decide
  | transferController => decide

theorem Client.distance_le (c d : Client) : Client.distance c d ≤ 5 := by
  unfold Client.distance
  omega

/-- A client that comes later in the search is nearer to the one that comes first. -/
theorem Client.distance_lt {l c d : Client} (h : l.distance c < l.distance d) : c.distance d < l.distance d := by
  have hl := l.place_le
  have hc := c.place_le
  have hd := d.place_le
  unfold Client.distance at *
  omega

/-- What a search finds in a list comes before everything else that it could find. -/
theorem pairwise_find {α : Type} {R : α → α → Prop} {f : α → Bool} {l : List α} {c d : α} (h : l.Pairwise R)
    (hc : l.find? f = some c) (hd : d ∈ l) (hf : f d = true) : d = c ∨ R c d := by
  induction l with
  | nil => cases hd
  | cons x rest ih =>
    obtain ⟨hx, hr⟩ := List.pairwise_cons.1 h
    rw [List.find?_cons] at hc
    rcases List.mem_cons.1 hd with rfl | hd
    · simp only [hf, Option.some.injEq] at hc
      exact .inl hc
    · cases hfx : f x with
      | true =>
        simp only [hfx, Option.some.injEq] at hc
        exact .inr (hc ▸ hx d hd)
      | false =>
        simp only [hfx] at hc
        exact ih hr hc hd

/-- R14: the arbiter of a running part with no grant in progress. -/
theorem State.arbitrate_granted {s : State} (hr : s.resetHeld = false) (hg : s.grant = none) : s.Granted s.arbitrate where
  none h := by
    rcases s.arbitrate_cases with he | ⟨c, _, _, hc, _⟩
    · exact he
    · have := List.find?_some hc
      rw [h c] at this
      cases this
  first d hd := by
    have hfound : ∃ c, (clientsAfter s.lastGranted).find? s.waiting = some c := by
      cases hf : (clientsAfter s.lastGranted).find? s.waiting with
      | none => exact absurd hd (List.find?_eq_none.1 hf d (mem_clientsAfter d _))
      | some c => exact ⟨c, rfl⟩
    obtain ⟨c, hc⟩ := hfound
    have he : s.arbitrate = (s.withGrant (some (.fresh c s.view))).withLastGranted c := by
      simp [State.arbitrate, hr, hg, hc]
    refine ⟨c, List.find?_some hc, by rw [he]; rfl, by rw [he]; rfl, ?_, fun hne => ?_⟩
    · rcases pairwise_find (clientsAfter_rising _) hc (mem_clientsAfter d _) hd with rfl | hlt
      · exact le_rfl
      · exact hlt.le
    · rcases pairwise_find (clientsAfter_rising _) hc (mem_clientsAfter d _) hd with rfl | hlt
      · exact absurd rfl hne
      · exact Client.distance_lt hlt
  frame x hx := by cases x <;> simp [State.Same] at hx ⊢

/-- Settles O5: the search of `clientsAfter` passes the clients by rising distance. -/
theorem arbiterGrantsInCircularOrder : Obligations.ArbiterGrantsInCircularOrder := by
  unfold Obligations.ArbiterGrantsInCircularOrder
  refine ⟨fun s hr hg => State.arbitrate_granted hr hg, fun s hr => State.arbitrate_granted hr rfl, fun s hg => ?_,
    Client.distance_le, rfl⟩
  exact State.arbitrate_busy (.inr (Option.isSome_iff_ne_none.2 hg))

/-! ### The queue of commands -/

/-- Settles O1: the front command is what `step` matches on, and the queue is set to its rest. -/
theorem stepRunsFrontCommand : Obligations.StepRunsFrontCommand := by
  unfold Obligations.StepRunsFrontCommand
  intro c rest s
  rfl

/-! ### The reset state -/

theorem State.reset_slot (i : Nat) : State.reset.slot i = .undefined := Directory.atReset_read i

theorem State.reset_port (p : Port) : State.reset.port p = PortController.atReset := PerPort.get_all _ p

theorem State.reset_noticePort (p : Port) : State.reset.noticePort p = NoticePort.atReset := PerPort.get_all _ p

theorem State.reset_owned (p : Port) : State.reset.owned p = 0 := PerPort.get_all _ p

theorem State.reset_domain (d : DomainId) : State.reset.domain d = Domain.atReset := by
  simp [State.domain, State.reset, Vector.get_eq_getElem]

theorem State.reset_entry (x : TransferIndex) : State.reset.entry x = none := by
  simp [State.entry, State.reset, Transfers.atReset, Vector.get_eq_getElem]

theorem State.reset_counter (c : CounterId) : State.reset.counter c = 0 := by
  cases c with
  | port p n => cases p <;> cases n <;> rfl
  | device n => cases n <;> rfl

/-- No binding stands in the directory after RESET_N. -/
theorem State.reset_directoryLaw : State.reset.DirectoryLaw where
  store := ⟨Directory.atReset_wf, by simp [State.reset, Maintenance.atReset, startupClear, Config.buckets]⟩
  counts :=
    { owned := State.reset_owned
      orphanTotal := rfl
      defective := rfl
      count := fun d => by rw [State.reset_domain]; rfl
      orphans := fun d => by rw [State.reset_domain]; rfl }
  transfers :=
    { ofBinding := fun i b g x h => by rw [State.reset_slot] at h; cases h
      ofEntry := fun x t h => by rw [State.reset_entry] at h; cases h }
  place := fun i b h => by rw [State.reset_slot] at h; cases h
  unique := fun i j b c h => by rw [State.reset_slot] at h; cases h

theorem State.reset_boundsLaw : State.reset.BoundsLaw where
  quota p := by rw [State.reset_owned]; exact Nat.zero_le _
  cap d := by rw [State.reset_domain]; exact Nat.zero_le _

theorem State.reset_idleLaw : State.reset.IdleLaw where
  limits d := by rw [State.reset_domain]; decide
  idle i b h := by rw [State.reset_slot] at h; cases h

/-- After RESET_N nothing is granted while RESET_N is low. -/
theorem State.reset_arbiterLaw : State.reset.ArbiterLaw where
  held _ := rfl
  free h := nomatch h
  inProgress _ h := nomatch h

/-- Settles O3: the store's laws hold of an empty directory, and the others are the first case of what every step keeps. -/
theorem resetMeetsEveryLaw : Obligations.ResetMeetsEveryLaw := by
  unfold Obligations.ResetMeetsEveryLaw
  exact ⟨State.reset_directoryLaw, State.reset_boundsLaw, State.reset_idleLaw, State.reset_arbiterLaw,
    State.sessionLaw_kept.reset, State.jobsLaw_kept.reset.2, State.queuesLaw_kept.reset, State.settingsLaw_kept.reset⟩

/-- Settles O4: RESET_N sets every block to its value after reset, and the rising edge lets the arbiter choose. -/
theorem resetTakesEffect : Obligations.ResetTakesEffect := by
  unfold Obligations.ResetTakesEffect
  refine ⟨fun s => ⟨State.reset.withPending s.pending, rfl, rfl, rfl, rfl, rfl, rfl, State.reset_slot, State.reset_owned,
    rfl, rfl, State.reset_domain, rfl, State.reset_entry, rfl, rfl, rfl, rfl, rfl, rfl, fun p => ?_, fun p => ?_, rfl, rfl,
    State.reset_counter, rfl⟩, fun s hr hg => ?_⟩
  · rw [show (State.reset.withPending s.pending).port p = PortController.atReset from State.reset_port p]
    simp [PortController.atReset, Subscriptions.empty]
  · rw [show (State.reset.withPending s.pending).noticePort p = NoticePort.atReset from State.reset_noticePort p]
    simp [NoticePort.atReset]
  · refine ⟨(s.withResetHeld false).arbitrate, ?_, by simp, State.arbitrate_granted rfl hg⟩
    change execResetNRelease s = _
    simp [execResetNRelease, hr]

end Sys2Proof.Machine
end

section
/-! SUPPORT. The passing of time (R185, R187), the bucket formula (R2), three frames (R201), and the common check order
(R128). -/

namespace Sys2Proof.Machine

/-! ### The millitick -/

theorem List.foldl_fixed {α β : Type} {f : α → β → α} {l : List β} {a : α} (h : ∀ b ∈ l, f a b = a) : l.foldl f a = a := by
  induction l with
  | nil => rfl
  | cons b rest ih =>
    rw [List.foldl_cons, h b List.mem_cons_self]
    exact ih fun c hc => h c (List.mem_cons_of_mem _ hc)

/-- Nothing is owed: the timers and windows of every port, the transfers, the lease and the sweep timer. -/
theorem State.anyDue_eq_false {s : State} : s.anyDue = false ↔
    (∀ p, timerDue (s.port p).keepaliveTimer = false ∧ timerDue (s.port p).refillTimer = false
        ∧ (s.noticePort p).windowDue = false)
      ∧ s.dueIndex = none ∧ s.lease.due = false ∧ timerDue s.maintenance.sweepTimer = false := by
  simp only [State.anyDue, Bool.or_eq_false_iff, List.any_eq_false, Bool.not_eq_true, and_assoc, Option.isSome_eq_false_iff,
    Option.isNone_iff_eq_none]
  exact and_congr_left fun _ => ⟨fun h p => h p (mem_allPorts p), fun h p _ => h p⟩

/-- A millitick that owes nothing delivers nothing (log 10). -/
theorem State.deliverDue_nothing {s : State} (h : s.anyDue = false) : s.deliverDue = s := by
  obtain ⟨hports, hindex, hlease, hsweep⟩ := State.anyDue_eq_false.1 h
  have hk : s.eachPort State.expireKeepalive = s :=
    List.foldl_fixed fun p _ => by simp [State.expireKeepalive, (hports p).1]
  have hr : s.eachPort State.expireRefill = s :=
    List.foldl_fixed fun p _ => by simp [State.expireRefill, (hports p).2.1]
  have ht : s.expireTransfers = s := List.foldl_fixed fun _ _ => by simp [State.expireNextTransfer, hindex]
  have hl : s.expireLease = s := by
    unfold State.expireLease
    split <;> simp [hlease]
  have hs : s.expireSweep = s := by simp [State.expireSweep, hsweep]
  have hw : s.eachPort State.startWindow = s :=
    List.foldl_fixed fun p _ => by simp [State.startWindow, (hports p).2.2]
  unfold State.deliverDue
  rw [hk, hr, ht, hl, hs, hw]

theorem State.tick_entry (s : State) (x : TransferIndex) : s.tick.entry x = (s.entry x).map Transfer.countDown := by
  simp [State.tick, State.entry, Vector.get_eq_getElem]

theorem Transfer.countDown_eq (e : Transfer) :
    e.countDown = if e.phase = .pending then { e with remaining := e.remaining - 1 } else e := by
  unfold Transfer.countDown
  cases h : e.phase <;> simp

theorem State.tick_lease (s : State) : s.tick.lease = s.lease.countDown := by simp [State.tick]

theorem State.tick_maintenance (s : State) :
    s.tick.maintenance = { s.maintenance with sweepTimer := countDown s.maintenance.sweepTimer } := by simp [State.tick]

/-- Settles O2: with nothing owed a millitick is the countdown alone, and the arbiter's choice. -/
theorem millitickCountsEveryTimer : Obligations.MillitickCountsEveryTimer := by
  unfold Obligations.MillitickCountsEveryTimer
  intro s
  refine ⟨fun hp hr => ?_, fun hp hr hm hd => ?_, fun hr hd => ?_⟩
  · simp [step, hp, State.idle, hr]
  · have hidle : step s = .next s.refclkPeriod := by simp [step, hp, State.idle, hr, hm, hd]
    refine ⟨_, hidle, fun hlt => ?_, fun hge => ?_⟩
    · have he : s.refclkPeriod = s.withTimebase { s.timebase with periodCount := s.timebase.periodCount + 1 } := by
        simp [State.refclkPeriod, hlt]
      rw [he]
      exact ⟨rfl, fun x hx => by cases x <;> simp [State.Same] at hx ⊢⟩
    · change execMillitick s = _
      simp [execMillitick, hr, State.refclkPeriod, hge]
  · have he : exec .millitick s = .next s.tick.arbitrate := by
      change execMillitick s = _
      simp [execMillitick, hr, State.milliTick, State.deliverDue_nothing hd]
    refine ⟨_, he, ?_, fun p => ?_, fun p => ?_, fun x => ?_, ?_, ?_, fun hl => ?_, fun hl => ?_, ?_, fun hg => ?_,
      fun x hx => ?_⟩
    · simp [State.tick]
    · rw [State.arbitrate_port, State.tick_port]
      rfl
    · rw [State.arbitrate_noticePort, State.tick_noticePort]
    · rw [State.arbitrate_entry, State.tick_entry]
      exact congrArg (fun f => (s.entry x).map f) (funext Transfer.countDown_eq)
    · simp [State.tick]
    · simp [State.tick]
    · simp [State.tick_lease, Lease.countDown, hl]
    · simp [State.tick_lease, Lease.countDown, Option.isSome_iff_ne_none.2 hl]
    · simp [State.tick_maintenance, countDown]
    · rw [State.arbitrate_busy (.inr (by simp [Option.isSome_iff_ne_none, hg]))]
      simp
    · cases x <;> simp [State.Same] at hx ⊢

/-! ### Identifiers and frames -/

/-- Settles O19: arithmetic modulo 2048, and the eight slots of a bucket. -/
theorem bucketFormula : Obligations.BucketFormula := by
  unfold Obligations.BucketFormula
  intro d k seed
  refine ⟨rfl, ?_, fun i => ?_⟩
  · unfold bucketIndex Config.buckets
    omega
  · have hlt : bucketIndex d k seed < 2048 := Nat.mod_lt _ (by decide)
    rw [mem_bucketSlots]
    omega

/-- Settles O21: three concrete frames, computed. -/
theorem requestFramesDecode : Obligations.RequestFramesDecode := by
  unfold Obligations.RequestFramesDecode
  exact ⟨⟨by decide +kernel, by rfl⟩, ⟨by decide +kernel, by rfl⟩, ⟨by decide +kernel, by rfl⟩⟩

/-! ### The common checks -/

/-- A read-only request passes step 1, needs no lease, and is not held by a CLEAR. -/
theorem Request.readOnly_free {r : Request} (h : r.readOnly = true) (p : Port) :
    r.needsLease p = false ∧ r.heldByClear = false := by
  cases r <;> simp [Request.readOnly] at h <;> exact ⟨rfl, rfl⟩

theorem Request.served_readOnly {r : Request} (h : r.servedDuringStartup = true) : r.readOnly = true := by
  cases r <;> simp [Request.servedDuringStartup] at h <;> rfl

theorem Request.served_iff (r : Request) :
    r.servedDuringStartup = true ↔ (∃ id, r = .settingGet id) ∨ ∃ a b, r = .statRead a b := by
  cases r <;> simp [Request.servedDuringStartup]

theorem portStateCheck_readOnly {r : Request} (h : r.readOnly = true) (v : View) (p : Port) :
    portStateCheck v p r = none := by simp [portStateCheck, h]

theorem portStateCheck_online {v : View} {p : Port} (h : v.session.get p = .online) (r : Request) :
    portStateCheck v p r = none := by
  unfold portStateCheck
  simp [h]

/-- A request of a kind that a draining port may not send is answered by its session state once READY is high. -/
theorem portStateCheck_refused {v : View} {p : Port} {r : Request} (hr : r.readOnly = false) (hready : v.ready = true) :
    (v.session.get p = .draining → (¬ ∃ a b c, r = .attach a b c) → portStateCheck v p r = some .draining)
      ∧ (v.session.get p = .offline → (¬ ∃ a b c, r = .attach a b c) → portStateCheck v p r = some .notAttached) := by
  unfold portStateCheck
  refine ⟨fun hs hn => ?_, fun hs hn => ?_⟩ <;> cases r <;> simp_all

theorem retry_ite (x : Option Status) :
    (if x.isSome = true then some Status.retry else x) = none
      ∨ (if x.isSome = true then some Status.retry else x) = some .retry := by
  cases x with
  | none => exact .inl rfl
  | some st => exact .inr rfl

/-- While READY is low step 1 refuses with RETRY alone (log 20). -/
theorem portStateCheck_startup {v : View} (h : v.ready = false) (p : Port) (r : Request) :
    portStateCheck v p r = none ∨ portStateCheck v p r = some .retry := by
  unfold portStateCheck
  split
  · exact .inl rfl
  · simp only [h, Bool.not_false, Bool.and_true]
    exact retry_ite _

/-- What the checks after step 1 give, with READY high. -/
theorem commonCheck_of_state {v : View} {p : Port} {r : Request} (h : portStateCheck v p r = none)
    (hready : v.ready = true ∨ r.servedDuringStartup = true) :
    commonCheck v p r = if r.needsLease p && decide (v.leaseHolder ≠ some p) then some .noLease
      else if !r.inRange then some .invalid
      else if v.clearRunning && r.heldByClear then some .retry
      else none := by
  unfold commonCheck
  rw [h]
  rcases hready with hready | hready <;> simp [hready]

theorem commonCheck_of_refused {v : View} {p : Port} {r : Request} {st : Status} (h : portStateCheck v p r = some st) :
    commonCheck v p r = some st := by
  unfold commonCheck
  rw [h]

/-- Settles O22: each clause is one branch of the two definitions, with the checks before it passed. -/
theorem commonCheckOrder : Obligations.CommonCheckOrder := by
  unfold Obligations.CommonCheckOrder
  intro v p r
  have lease : ∀ {q : Prop} [Decidable q], (r.needsLease p = true → q) → (r.needsLease p && decide ¬q) = false :=
    fun h => by
      cases hn : r.needsLease p with
      | false => rfl
      | true => simp [h hn]
  refine ⟨fun hserved hro => ?_, fun hs ha => ?_, fun hready hs ha => ?_, fun hready hro hs ha => ?_,
    fun hready hro hs ha => ?_, fun hready hn1 hn2 => ?_, fun hready hs hn hl => ?_, fun hready hs hl hr => ?_,
    fun hready hs hl hr hc hh => ?_, fun hready hs hl hr hc => ?_⟩
  · obtain ⟨hl, hh⟩ := Request.readOnly_free hro p
    rw [commonCheck_of_state (portStateCheck_readOnly hro v p) (hserved.imp_right r.served_iff.2), hl, hh]
    cases r.inRange <;> simp
  · obtain ⟨a, b, c, rfl⟩ := ha
    exact commonCheck_of_refused (by simp [portStateCheck, hs, Request.readOnly])
  · obtain ⟨a, b, c, rfl⟩ := ha
    rw [commonCheck_of_state (by simp [portStateCheck, hs, Request.readOnly]) (.inl hready)]
    cases Request.inRange (.attach a b c) <;> simp [Request.needsLease, Request.heldByClear]
  · exact commonCheck_of_refused ((portStateCheck_refused hro hready).1 hs ha)
  · exact commonCheck_of_refused ((portStateCheck_refused hro hready).2 hs ha)
  · have hserved : r.servedDuringStartup = false := by
      rw [← Bool.not_eq_true, r.served_iff]
      exact not_or.2 ⟨hn1, hn2⟩
    rcases portStateCheck_startup hready p r with he | he
    · simp [commonCheck, he, hready, hserved]
    · exact commonCheck_of_refused he
  all_goals rw [commonCheck_of_state (portStateCheck_online hs r) (.inl hready)]
  · simp [hn, hl]
  · rw [lease hl, hr]
    rfl
  · rw [lease hl, hr, hc, hh]
    rfl
  · rw [lease hl, hr]
    cases hcr : v.clearRunning with
    | false => rfl
    | true => simp [hc hcr]

end Sys2Proof.Machine
end

section
/-! SUPPORT. A request that fails a common check, of every kind (R128, O23). -/

namespace Sys2Proof.Machine

/-! ### Every check refuses -/

theorem retry_ite_isRefusal {x : Option Status} {b : Bool} {st : Status} (hx : ∀ y, x = some y → y.isRefusal = true)
    (h : (if (x.isSome && b) = true then some Status.retry else x) = some st) : st.isRefusal = true := by
  split at h
  · cases h
    rfl
  · exact hx st h

theorem portStateCheck_isRefusal {v : View} {p : Port} {r : Request} {st : Status} (h : portStateCheck v p r = some st) :
    st.isRefusal = true := by
  unfold portStateCheck at h
  split at h
  · cases h
  · refine retry_ite_isRefusal (fun y hy => ?_) h
    split at hy <;> cases hy <;> rfl

theorem commonCheck_isRefusal {v : View} {p : Port} {r : Request} {st : Status} (h : commonCheck v p r = some st) :
    st.isRefusal = true := by
  unfold commonCheck at h
  split at h
  · rename_i x hx
    cases h
    exact portStateCheck_isRefusal hx
  · repeat' split at h
    all_goals cases h
    all_goals rfl

/-! ### What a refusal leaves -/

/-- A request in its grant that fails a common check is answered with that status, and its grant ends. -/
theorem runGranted_refused {s : State} {p : Port} {v : View} {rq : RequestFrame} {st : Status}
    {row : View → RequestFrame → Option (State → Reply)} {act : State → Reply}
    (hg : s.grant = some (.fresh (.executor p) v)) (hrq : (s.port p).executor = .busy rq)
    (hc : commonCheck v p rq.body = some st) (hrow : row v rq = some act) :
    runGranted p s none row = .next (s.respond p rq st .none).endGrant := by
  rw [runGranted_eq hg rfl hrq hrow]
  have hact : s.actRequest v p rq act = s.acted (.response st .none) := by
    simp [State.actRequest, checkedReply_refused hc, refuse]
  simp only [Grant.begun, Grant.fresh, Option.isSome_none, Bool.false_eq_true, if_false, hact]
  rw [State.advance_none (g := ⟨.executor p, v, [], some (.response st .none)⟩) (by simp [hg, Grant.fresh]) rfl]
  simp only [List.foldl_nil, State.conclude, State.endRequest, State.acted]
  rw [show ∀ x y, (((s.withGrant x).withGrant y).port p).executor = .busy rq from fun x y => hrq]
  simp only [State.endGrant, State.respond_withGrant]
  rfl

/-- A request of another kind that fails a common check is answered with that status, at once. -/
theorem State.answer_refused {s : State} {p : Port} {v : View} {rq : RequestFrame} {st : Status}
    (hc : commonCheck v p rq.body = some st) (act : State → Reply) :
    s.answer v p rq act = s.respond p rq st .none := by
  simp [State.answer, checkedReply_refused hc, refuse]

/-! ### The row of a request runs it -/

theorem quotaPortOf_isSome {id : Nat} (h : (quotaPortOf id).isSome = true) : id = 8 ∨ id = 9 ∨ id = 10 ∨ id = 11 := by
  obtain ⟨q, hq⟩ := Option.isSome_iff_exists.1 h
  cases q <;> simp [quotaPortOf_eq hq, portCode]

theorem Settings.value_isNone {x : Settings} {id : Nat} (h : id = 0 ∨ 12 ≤ id) : (x.value id).isNone = true := by
  unfold Settings.value
  split <;> first | omega | rfl

/-- A request that R13 lists and that fails a common check is answered in its grant by its own row. -/
theorem exec_refused_granted {s : State} {p : Port} {v : View} {rq : RequestFrame} {st : Status} (f : List Nat)
    (hr : rq.body.granted = true) (hg : s.grant = some (.fresh (.executor p) v)) (hrq : (s.port p).executor = .busy rq)
    (hc : commonCheck v p rq.body = some st) :
    exec (rq.body.row p ⟨f, none⟩) s = .next (s.respond p rq st .none).endGrant := by
  have run : ∀ {row : View → RequestFrame → Option (State → Reply)}, (∃ act, row v rq = some act) →
      runGranted p s none row = .next (s.respond p rq st .none).endGrant := fun ⟨_, h⟩ => runGranted_refused hg hrq hc h
  cases hb : rq.body <;> simp only [hb, Request.granted, Bool.false_eq_true] at hr
  case settingSet id value =>
    have hid : id = 1 ∨ (quotaPortOf id).isSome = true := by simpa using hr
    rcases hid with rfl | hid
    · simp only [Request.row, exec, execSettingSetHashSeed]
      exact run ⟨_, by simp only [hb]; rfl⟩
    · obtain ⟨q, hq⟩ := Option.isSome_iff_exists.1 hid
      have hrow : Request.row p ⟨f, none⟩ (.settingSet id value) = .settingSetQuota p := by
        rcases quotaPortOf_isSome hid with rfl | rfl | rfl | rfl <;> rfl
      simp only [hrow, exec, execSettingSetQuota]
      exact run ⟨_, by simp only [hb, hq]; rfl⟩
  case handoverReply x decision =>
    by_cases hd : decision = 2
    · simp only [Request.row, hd, if_true, exec, execHandoverReplyRefuse]
      exact run ⟨_, by simp only [hb, hd, if_true]; rfl⟩
    · simp only [Request.row, if_neg hd, exec, execHandoverReplyGrant]
      exact run ⟨_, by simp only [hb, if_neg hd]; rfl⟩
  all_goals
    simp only [Request.row, exec, execResolve, execClaim, execRelease, execTouch, execReadSlot, execScanNext,
      execHandoverAsk, execDomainGet, execDomainSet]
    exact run ⟨_, by simp only [hb]; rfl⟩

/-- The row of a SETTING_SET that R13 does not list. -/
theorem row_settingSet_direct {p : Port} {g : GrantStep} {id value : Nat}
    (h : (Request.settingSet id value).granted = false) :
    (id = 2 ∨ id = 3 ∨ id = 4 ∨ id = 5 ∨ id = 6 ∨ id = 7)
      ∨ ((id = 0 ∨ 12 ≤ id) ∧ Request.row p g (.settingSet id value) = .settingSetTimebaseDivider p) := by
  simp only [Request.granted, Bool.or_eq_false_iff, beq_eq_false_iff_ne] at h
  obtain ⟨h1, h2⟩ := h
  have hq : id ≠ 8 ∧ id ≠ 9 ∧ id ≠ 10 ∧ id ≠ 11 :=
    ⟨fun e => (by subst e; cases h2), fun e => (by subst e; cases h2), fun e => (by subst e; cases h2),
      fun e => (by subst e; cases h2)⟩
  by_cases hs : id = 2 ∨ id = 3 ∨ id = 4 ∨ id = 5 ∨ id = 6 ∨ id = 7
  · exact .inl hs
  · refine .inr ⟨by omega, ?_⟩
    simp only [Request.row]
    split <;> first | omega | rfl

/-- A request of another kind that fails a common check is answered at once by its own row; an ABORT_JOB that waits has
passed the checks (R114). -/
theorem exec_refused_direct {s : State} {p : Port} {rq : RequestFrame} {st : Status} (f : List Nat)
    (hr : rq.body.granted = false) (hw : p ∉ s.maintenance.abortWaiting) (hrq : (s.port p).executor = .busy rq)
    (hc : commonCheck s.view p rq.body = some st) :
    exec (rq.body.row p ⟨f, none⟩) s = .next (s.respond p rq st .none).arbitrate := by
  have run : ∀ {row : RequestFrame → Option (State → Reply)}, (∃ act, row rq = some act) →
      runDirect p s row = .next (s.respond p rq st .none).arbitrate := fun ⟨act, h⟩ => by
    rw [runDirect_eq hrq h, State.answer_refused hc]
  cases hb : rq.body <;> simp only [hb, Request.granted, Bool.true_eq_false] at hr
  case settingSet id value =>
    rcases row_settingSet_direct (p := p) (g := ⟨f, none⟩) hr with hid | ⟨hid, hrow⟩
    · rcases hid with rfl | rfl | rfl | rfl | rfl | rfl <;>
        simp only [Request.row, exec, execSettingSetTimebaseDivider, execSettingSetSweepInterval,
          execSettingSetTransferTimeout, execSettingSetCreditCapacity, execSettingSetRefillAmount,
          execSettingSetRefillInterval] <;>
        exact run ⟨_, by simp only [hb]; rfl⟩
    · have hne : id ≠ 2 := by omega
      rw [hrow]
      simp only [exec, execSettingSetTimebaseDivider]
      exact run ⟨_, by simp only [hb, if_neg hne, Settings.value_isNone hid, if_true]; rfl⟩
  case statRead scope name =>
    cases hs : sessionReadingOf scope name with
    | some q =>
      simp only [Request.row, hs, Option.isSome_some, if_true, exec, execStatReadSession]
      exact run ⟨_, by simp only [hb, hs]; rfl⟩
    | none =>
      simp only [Request.row, hs, Option.isSome_none, Bool.false_eq_true, if_false, exec, execStatRead]
      exact run ⟨_, by simp only [hb, hs]; rfl⟩
  case abortJob id =>
    have hwaits : s.abortWaits p rq id = false := by simp [State.abortWaits, hc]
    simp [Request.row, exec, execAbortJob, hw, hrq, hb, hwaits, State.answer_refused hc]
  all_goals
    simp only [Request.row, exec, execAttach, execDetach, execKeepalive, execEvict, execSweep, execPurge, execClear,
      execJobStatus, execSettingGet, execLeaseTake, execLeaseRenew, execLeaseDrop, execStatTake, execUnknownRequestKind]
    exact run ⟨_, by simp only [hb]; rfl⟩

/-- Settles O23: the row of the request answers it with the status of the failed check and nothing else. -/
theorem commonCheckRefusalChangesNothing : Obligations.CommonCheckRefusalChangesNothing := by
  unfold Obligations.CommonCheckRefusalChangesNothing
  intro s p rq st failing hrq
  have counted : ∀ {v : View}, commonCheck v p rq.body = some st →
      (s.respond p rq st .none).counter (.port p .refusals) = s.counter (.port p .refusals) + 1 := fun hc => by
    rw [State.respond_counter _ _ _ _ _ (by simp), if_pos ⟨commonCheck_isRefusal hc, rfl⟩]
  refine ⟨fun hgr v hg hc => ⟨_, exec_refused_granted failing hgr hg hrq hc, ?_, ?_, ?_⟩,
    fun hgr hw hc => ⟨_, exec_refused_direct failing hgr hw hrq hc, ?_, ?_, ?_⟩⟩
  · exact (State.respond_answers rfl p rq st .none).endGrant
  · rw [State.endGrant_counter, counted hc]
  · exact (s.respond_endGrant_changes p rq st .none).mono (by simp)
  · exact (State.respond_answers rfl p rq st .none).arbitrate
  · rw [State.arbitrate_counter, counted hc]
  · exact (s.respond_arbitrate_changes p rq st .none).mono (by simp)

end Sys2Proof.Machine
end

section
/-! SUPPORT. The link of a port: LINK_UP, LINK_LOST, arrival, take and transmission (R118 to R127, R137, R139, R167). -/

namespace Sys2Proof.Machine

/-! ### Leaving ONLINE, in the words of the statements -/

theorem State.OtherPorts.of_set {s t : State} {p : Port} {c : PortController} (h : t.ports = s.ports.set p c) :
    s.OtherPorts t p := fun q hq => by simp [State.port, h, hq]

theorem State.port_of_set {s t : State} {p : Port} {c : PortController} (h : t.ports = s.ports.set p c) :
    t.port p = c := by simp [State.port, h]

/-- R134, with the ORPHAN job of R143 under a fresh id. -/
theorem State.leaveOnline_leftOnline {s : State} (hj : s.JobsLaw) (hl : s.maintenance.queue.length ≤ 8) (p : Port)
    (c : LeaveCause) : s.LeftOnline (s.leaveOnline p c).1 p c s.maintenance.newId where
  job := by rw [(s.leaveOnline_maintenance p c).1]
  fresh j hjm he := Maintenance.newId_fresh hj.nextId (by omega) (he ▸ List.mem_map_of_mem hjm)
  next := by
    rw [(s.leaveOnline_maintenance p c).1]
    have := (Maintenance.newId_range hj.nextId).2
    unfold nextJobId
    split <;> split <;> first | rfl | omega
  history := by rw [(s.leaveOnline_maintenance p c).1]
  lease := State.leaveOnline_lease s p c
  notices := by
    have hoff : ((s.leaving p c).port p).session ≠ .online := by
      rw [State.leaving_port, if_pos rfl]
      simp [PortController.left]
    rw [State.leaveOnline_eq, (State.notify_hears _ _ _ p).2 hoff |>.2, State.leaving_noticePort, if_pos rfl]
    exact ⟨rfl, rfl, rfl⟩
  told q hq hsub := State.Queues.of_gains fun hon => by
    have hr : (s.leaving p c).receives (.subscribersBut .portState p) q = true := by
      simp [State.receives, State.online, State.leaving_port, hq, hon, hsub, Subscriptions.holds]
    have := State.notify_gains hr (.portState p .draining (.left c))
    rwa [State.leaving_noticePort, if_neg hq, ← State.leaveOnline_eq] at this

/-- What happens after a departure to other parts of the part. -/
theorem State.LeftOnline.before {s t u : State} {p : Port} {c : LeaveCause} {id : Nat} (h : s.LeftOnline t p c id)
    (hm : u.maintenance = t.maintenance) (hl : u.lease = t.lease) (hn : u.notices = t.notices) :
    s.LeftOnline u p c id := by
  have hnp : ∀ q, u.noticePort q = t.noticePort q := fun q => by rw [State.noticePort, State.noticePort, hn]
  refine ⟨by rw [hm, h.job], h.fresh, by rw [hm, h.next], by rw [hm, h.history], by rw [hl, h.lease], by rw [hnp]; exact h.notices,
    fun q hq hs => ?_⟩
  have := h.told q hq hs
  unfold State.Queues at this ⊢
  rwa [hnp]

/-- A departure that follows a change of its own port's queues. -/
theorem State.LeftOnline.after {r s t : State} {p : Port} {c : LeaveCause} {id : Nat} (h : s.LeftOnline t p c id)
    (hm : s.maintenance = r.maintenance) (hl : s.lease = r.lease)
    (hp : ∀ q, q ≠ p → s.port q = r.port q ∧ s.noticePort q = r.noticePort q) : r.LeftOnline t p c id := by
  refine ⟨hm ▸ h.job, hm ▸ h.fresh, h.next, hm ▸ h.history, hl ▸ h.lease, h.notices, fun q hq hs => ?_⟩
  obtain ⟨hport, hnotice⟩ := hp q hq
  have := h.told q hq (hport ▸ hs)
  unfold State.Queues at this ⊢
  rwa [hport, hnotice] at this

/-! ### LINK_UP and LINK_LOST -/

theorem PerPort.set_set {α : Type} (v : PerPort α) (p : Port) (x y : α) : (v.set p x).set p y = v.set p y := by
  cases p <;> rfl

/-- LINK_LOST leaves a DISCARD place for each place that has no response yet (R127). -/
theorem flatMap_afterLinkLost (l : List Place) :
    l.flatMap Place.afterLinkLost
      = List.replicate (l.countP (fun x => decide (x = .reserved) || decide (x = .discard))) .discard := by
  induction l with
  | nil => rfl
  | cons x rest ih => cases x <;> simp [Place.afterLinkLost, ih, List.replicate_succ]

/-- The port whose link is lost, in or out of ONLINE (R127, R134, R139). -/
theorem State.linkIsLost_ports (s : State) (p : Port) :
    (s.linkIsLost p).ports
      = s.ports.set p (if (s.port p).session = .online then (s.port p).loseLink.left else (s.port p).loseLink) := by
  unfold State.linkIsLost State.online
  by_cases h : (s.port p).session = .online
  · rw [if_pos (by simpa using h), if_pos h, State.leaveOnline_ports]
    simp [State.loseLink, State.port, State.modifyPort, PerPort.set_set]
  · rw [if_neg (by simpa using h), if_neg h]
    rfl

/-- Settles O24: the parts of LINK_LOST by what `loseLink` does to the queues and `leaveOnline` to the session. -/
theorem linkComesUpAndIsLost : Obligations.LinkComesUpAndIsLost := by
  unfold Obligations.LinkComesUpAndIsLost
  refine ⟨fun s p hl hr => ⟨s.linkComesUp p, ?_, ?_, ?_, fun x hx => ?_⟩, fun s p hl hj hlen => ?_⟩
  · change execLinkUp p s = _
    simp [execLinkUp, hl, hr]
  · simp [State.linkComesUp]
  · exact State.OtherPorts.of_set rfl
  · cases x <;> simp [State.Same, State.linkComesUp] at hx ⊢
  · have hrun : exec (.linkLost p) s = .next (s.linkIsLost p).arbitrate := by
      change execLinkLost p s = _
      simp [execLinkLost, hl]
    have hports := s.linkIsLost_ports p
    have hport := State.port_of_set hports
    have hother : s.OtherPorts (s.linkIsLost p).arbitrate p := fun q hq => by
      rw [State.arbitrate_port]
      exact State.OtherPorts.of_set hports q hq
    have hplaces : ((s.linkIsLost p).arbitrate.port p).responseQueue = (s.port p).loseLink.responseQueue := by
      rw [State.arbitrate_port, hport]
      split <;> rfl
    refine ⟨_, (s.port p).loseLink, hrun, hother, by rw [hplaces]; rfl, fun x hx => ?_, ?_, ?_⟩
    · rw [hplaces] at hx
      change x ∈ (s.port p).responseQueue.flatMap Place.afterLinkLost at hx
      rw [flatMap_afterLinkLost] at hx
      exact (List.mem_replicate.1 hx).2
    · rw [hplaces]
      change ((s.port p).responseQueue.flatMap Place.afterLinkLost).length = _
      rw [flatMap_afterLinkLost, List.length_replicate]
    · by_cases hs : (s.port p).session = .online
      · have he : s.linkIsLost p = ((s.loseLink p).leaveOnline p .link).1 := by
          simp [State.linkIsLost, State.online, hs]
        have hleft := ((State.leaveOnline_leftOnline (s := s.loseLink p) (p := p) (c := .link) ⟨hj.ids, hj.idRange,
          hj.nextId, hj.others, hj.sweeps, hj.history⟩ hlen).after (r := s) rfl rfl fun q hq => ⟨by
            simp [State.loseLink, State.port, State.modifyPort, State.modifyNotices, hq], by
            simp [State.loseLink, State.noticePort_modifyNotices, hq]⟩).before (u := (s.linkIsLost p).arbitrate)
            (by rw [he]; simp) (by rw [he]; simp) (by rw [he]; simp)
        refine ⟨hleft.notices.1, hleft.notices.2.1, hleft.notices.2.2, fun _ => ⟨?_, ⟨_, hleft⟩, fun x hx => ?_⟩,
          fun h => absurd hs h⟩
        · rw [State.arbitrate_port, hport, if_pos hs]
          rfl
        · cases x <;> simp [State.Same] at hx ⊢
      · have he : s.linkIsLost p = s.loseLink p := by simp [State.linkIsLost, State.online, hs]
        have hn : (s.linkIsLost p).arbitrate.noticePort p
            = { s.noticePort p with queue := [], lostCount := 0, windowCount := 0 } := by
          rw [State.arbitrate_noticePort, he]
          simp [State.loseLink, State.noticePort_modifyNotices]
        rw [hn]
        refine ⟨rfl, rfl, rfl, fun h => absurd h hs, fun _ => ⟨?_, fun x hx => ?_⟩⟩
        · rw [State.arbitrate_port, hport, if_neg hs]
        · rw [he]
          cases x <;> simp [State.Same, State.loseLink] at hx ⊢

end Sys2Proof.Machine
end

section
/-! SUPPORT. Arrival, take and transmission on a link (R119 to R126, R137, R164 to R167). -/

namespace Sys2Proof.Machine

/-! ### Arrival -/

/-- The Port Controller on which the master has spent a credit (R118). -/
def PortController.spent (c : PortController) : PortController := { c with masterCredits := c.masterCredits - 1 }

/-- The Port Controller after the arrival of a request (R120, R137). -/
def PortController.arrived (c : PortController) (rq : RequestFrame) : PortController :=
  if c.requestQueue.length < 16 then
    { c.spent.restartKeepalive with requestQueue := c.requestQueue ++ [rq] }
  else { c.spent.restartKeepalive with overrun := true }

theorem PortController.restartKeepalive_eq (c : PortController) :
    c.restartKeepalive = { c with
      keepaliveTimer := if c.session = .online ∧ c.keepaliveTimer.isSome then some c.keepaliveTimeout
        else c.keepaliveTimer } := by
  unfold PortController.restartKeepalive
  split <;> rfl

/-- R120: a request that finds room joins, and nothing is counted. -/
theorem State.frameArrives_joins {s : State} {p : Port} {f : Frame} (hf : frameChecks f = true)
    (hl : (s.port p).requestQueue.length < 16) :
    s.frameArrives p f
      = ((s.modifyPort p PortController.spent).modifyPort p PortController.restartKeepalive).modifyPort p
          (fun c => { c with requestQueue := c.requestQueue ++ [decodeRequest f] }) := by
  have hq : (((s.modifyPort p PortController.spent).modifyPort p PortController.restartKeepalive).port p).requestQueue
      = (s.port p).requestQueue := by
    simp [PortController.restartKeepalive_eq, PortController.spent]
  unfold State.frameArrives State.requestArrives
  rw [if_pos hf]
  exact if_pos (by rw [← hq] at hl; exact hl)

/-- R120: a request that finds the queue full is an overrun. -/
theorem State.frameArrives_overrun {s : State} {p : Port} {f : Frame} (hf : frameChecks f = true)
    (hl : 16 ≤ (s.port p).requestQueue.length) :
    s.frameArrives p f
      = (((s.modifyPort p PortController.spent).modifyPort p PortController.restartKeepalive).modifyPort p
          (fun c => { c with overrun := true })).count (.port p .overruns) := by
  have hq : (((s.modifyPort p PortController.spent).modifyPort p PortController.restartKeepalive).port p).requestQueue
      = (s.port p).requestQueue := by
    simp [PortController.restartKeepalive_eq, PortController.spent]
  unfold State.frameArrives State.requestArrives
  rw [if_pos hf]
  exact if_neg (by rw [← hq] at hl; exact Nat.not_lt.2 hl)

/-- R119: a frame that fails its check. -/
theorem State.frameArrives_error {s : State} {p : Port} {f : Frame} (hf : frameChecks f = false) :
    s.frameArrives p f = (s.modifyPort p PortController.spent).count (.port p .frameErrors) := by
  unfold State.frameArrives
  rw [hf]
  rfl

theorem State.frameArrives_ports (s : State) (p : Port) (f : Frame) :
    (s.frameArrives p f).ports
      = s.ports.set p (if frameChecks f then (s.port p).arrived (decodeRequest f) else (s.port p).spent) := by
  cases hf : frameChecks f with
  | false =>
    rw [State.frameArrives_error hf]
    simp [State.modifyPort, State.port]
  | true =>
    unfold PortController.arrived
    by_cases hl : (s.port p).requestQueue.length < 16
    · rw [State.frameArrives_joins hf hl, if_pos rfl, if_pos hl]
      simp [State.modifyPort, State.port, PerPort.set_set, PortController.restartKeepalive_eq, PortController.spent]
    · rw [State.frameArrives_overrun hf (Nat.not_lt.1 hl), if_pos rfl, if_neg hl]
      simp [State.modifyPort, State.port, PerPort.set_set, PortController.restartKeepalive_eq, PortController.spent]

/-- Settles O25: the three cases of an arrival. -/
theorem frameArrivalJoinsOrIsDiscarded : Obligations.FrameArrivalJoinsOrIsDiscarded := by
  unfold Obligations.FrameArrivalJoinsOrIsDiscarded
  intro s p f hl
  have hports := s.frameArrives_ports p f
  have hport := State.port_of_set hports
  refine ⟨s.frameArrives p f, ?_, State.OtherPorts.of_set hports, fun x hx => ?_, ?_, fun hf => ⟨?_, ?_⟩, fun hf => ?_⟩
  · change execFrameArrival p f s = _
    simp [execFrameArrival, hl]
  · cases x <;> simp [State.Same] at hx ⊢
  · rw [hport]
    split
    · unfold PortController.arrived
      rw [PortController.restartKeepalive_eq]
      split <;> rfl
    · rfl
  · rw [hport, hf]
    rfl
  · rw [State.frameArrives_error hf, State.count_counter _ _ (by simp), if_pos rfl, State.modifyPort_counter]
  · rw [if_pos hf] at hport
    by_cases hlen : (s.port p).requestQueue.length < 16
    · rw [PortController.arrived, if_pos hlen, PortController.restartKeepalive_eq] at hport
      refine ⟨fun hs hk => ?_, fun hs => ?_, by rw [hport]; rfl, fun _ => ⟨by rw [hport], by rw [hport]; rfl, fun x hx => ?_⟩,
        fun h => absurd hlen (Nat.not_lt.2 h)⟩
      · rw [hport]
        exact if_pos ⟨hs, Option.isSome_iff_ne_none.2 hk⟩
      · rw [hport]
        refine if_neg fun ⟨h1, h2⟩ => hs.elim (fun h => h h1) fun h => ?_
        change (s.port p).keepaliveTimer.isSome = true at h2
        rw [h] at h2
        cases h2
      · rw [State.frameArrives_joins hf hlen]
        cases x <;> simp [State.Same] at hx ⊢
    · rw [PortController.arrived, if_neg hlen, PortController.restartKeepalive_eq] at hport
      refine ⟨fun hs hk => ?_, fun hs => ?_, by rw [hport]; rfl, fun h => absurd h hlen,
        fun h => ⟨by rw [hport]; rfl, by rw [hport], ?_⟩⟩
      · rw [hport]
        exact if_pos ⟨hs, Option.isSome_iff_ne_none.2 hk⟩
      · rw [hport]
        refine if_neg fun ⟨h1, h2⟩ => hs.elim (fun h => h h1) fun h => ?_
        change (s.port p).keepaliveTimer.isSome = true at h2
        rw [h] at h2
        cases h2
      · rw [State.frameArrives_overrun hf h, State.count_counter _ _ (by simp), if_pos rfl]
        simp

/-! ### Take -/

/-- Settles O26: the take by its ports and its one count. -/
theorem requestTakeReservesAPlace : Obligations.RequestTakeReservesAPlace := by
  unfold Obligations.RequestTakeReservesAPlace
  intro s p rq rest hi hq hl
  have hports := State.takeRequest_ports s p rq rest
  refine ⟨(s.takeRequest p rq rest).arbitrate, ?_, ?_, fun q hq => ?_, ?_, fun x hx => ?_, fun hg => ?_⟩
  · change execRequestTake p s = _
    simp [execRequestTake, hi, hq, Config.responseQueueSize, hl]
  · rw [State.arbitrate_port, State.port_of_set hports]
    rfl
  · rw [State.arbitrate_port]
    exact State.OtherPorts.of_set hports q hq
  · rw [State.arbitrate_counter, State.takeRequest, State.count_counter _ _ (by simp), if_pos rfl, State.modifyPort_counter]
  · cases x <;> simp [State.Same, State.takeRequest] at hx ⊢
  · rw [State.arbitrate_busy (.inr (by simp [State.takeRequest, Option.isSome_iff_ne_none, hg]))]
    simp [State.takeRequest]

/-! ### Transmission -/

/-- Settles O27: what a response does to its place, and the two ends of a frame's transmission. -/
theorem responsePlaceIsWrittenSentAndFreed : Obligations.ResponsePlaceIsWrittenSentAndFreed := by
  unfold Obligations.ResponsePlaceIsWrittenSentAndFreed
  refine ⟨fun c sent r => ⟨fun h => ?_, fun h => ?_⟩, fun s p r rest hl ht hq => ?_, fun s p f hf => ?_⟩
  · simp [PortController.answered, h, List.flatMap_append, flatMap_fillPlace_written, fillPlace]
  · simp [PortController.answered, h, fillPlace]
  · have hcan : (s.port p).canTransmit = true := PortController.canTransmit_iff.2 ⟨hl, ht⟩
    have hready : (s.port p).readyResponse = some r := by simp [PortController.readyResponse, hq]
    refine ⟨s.modifyPort p (fun c => c.beginResponse r), ?_, ?_, State.OtherPorts.of_set rfl, fun x hx => ?_⟩
    · change execResponseTransmit p s = _
      simp [execResponseTransmit, hcan, hready]
    · exact State.port_of_set (t := s.modifyPort p (fun c => c.beginResponse r)) rfl
    · cases x <;> simp [State.Same] at hx ⊢
  · have hport := State.port_of_set (State.frameSent_ports s p f)
    refine ⟨s.frameSent p f, ?_, State.OtherPorts.of_set (State.frameSent_ports s p f), fun x hx => ?_, fun r n o he => ?_,
      fun m n he => ?_⟩
    · change execFrameTransmitEnd p s = _
      simp [execFrameTransmitEnd, hf]
    · cases x <;> simp [State.Same, State.frameSent] at hx ⊢
    · subst he
      exact hport
    · subst he
      exact hport

theorem NoticePort.windowAllows_of {n : NoticePort} (h : n.windowLimit = 0 ∨ n.windowCount < n.windowLimit) :
    n.windowAllows = true := by
  simp only [NoticePort.windowAllows, Bool.or_eq_true, beq_iff_eq, decide_eq_true_eq]
  exact h

/-- What a transmission leaves of the notice queue of its port (R164, R166). -/
theorem NoticePort.headLeaves_eq {n : NoticePort} {x : Notice} {rest : List Notice} (h : n.queue = x :: rest) (p : Port) :
    n.headLeaves p = { n with
      queue := rest ++ (if n.lostCount = 0 then [] else [.noticesLost p n.lostCount]), lostCount := 0,
      windowCount := min 63 (n.windowCount + 1) } := by
  unfold NoticePort.headLeaves Config.windowCountMax
  rw [h]
  by_cases h0 : n.lostCount = 0
  · simp [h0]
  · simp [h0, Nat.pos_of_ne_zero h0]

/-- The pacing window of a port is as it was (R166). -/
def NoticePort.SameWindow (m n : NoticePort) : Prop := n.windowCount = m.windowCount ∧ n.windowLimit = m.windowLimit

theorem NoticePort.SameWindow.trans {a b c : NoticePort} (h : a.SameWindow b) (k : b.SameWindow c) : a.SameWindow c :=
  ⟨k.1.trans h.1, k.2.trans h.2⟩

/-- Handing notices over leaves the pacing windows (R166). -/
theorem State.offerCopy_sameWindow (s : State) (n : Notice) (p q : Port) :
    (s.noticePort q).SameWindow ((s.offerCopy n p).1.noticePort q) := by
  by_cases h : q = p
  · subst h
    unfold State.offerCopy
    split
    · simp [State.noticePort_modifyNotices, NoticePort.SameWindow]
    · simp [State.bump, State.noticePort_setCounter, State.noticePort_modifyNotices, NoticePort.SameWindow]
  · rw [State.offerCopy_noticePort_ne s n h]
    exact ⟨rfl, rfl⟩

theorem State.offerCopies_sameWindow (s : State) (a : Audience) (n : Notice) (l : List Port) (q : Port) :
    (s.noticePort q).SameWindow ((s.offerCopies a n l).1.noticePort q) := by
  induction l generalizing s with
  | nil => exact ⟨rfl, rfl⟩
  | cons p rest ih =>
    unfold State.offerCopies
    split
    · exact (State.offerCopy_sameWindow s n p q).trans (ih _)
    · exact ih _

theorem State.handOver_sameWindow (s : State) (k : Nat) (l : List (Audience × Notice)) (q : Port) :
    (s.noticePort q).SameWindow ((s.handOver k l).noticePort q) := by
  induction k generalizing s l with
  | zero => exact ⟨rfl, rfl⟩
  | succ k ih =>
    cases l with
    | nil => exact ⟨rfl, rfl⟩
    | cons x rest => exact (State.offerCopies_sameWindow s x.1 x.2 allPorts q).trans (ih _ _)

theorem State.notify_sameWindow (s : State) (a : Audience) (n : Notice) (q : Port) :
    (s.noticePort q).SameWindow ((s.notify a n).noticePort q) := State.handOver_sameWindow s 5 _ q

theorem State.count_sameWindow (s : State) (c : CounterId) (q : Port) :
    (s.noticePort q).SameWindow ((s.count c).noticePort q) := by
  have hb : (s.bump c).1.noticePort q = s.noticePort q := by cases c <;> rfl
  unfold State.count
  dsimp only
  split
  · exact hb ▸ State.notify_sameWindow _ _ _ q
  · exact hb ▸ ⟨rfl, rfl⟩

theorem State.sendNotice_ports (s : State) (p : Port) (n : Notice) :
    (s.sendNotice p n).ports = s.ports.set p ((s.port p).beginNotice n) := by
  rw [State.sendNotice]
  simp only [State.count_frame]
  rfl

/-- Settles O28: the head notice leaves its queue and its count is the last event, which adds at most a COUNTER_HALF. -/
theorem noticeTransmissionBegins : Obligations.NoticeTransmissionBegins := by
  unfold Obligations.NoticeTransmissionBegins
  intro s p n rest hl ht hr hq hw
  have hcan : (s.port p).canTransmit = true := PortController.canTransmit_iff.2 ⟨hl, ht⟩
  have hready : (s.port p).readyResponse = none := by
    unfold PortController.readyResponse
    split
    · rename_i r l hres
      exact absurd hres (hr r l)
    · rfl
  have hnp : ∀ q, ((s.modifyNotices p (fun x => x.headLeaves p)).modifyPort p (fun c => c.beginNotice n)).noticePort q
      = if q = p then (s.noticePort p).headLeaves p else s.noticePort q := fun q => by
    simp [State.noticePort_modifyNotices]
  refine ⟨s.sendNotice p n, ?_, ?_, fun q hq => ?_, ?_, ?_, ?_, fun hc => ?_, fun x hx => ?_⟩
  · change execNoticeTransmit p s = _
    simp [execNoticeTransmit, hcan, hready, NoticePort.windowAllows_of hw, hq]
  · exact State.port_of_set (State.sendNotice_ports s p n)
  · exact State.OtherPorts.of_set (State.sendNotice_ports s p n) q hq
  · rw [State.sendNotice, State.count_counter _ _ (by simp), if_pos rfl]
    simp [State.counter]
  · rw [State.sendNotice, (State.count_sameWindow _ _ p).1, hnp, if_pos rfl, NoticePort.headLeaves_eq hq]
  · obtain ⟨l, hp⟩ := State.count_prefix ((s.modifyNotices p (fun x => x.headLeaves p)).modifyPort p
      (fun c => c.beginNotice n)) (.port p .noticesSent) p
    rw [hnp, if_pos rfl, NoticePort.headLeaves_eq hq] at hp
    exact ⟨l, hp.symm⟩
  · have he : s.sendNotice p n = ((s.modifyNotices p (fun x => x.headLeaves p)).modifyPort p
        (fun c => c.beginNotice n)).setCounter (.port p .noticesSent) (s.counter (.port p .noticesSent) + 1) :=
      State.count_plain hc
    have hnp' : ∀ q, (s.sendNotice p n).noticePort q
        = if q = p then (s.noticePort p).headLeaves p else s.noticePort q := fun q => by
      rw [he, State.noticePort_setCounter, hnp]
    rw [hnp' p, if_pos rfl, NoticePort.headLeaves_eq hq]
    exact ⟨rfl, rfl, fun q hqp => by rw [hnp' q, if_neg hqp]⟩
  · cases x <;> simp [State.Same, State.sendNotice] at hx ⊢

end Sys2Proof.Machine
end

section
/-! SUPPORT. Requests that run at once: sessions, the lease, counters, timers and the enqueuing of jobs (chapters 05, 06,
09, 10). -/

namespace Sys2Proof.Machine

/-! ### What a success leaves -/

/-- A success of a request at once, from a state `u` that its rule has made of `s`. -/
theorem State.success_changes {s u : State} {l : List Part} {st : Status} (h : s.ChangesOnly u l)
    (hst : st.isRefusal = false) (p : Port) (rq : RequestFrame) (res : Result) :
    s.ChangesOnly (u.respond p rq st res).arbitrate (l ++ [.arbiter, .ports]) :=
  h.trans (State.success_arbitrate_changes hst u p rq res)

theorem State.ChangesOnly.refl (s : State) (l : List Part) : s.ChangesOnly s l := fun x _ => by
  cases x <;> simp [State.Same]

theorem State.success_notices {st : Status} (h : st.isRefusal = false) (s : State) (p : Port) (rq : RequestFrame)
    (res : Result) : (s.respond p rq st res).arbitrate.notices = s.notices := by
  simp [State.respond_success_counts h]

theorem State.success_noticePort {st : Status} (h : st.isRefusal = false) (s : State) (p : Port) (rq : RequestFrame)
    (res : Result) (q : Port) : (s.respond p rq st res).arbitrate.noticePort q = s.noticePort q := by
  rw [State.noticePort, State.success_notices h, State.noticePort]

/-- The answer to a request whose own rule has changed Port Controllers. -/
theorem State.answered_port (s : State) (p : Port) (rq : RequestFrame) (st : Status) (res : Result) :
    (s.respond p rq st res).arbitrate.port p = (s.port p).answered ⟨rq.kind, rq.tag, st, res⟩ := by
  rw [State.arbitrate_port, State.respond_port, if_pos rfl]

theorem State.answered_other (s : State) {p q : Port} (h : q ≠ p) (rq : RequestFrame) (st : Status) (res : Result) :
    (s.respond p rq st res).arbitrate.port q = s.port q := by
  rw [State.arbitrate_port, State.respond_port, if_neg h]

theorem State.Queues.congr {s t u : State} {p : Port} {n : Notice} (h : s.Queues t p n)
    (hn : u.noticePort p = t.noticePort p) : s.Queues u p n := by
  unfold State.Queues at h ⊢
  rwa [hn]

/-- A notice that a state with the same port and queue hands over. -/
theorem State.Queues.of_notify {s t : State} {q : Port} {a : Audience} {n : Notice}
    (hp : (s.port q).session = .online → t.receives a q = true) (hn : t.noticePort q = s.noticePort q) :
    s.Queues (t.notify a n) q n :=
  State.Queues.of_gains fun h => hn ▸ State.notify_gains (hp h) n

/-! ### ATTACH -/

theorem attachReply_offline {s : State} {p : Port} (h : (s.port p).session = .offline) (hl : (s.port p).link = .up)
    (n m : Nat) (x : Subscriptions) :
    attachReply p n m x s = ⟨s.comeOnline p n m x, .ok, .session p s.settings.creditCapacity⟩ := by
  simp [attachReply, h, State.comeOnlineLinked, hl]

theorem attachReply_online {s : State} {p : Port} (h : (s.port p).session = .online) (n m : Nat) (x : Subscriptions) :
    attachReply p n m x s = ⟨s.replaceParameters p n m x, .already, .session p (s.port p).claimCredit⟩ := by
  simp [attachReply, h]

/-- Settles O29: the two rules of ATTACH by the session state. -/
theorem attachOpensOrRenewsTheSession : Obligations.AttachOpensOrRenewsTheSession := by
  unfold Obligations.AttachOpensOrRenewsTheSession
  refine ⟨fun s p rq timeout pacing subs hin hb hs hl => ?_, fun s p rq timeout pacing subs hin hb hs => ?_⟩
  · have hrun : exec (.attach p) s = .next (((s.comeOnline p timeout pacing (subscriptionsOf subs)).respond p rq .ok
        (.session p s.settings.creditCapacity)).arbitrate) := by
      change execAttach p s = _
      exact hin.runs (by simp only [hb]) (attachReply_offline hs hl _ _ _)
    have hports := State.comeOnline_ports s p timeout pacing (subscriptionsOf subs)
    refine ⟨_, hrun, fun q hq => ?_, ?_, ?_, ?_, fun q hq hsub => ?_, ?_⟩
    · rw [State.answered_other _ hq, State.OtherPorts.of_set hports q hq]
    · rw [State.answered_port, State.port_of_set hports]
      rfl
    · rw [State.success_noticePort rfl, State.comeOnline_eq, (State.notify_sameWindow _ _ _ p).1, State.coming_noticePort,
        if_pos rfl]
    · rw [State.success_noticePort rfl, State.comeOnline_eq, (State.notify_sameWindow _ _ _ p).2, State.coming_noticePort,
        if_pos rfl]
    · refine State.Queues.congr ?_ (State.success_noticePort rfl _ p rq _ q)
      rw [State.comeOnline_eq]
      refine State.Queues.of_notify (fun hon => ?_) (by rw [State.coming_noticePort, if_neg hq])
      simp [State.receives, State.online, State.coming_port, hq, hon, hsub, Subscriptions.holds]
    · refine (State.success_changes (l := [.ports, .notices, .portCounters]) (fun x hx => ?_) rfl p rq _).mono (by simp)
      cases x <;> simp [State.Same] at hx ⊢
  · have hrun : exec (.attach p) s = .next (((s.replaceParameters p timeout pacing (subscriptionsOf subs)).respond p rq
        .already (.session p (s.port p).claimCredit)).arbitrate) := by
      change execAttach p s = _
      exact hin.runs (by simp only [hb]) (attachReply_online hs _ _ _)
    refine ⟨_, hrun, fun q hq => ?_, ?_, ?_⟩
    · rw [State.answered_other _ hq, State.replaceParameters, State.port_modifyPort, if_neg hq]
    · rw [State.answered_port, State.replaceParameters, State.port_modifyPort, if_pos rfl]
      rfl
    · refine (State.success_changes (l := [.ports]) (fun x hx => ?_) rfl p rq _).mono (by simp)
      cases x <;> simp [State.Same, State.replaceParameters] at hx ⊢

/-! ### DETACH, EVICT and a keepalive expiry -/

theorem State.LeftOnline.respond {s t : State} {p : Port} {c : LeaveCause} {id : Nat} (h : s.LeftOnline t p c id)
    {st : Status} (hst : st.isRefusal = false) (q : Port) (rq : RequestFrame) (res : Result) :
    s.LeftOnline (t.respond q rq st res).arbitrate p c id :=
  h.before (by simp) (by simp) (State.success_notices hst t q rq res)

theorem State.leaveOnline_changes (s : State) (p : Port) (c : LeaveCause) :
    s.ChangesOnly (s.leaveOnline p c).1 [.ports, .notices, .lease, .maintenance, .portCounters] := fun x hx => by
  cases x <;> simp [State.Same] at hx ⊢

/-- Settles O30: the three departures are `leaveOnline` under an answer or the arbiter's choice. -/
theorem portLeavesOnline : Obligations.PortLeavesOnline := by
  unfold Obligations.PortLeavesOnline
  intro s hj hlen
  have left : ∀ p c, s.LeftOnline (s.leaveOnline p c).1 p c s.maintenance.newId :=
    fun p c => State.leaveOnline_leftOnline hj hlen p c
  refine ⟨fun p rq hin hb => ?_, fun p q rq hin hb hs hqp => ?_, fun p hk => ?_⟩
  · have hports := State.leaveOnline_ports s p .detach
    have hrun : exec (.detach p) s = .next (((s.leaveOnline p .detach).1.respond p rq .ok
        (.orphanJob s.maintenance.newId)).arbitrate) := by
      change execDetach p s = _
      refine hin.runs (act := detachReply p) (by simp only [hb]) ?_
      rw [detachReply, (s.leaveOnline_maintenance p .detach).2]
    refine ⟨_, _, (s.port p).left, hrun, (left p .detach).respond rfl p rq _, rfl, ?_, fun r hr => ?_, ?_⟩
    · rw [State.answered_port, State.port_of_set hports]
    · rw [State.answered_other _ hr, State.OtherPorts.of_set hports r hr]
    · exact (State.success_changes (s.leaveOnline_changes p .detach) rfl p rq _).mono (by simp)
  · have hports := State.leaveOnline_ports s q .evicted
    have hrun : exec (.evict p) s = .next (((s.leaveOnline q .evicted).1.respond p rq .ok
        (.evicted q s.maintenance.newId)).arbitrate) := by
      change execEvict p s = _
      refine hin.runs (act := evictReply p (portCode q)) (by simp only [hb]) ?_
      simp [evictReply, State.online, hs, hqp, (s.leaveOnline_maintenance q .evicted).2]
    refine ⟨_, _, hrun, (left q .evicted).respond rfl p rq _, ?_, ?_, fun r hr hrq => ?_, ?_⟩
    · rw [State.answered_other _ hqp, State.port_of_set hports]
      rfl
    · rw [State.answered_port, State.OtherPorts.of_set hports p hqp.symm]
    · rw [State.answered_other _ hr, State.OtherPorts.of_set hports r hrq]
    · exact (State.success_changes (s.leaveOnline_changes q .evicted) rfl p rq _).mono (by simp)
  · have hports := State.leaveOnline_ports s p .keepalive
    have hrun : exec (.keepaliveTimerExpiry p) s = .next (s.leaveOnline p .keepalive).1.arbitrate := by
      change execKeepaliveTimerExpiry p s = _
      simp [execKeepaliveTimerExpiry, State.expireKeepalive, timerDue, hk]
    refine ⟨_, _, hrun, (left p .keepalive).before (by simp) (by simp) (by simp), ?_, fun q hq => ?_, fun x hx => ?_⟩
    · rw [State.arbitrate_port, State.port_of_set hports]
      rfl
    · rw [State.arbitrate_port, State.OtherPorts.of_set hports q hq]
    · cases x <;> simp [State.Same] at hx ⊢

/-! ### KEEPALIVE and a kind that names no request -/

theorem State.answered_refusals {s : State} {p : Port} {rq : RequestFrame} {st : Status} (h : st.isRefusal = true)
    (res : Result) :
    (s.respond p rq st res).arbitrate.counter (.port p .refusals) = s.counter (.port p .refusals) + 1 := by
  rw [State.arbitrate_counter, State.respond_counter _ _ _ _ _ (by simp), if_pos ⟨h, rfl⟩]

/-- Settles O31: the common checks decide, and what passes them answers with the state as it was. -/
theorem keepaliveAndUnknownKindChangeNothing : Obligations.KeepaliveAndUnknownKindChangeNothing := by
  unfold Obligations.KeepaliveAndUnknownKindChangeNothing
  refine ⟨fun s p rq hrq hb hr => ?_, fun s p rq hrq hb hr hs => ?_⟩
  · obtain ⟨-, -, -, hdrain, hoff, -, -, -, -, hpass⟩ := commonCheckOrder s.view p rq.body
    have hno : ¬ ∃ a b c, rq.body = .attach a b c := by simp [hb]
    have hro : rq.body.readOnly = false := by rw [hb]; rfl
    have refused : ∀ st, commonCheck s.view p rq.body = some st →
        exec (.keepalive p) s = .next (s.respond p rq st .none).arbitrate := fun st h => by
      change execKeepalive p s = _
      exact (runDirect_eq hrq (by simp only [hb]; rfl)).trans (by rw [State.answer_refused h])
    cases hs : (s.port p).session with
    | online =>
      have hc : commonCheck s.view p rq.body = none := by
        refine hpass hr (by rw [State.view_session, hs]) ?_ ?_ ?_ <;> rw [hb]
        · exact fun h => nomatch h
        · rfl
        · exact fun _ => rfl
      have hrun : exec (.keepalive p) s = .next (s.respond p rq .ok .none).arbitrate := by
        change execKeepalive p s = _
        exact State.AtOnce.runs ⟨hrq, hc⟩ (by simp only [hb]; rfl) rfl
      have hch := State.success_arbitrate_changes (st := .ok) rfl s p rq .none
      exact ⟨_, hrun, fun _ => ⟨(State.respond_answers rfl p rq .ok .none).arbitrate, hch.mono (by simp)⟩,
        (nomatch ·), (nomatch ·), hch.mono (by simp)⟩
    | offline =>
      have hc := hoff hr hro (by rw [State.view_session, hs]) hno
      exact ⟨_, refused _ hc, (nomatch ·), fun _ => (State.respond_answers rfl p rq _ .none).arbitrate, (nomatch ·),
        (s.respond_arbitrate_changes p rq _ .none).mono (by simp)⟩
    | draining =>
      have hc := hdrain hr hro (by rw [State.view_session, hs]) hno
      exact ⟨_, refused _ hc, (nomatch ·), (nomatch ·), fun _ => (State.respond_answers rfl p rq _ .none).arbitrate,
        (s.respond_arbitrate_changes p rq _ .none).mono (by simp)⟩
  · obtain ⟨-, -, -, -, -, -, -, hinv, -, -⟩ := commonCheckOrder s.view p rq.body
    have hc : commonCheck s.view p rq.body = some .invalid := by
      refine hinv hr (by rw [State.view_session, hs]) ?_ ?_ <;> rw [hb]
      · exact fun h => nomatch h
      · rfl
    have hrun : exec (.unknownRequestKind p) s = .next (s.respond p rq .invalid .none).arbitrate := by
      change execUnknownRequestKind p s = _
      exact (runDirect_eq hrq (by simp only [hb]; rfl)).trans (by rw [State.answer_refused hc])
    exact ⟨_, hrun, (State.respond_answers rfl p rq _ .none).arbitrate, State.answered_refusals rfl .none,
      (s.respond_arbitrate_changes p rq _ .none).mono (by simp)⟩

/-! ### The lease -/

/-- Settles O54: the three lease requests by the holder. -/
theorem leaseRequestsFollowTheTable : Obligations.LeaseRequestsFollowTheTable := by
  unfold Obligations.LeaseRequestsFollowTheTable
  intro s p rq hin
  have lease : ∀ x, s.ChangesOnly (s.withLease x) [.lease] := fun x y hy => by cases y <;> simp [State.Same] at hy ⊢
  refine ⟨fun n hb => ⟨fun hh => ?_, fun h hh hne => ?_⟩, fun c hc hh => ?_, fun n hb hh => ?_, fun hb hh => ?_⟩
  · have hreply : leaseTakeReply p n s
        = ⟨s.withLease ⟨some p, n⟩, if s.lease.holder = none then .ok else .already, .lease (some p) n⟩ := by
      rcases hh with hh | hh <;> simp [leaseTakeReply, hh]
    have hst : (if s.lease.holder = none then Status.ok else .already).isRefusal = false := by split <;> rfl
    generalize (if s.lease.holder = none then Status.ok else .already) = st at hreply hst ⊢
    have hrun : exec (.leaseTake p) s
        = .next ((s.withLease ⟨some p, n⟩).respond p rq st (.lease (some p) n)).arbitrate := by
      change execLeaseTake p s = _
      exact hin.runs (act := leaseTakeReply p n) (by simp only [hb]) hreply
    exact ⟨_, hrun, by simp, (State.respond_answers (by rfl) p rq _ _).arbitrate,
      (State.success_changes (lease _) hst p rq _).mono (by simp)⟩
  · refine ⟨(s.respond p rq .held (.lease (some h) s.lease.remaining)).arbitrate, ?_,
      (State.respond_answers (by rfl) p rq _ _).arbitrate, (s.respond_arbitrate_changes p rq _ _).mono (by simp)⟩
    change execLeaseTake p s = _
    exact hin.runs (act := leaseTakeReply p n) (by simp only [hb]) (by simp [leaseTakeReply, hh, hne])
  · refine ⟨(s.respond p rq .notOwner .none).arbitrate, ?_,
      (State.respond_answers (by rfl) p rq _ _).arbitrate, (s.respond_arbitrate_changes p rq _ _).mono (by simp)⟩
    rcases hc with ⟨n, hb, rfl⟩ | ⟨hb, rfl⟩
    · change execLeaseRenew p s = _
      exact hin.runs (act := leaseRenewReply p n) (by simp only [hb]) (by simp [leaseRenewReply, hh, refuse])
    · change execLeaseDrop p s = _
      exact hin.runs (act := leaseDropReply p) (by simp only [hb]) (by simp [leaseDropReply, hh, refuse])
  · refine ⟨((s.withLease ⟨some p, n⟩).respond p rq .ok (.remaining n)).arbitrate, ?_, by simp,
      (State.respond_answers (by rfl) p rq _ _).arbitrate, (State.success_changes (lease _) rfl p rq _).mono (by simp)⟩
    change execLeaseRenew p s = _
    exact hin.runs (act := leaseRenewReply p n) (by simp only [hb]) (by simp [leaseRenewReply, hh])
  · refine ⟨((s.withLease Lease.free).respond p rq .ok .none).arbitrate, ?_, by simp [Lease.free],
      (State.respond_answers (by rfl) p rq _ _).arbitrate, (State.success_changes (lease _) rfl p rq _).mono (by simp)⟩
    change execLeaseDrop p s = _
    exact hin.runs (act := leaseDropReply p) (by simp only [hb]) (by simp [leaseDropReply, hh])

/-! ### Counters -/

@[simp] theorem portCounterOfCode_code (n : PortCounter) : portCounterOfCode n.code = some n := by cases n <;> rfl

@[simp] theorem deviceCounterOfCode_code (n : DeviceCounter) : deviceCounterOfCode n.code = some n := by cases n <;> rfl

/-- The counter that the codes of a counter name (11.2). -/
theorem counterOf_codes {c : CounterId} {a b : Nat} (h : c.codes = (a, b)) : counterOf a b = some c := by
  cases c with
  | port p n =>
    cases h
    simp [counterOf]
  | device n =>
    cases h
    simp [counterOf, portOfCode]

theorem State.count_changes (s : State) (c : CounterId) :
    s.ChangesOnly (s.count c) [.notices, .portCounters, .deviceCounters] := fun x hx => by
  cases x <;> simp [State.Same] at hx ⊢

theorem State.setCounter_changes (s : State) (c : CounterId) (v : Count32) :
    s.ChangesOnly (s.setCounter c v) [.portCounters, .deviceCounters] := fun x hx => by
  cases x <;> simp [State.Same] at hx ⊢

/-- Settles O55: a count below half range sets one counter; the count that reaches it is a notice besides. -/
theorem countersCountAndAreTaken : Obligations.CountersCountAndAreTaken := by
  unfold Obligations.CountersCountAndAreTaken
  refine ⟨fun s c => ⟨fun hc => ?_, fun d hd hn => ?_, fun hh => ?_, fun hh p hp => ?_, s.count_changes c⟩,
    fun s p rq a b c hin hb hcodes => ?_⟩
  · rw [State.count_counter s c hc, if_pos rfl]
  · rw [State.count_counter s c hn, if_neg hd]
  · rw [State.count_plain hh]
    refine ⟨by simp [State.counter_setCounter], fun d hd => by rw [State.counter_setCounter, if_neg hd], by simp⟩
  · rw [State.count_half hh]
    refine State.Queues.of_notify (fun hon => ?_) (by simp)
    have hport : (s.setCounter c halfRange).port p = s.port p := by simp [State.port]
    simp [State.receives, State.online, hport, hon, hp]
  · refine ⟨((s.setCounter c (s.counter c - s.counter c)).respond p rq .ok (.counter c (s.counter c))).arbitrate, ?_,
      (State.respond_answers (by simp) p rq _ _).arbitrate, ?_, fun d hd => ?_,
      (State.success_changes (s.setCounter_changes c _) rfl p rq _).mono (by simp)⟩
    · change execStatTake p s = _
      exact hin.runs (by simp only [hb]; rfl) (by simp only [statTakeReply, counterOf_codes hcodes])
    · rw [State.arbitrate_counter, State.respond_success rfl, State.modifyPort_counter, State.counter_setCounter,
        if_pos rfl, BitVec.sub_self]
      rfl
    · rw [State.arbitrate_counter, State.respond_success rfl, State.modifyPort_counter, State.counter_setCounter,
        if_neg hd]

end Sys2Proof.Machine
end

section
/-! SUPPORT. Timers, the enqueuing of jobs, read-only reports and the SETTING_SET rows (chapters 04, 05, 08, 09, 10). -/

namespace Sys2Proof.Machine

/-! ### Jobs in the queue -/

theorem nextJobId_eq {id : Nat} (h : id ≤ 255) : nextJobId id = if id = 255 then 1 else id + 1 := by
  unfold nextJobId
  split <;> split <;> first | rfl | omega

/-- A job joins the tail under a fresh id (R92, R93). -/
theorem State.enqueueJob_gains {s : State} (hj : s.JobsLaw) (hl : s.maintenance.queue.length ≤ 8) (w : JobWork)
    (r : Option Port) :
    s.maintenance.Gains (s.enqueueJob w r).1.maintenance ⟨s.maintenance.newId, w, r, 0, JobCounts.zero⟩ := by
  refine ⟨fun k hk he => ?_, ?_⟩
  · have hmem : k.id ∈ s.maintenance.queue.map Job.id := List.mem_map_of_mem hk
    rw [he] at hmem
    exact Maintenance.newId_fresh hj.nextId (by omega) hmem
  · rw [← nextJobId_eq (Maintenance.newId_range hj.nextId).2]
    rfl

theorem Maintenance.hasRoom_iff (m : Maintenance) : m.hasRoom = true ↔ m.otherJobs < 4 := by
  simp [Maintenance.hasRoom, Maintenance.otherJobs, Config.otherJobsLimit]

theorem Maintenance.waitingSweep_eq_none {m : Maintenance} :
    m.waitingSweep = none ↔ ∀ k ∈ m.queue.tail, k.work ≠ .sweep := by
  simp [Maintenance.waitingSweep, List.find?_eq_none, JobWork.kind_eq_sweep]

theorem Maintenance.waitingSweep_isSome {m : Maintenance} :
    m.waitingSweep.isSome = true ↔ ∃ k ∈ m.queue.tail, k.work = .sweep := by
  simp [Maintenance.waitingSweep, JobWork.kind_eq_sweep]

theorem State.enqueueJob_changes (s : State) (w : JobWork) (r : Option Port) :
    s.ChangesOnly (s.enqueueJob w r).1 [.maintenance] := fun x hx => by
  cases x <;> simp [State.Same, State.enqueueJob] at hx ⊢

/-! ### Timers -/

theorem allIndices_rising : allIndices.Pairwise (· < ·) := by decide

theorem mem_allIndices (x : TransferIndex) : x ∈ allIndices := by
  revert x
  decide

theorem State.entryDue_iff {s : State} {x : TransferIndex} :
    s.entryDue x = true ↔ ∃ e, s.entry x = some e ∧ e.phase = .pending ∧ e.remaining = 0 := by
  unfold State.entryDue
  cases h : s.entry x <;> simp [Transfer.due]

/-- R72: the lowest entry that has run out is the one that expires. -/
theorem State.dueIndex_eq {s : State} {x : TransferIndex} (hx : s.entryDue x = true)
    (hlow : ∀ y, y < x → s.entryDue y = false) : s.dueIndex = some x := by
  unfold State.dueIndex
  cases hc : allIndices.find? s.entryDue with
  | none => exact absurd hx (List.find?_eq_none.1 hc x (mem_allIndices x))
  | some c =>
    have hdue := List.find?_some hc
    rcases pairwise_find allIndices_rising hc (mem_allIndices x) hx with rfl | hlt
    · rfl
    · rw [hlow c hlt] at hdue
      cases hdue

theorem State.expireEntry_entry (s : State) (x y : TransferIndex) :
    (s.expireEntry x).entry y
      = if y = x then (s.entry x).map (fun t => { t with phase := .expired }) else s.entry y :=
  State.entry_setEntry s x y _

theorem State.sweepAttempt_room {s : State} (hs : s.maintenance.waitingSweep = none)
    (hr : s.maintenance.hasRoom = true) : s.sweepAttempt = (s.enqueueJob .sweep none).1 := by
  simp [State.sweepAttempt, hs, hr]

theorem State.sweepAttempt_no {s : State} (h : s.maintenance.waitingSweep.isSome = true ∨ s.maintenance.hasRoom = false) :
    s.sweepAttempt = s := by
  rcases h with h | h <;> simp [State.sweepAttempt, h]

/-- Settles O48: each expiry by its own update. -/
theorem timersExpire : Obligations.TimersExpire := by
  unfold Obligations.TimersExpire
  intro s
  refine ⟨fun p hd => ?_, fun p ht => ?_, fun x e he hp hr hlow => ?_, fun h hl => ?_, fun ht hj hlen => ?_⟩
  · have he : s.startWindow p = s.modifyNotices p (fun n =>
        { n with windowCount := 0, windowLimit := (s.port p).pacingLimit, windowDue := false }) := by
      simp [State.startWindow, hd]
    refine ⟨s.startWindow p, rfl, ?_, fun q hq => ?_, fun x hx => ?_⟩
    · rw [he, State.noticePort_modifyNotices, if_pos rfl]
    · rw [he, State.noticePort_modifyNotices, if_neg hq]
    · rw [he]
      cases x <;> simp [State.Same] at hx ⊢
  · have he : s.expireRefill p = s.modifyPort p (fun c => c.refill s.settings) := by
      simp [State.expireRefill, timerDue, ht]
    refine ⟨s.expireRefill p, rfl, ?_, fun q hq => ?_, fun x hx => ?_⟩
    · rw [he, State.port_modifyPort, if_pos rfl]
      rfl
    · rw [he, State.port_modifyPort, if_neg hq]
    · rw [he]
      cases x <;> simp [State.Same] at hx ⊢
  · have hdue : s.dueIndex = some x := by
      refine State.dueIndex_eq (State.entryDue_iff.2 ⟨e, he, hp, hr⟩) fun y hy => ?_
      rw [← Bool.not_eq_true, State.entryDue_iff]
      rintro ⟨f, hf, hfp, hfr⟩
      exact hlow y f hy hf hfp hfr
    have hexp : s.expireNextTransfer = s.expireEntry x := by simp [State.expireNextTransfer, hdue]
    refine ⟨(s.expireEntry x).arbitrate, ?_, ?_, fun y hy => ?_, ?_, ?_, fun z hz => ?_⟩
    · change execTransferTimerExpiry s = _
      rw [execTransferTimerExpiry, hexp]
    · rw [State.arbitrate_entry, State.expireEntry_entry, if_pos rfl, he]
      rfl
    · rw [State.arbitrate_entry, State.expireEntry_entry, if_neg hy]
    · simp [State.expireEntry, State.setEntry]
    · simp [State.expireEntry, State.setEntry]
    · cases z <;> simp [State.Same, State.expireEntry] at hz ⊢
  · have he : s.expireLease = (s.withLease Lease.free).notify (.directed h) (.leaseLost h) := by
      simp [State.expireLease, hl, Lease.due]
    refine ⟨s.expireLease, rfl, by rw [he]; simp [Lease.free], ?_, fun x hx => ?_⟩
    · rw [he]
      refine State.Queues.of_notify (fun hon => ?_) rfl
      rw [State.receives_congr (t := s.withLease Lease.free) (s := s) rfl]
      simp [State.receives, State.online, hon]
    · rw [he]
      cases x <;> simp [State.Same] at hx ⊢
  · have he : s.expireSweep = s.sweepAttempt.withMaintenance
        { s.sweepAttempt.maintenance with sweepTimer := sweepStart s.sweepAttempt.settings.sweepInterval } := by
      simp [State.expireSweep, timerDue, ht]
    have hset : s.sweepAttempt.settings = s.settings := by
      unfold State.sweepAttempt
      split <;> simp [State.enqueueJob]
    have hm : s.expireSweep.arbitrate.maintenance
        = { s.sweepAttempt.maintenance with sweepTimer := sweepStart s.settings.sweepInterval } := by
      rw [he, hset]
      simp
    refine ⟨s.expireSweep.arbitrate, rfl, by rw [hm]; rfl, fun hs hroom => ?_, fun h => ?_, fun x hx => ?_⟩
    · refine ⟨s.maintenance.newId, ?_⟩
      rw [hm, State.sweepAttempt_room (Maintenance.waitingSweep_eq_none.2 hs) (s.maintenance.hasRoom_iff.2 hroom)]
      exact State.enqueueJob_gains hj hlen .sweep none
    · rw [hm, State.sweepAttempt_no]
      · refine h.imp Maintenance.waitingSweep_isSome.2 fun h4 => ?_
        rw [← Bool.not_eq_true, s.maintenance.hasRoom_iff]
        exact Nat.not_lt.2 h4
    · cases x <;> simp [State.Same] at hx ⊢

/-! ### Enqueuing jobs -/

theorem enqueueReply_room {s : State} (h : s.maintenance.otherJobs < 4) (p : Port) (w : JobWork) :
    enqueueReply p w s = ⟨(s.enqueueJob w (some p)).1, .ok, .job s.maintenance.newId⟩ := by
  simp [enqueueReply, s.maintenance.hasRoom_iff.2 h, State.enqueueJob]

theorem enqueueReply_full {s : State} (h : 4 ≤ s.maintenance.otherJobs) (p : Port) (w : JobWork) :
    enqueueReply p w s = ⟨s, .busy, .none⟩ := by
  have : s.maintenance.hasRoom = false := by
    rw [← Bool.not_eq_true, s.maintenance.hasRoom_iff]
    exact Nat.not_lt.2 h
  simp [enqueueReply, this, refuse]

/-- The three requests that enqueue a job run as `enqueueReply` (R94, R107, R110). -/
theorem State.AtOnce.exec_enqueue {s u : State} {p : Port} {rq : RequestFrame} {c : Instr} {w : JobWork} {st : Status}
    {res : Result} (hin : s.AtOnce p rq)
    (h : (rq.body = .sweep ∧ c = .sweep p ∧ w = .sweep ∧ ∀ k ∈ s.maintenance.queue.tail, k.work ≠ .sweep)
      ∨ (∃ d o l f, rq.body = .purge d o l ∧ purgeFilterOf d o l = some f ∧ c = .purge p ∧ w = .purge f)
      ∨ (rq.body = .clear ∧ c = .clear p ∧ w = .clear))
    (hr : enqueueReply p w s = ⟨u, st, res⟩) : exec c s = .next (u.respond p rq st res).arbitrate := by
  rcases h with ⟨hb, rfl, rfl, hs⟩ | ⟨d, o, l, f, hb, hf, rfl, rfl⟩ | ⟨hb, rfl, rfl⟩
  · change execSweep p s = _
    refine hin.runs (act := sweepReply p) (by simp only [hb]) ?_
    simp only [sweepReply, Maintenance.waitingSweep_eq_none.2 hs]
    exact hr
  · change execPurge p s = _
    refine hin.runs (act := purgeReply p d o l) (by simp only [hb]) ?_
    simp only [purgeReply, hf]
    exact hr
  · change execClear p s = _
    exact hin.runs (act := enqueueReply p .clear) (by simp only [hb]) hr

/-- With at most one waiting SWEEP, the one found is the one that waits (R93). -/
theorem find_unique_sweep {l : List Job} {k : Job} (hk : k ∈ l) (hw : k.work = .sweep)
    (h : l.countP (fun j => decide (j.work.kind = .sweep)) ≤ 1) :
    l.find? (fun j => decide (j.work.kind = .sweep)) = some k := by
  induction l with
  | nil => cases hk
  | cons j rest ih =>
    rw [List.countP_cons] at h
    rw [List.find?_cons]
    cases hj : decide (j.work.kind = .sweep) with
    | true =>
      rw [hj, if_pos rfl] at h
      rcases List.mem_cons.1 hk with rfl | hk
      · rfl
      · have : 0 < rest.countP (fun j => decide (j.work.kind = .sweep)) :=
          List.countP_pos_iff.2 ⟨k, hk, by simp [hw, JobWork.kind]⟩
        omega
    | false =>
      rcases List.mem_cons.1 hk with rfl | hk
      · simp [hw, JobWork.kind] at hj
      · exact ih hk (by omega)

/-- Settles O49: room decides between a new job and BUSY, and a waiting SWEEP merges. -/
theorem jobRequestsEnqueue : Obligations.JobRequestsEnqueue := by
  unfold Obligations.JobRequestsEnqueue
  intro s p rq hin hj hlen
  refine ⟨fun c w hc => ⟨fun hroom => ?_, fun hfull => ?_⟩, fun k hb hk hw => ?_⟩
  · refine ⟨_, _, hin.exec_enqueue hc (enqueueReply_room hroom p w), (State.respond_answers (by rfl) p rq _ _).arbitrate, ?_,
      (State.success_changes (s.enqueueJob_changes w _) rfl p rq _).mono (by simp)⟩
    simp only [State.arbitrate_frame, State.respond_frame]
    exact State.enqueueJob_gains hj hlen w (some p)
  · exact ⟨_, hin.exec_enqueue hc (enqueueReply_full hfull p w), (State.respond_answers (by rfl) p rq _ _).arbitrate,
      State.answered_refusals rfl _, (s.respond_arbitrate_changes p rq _ _).mono (by simp)⟩
  · have hfind : s.maintenance.waitingSweep = some k := find_unique_sweep hk hw hj.sweeps
    refine ⟨(s.respond p rq .merged (.job k.id)).arbitrate, ?_, (State.respond_answers rfl p rq _ _).arbitrate,
      (State.success_arbitrate_changes rfl s p rq _).mono (by simp)⟩
    change execSweep p s = _
    exact hin.runs (act := sweepReply p) (by simp only [hb]) (by simp [sweepReply, hfind])

end Sys2Proof.Machine
end

section
/-! SUPPORT. What reaches the notice queues through a course of operations, the finish of the head job (R98, R111), and the
end of a bucket's grant (R95, R114). -/

namespace Sys2Proof.Machine

/-! ### A course of operations, as the notice queues see it -/

/-- Every notice queue only grows, a port that is ONLINE stays so, and the subscriptions stand. -/
def State.Onward (s t : State) : Prop :=
  ∀ q, (s.noticePort q).Grows (t.noticePort q)
    ∧ ((s.port q).session = .online → (t.port q).session = .online)
    ∧ (t.port q).subscriptions = (s.port q).subscriptions

/-- A port that is ONLINE gains a notice, or counts its loss. -/
def State.Hands (s t : State) (p : Port) (n : Notice) : Prop :=
  (s.port p).session = .online → (s.noticePort p).Gains (t.noticePort p) n

theorem State.Onward.refl (s : State) : s.Onward s := fun _ => ⟨.refl _, id, rfl⟩

theorem State.Onward.trans {s t u : State} (h : s.Onward t) (k : t.Onward u) : s.Onward u := fun q =>
  ⟨(h q).1.trans (k q).1, fun ho => (k q).2.1 ((h q).2.1 ho), (k q).2.2.trans (h q).2.2⟩

theorem State.Onward.of_ports {s t : State} (hp : t.ports = s.ports)
    (hg : ∀ q, (s.noticePort q).Grows (t.noticePort q)) : s.Onward t := fun q => by
  have : t.port q = s.port q := by rw [State.port, hp, State.port]
  exact ⟨hg q, fun h => this ▸ h, by rw [this]⟩

theorem State.Onward.of_eq {s t : State} (hp : t.ports = s.ports) (hn : t.notices = s.notices) : s.Onward t :=
  .of_ports hp fun q => by rw [State.noticePort, State.noticePort, hn]; exact .refl _

/-- Answers leave sessions and subscriptions. -/
theorem State.Onward.of_answered {s t : State} (hp : ∀ q, (s.port q).MaybeAnswered (t.port q))
    (hg : ∀ q, (s.noticePort q).Grows (t.noticePort q)) : s.Onward t := fun q => by
  rcases hp q with h | ⟨_, r, _, h⟩ <;> rw [h]
  · exact ⟨hg q, id, rfl⟩
  · exact ⟨hg q, id, rfl⟩

theorem State.Hands.before {s t u : State} {p : Port} {n : Notice} (h : s.Onward t) (k : t.Hands u p n) : s.Hands u p n :=
  fun ho => (k ((h p).2.1 ho)).before (h p).1

theorem State.Hands.after {s t u : State} {p : Port} {n : Notice} (h : s.Hands t p n) (k : t.Onward u) : s.Hands u p n :=
  fun ho => (h ho).after (k p).1

theorem State.Hands.queues {s t : State} {p : Port} {n : Notice} (h : s.Hands t p n) : s.Queues t p n :=
  State.Queues.of_gains h

theorem State.notify_onward (s : State) (a : Audience) (n : Notice) : s.Onward (s.notify a n) :=
  .of_ports (by simp) (s.notify_grows a n)

theorem State.notify_hands {s : State} {a : Audience} {p : Port}
    (h : (s.port p).session = .online → s.receives a p = true) (n : Notice) : s.Hands (s.notify a n) p n :=
  fun ho => State.notify_gains (h ho) n

theorem State.count_onward (s : State) (c : CounterId) : s.Onward (s.count c) := .of_ports (by simp) (s.count_grows c)

theorem State.deliverAll_onward (s : State) (l : List Report) : s.Onward (l.foldl State.deliver s) :=
  .of_ports (by simp) (s.deliverAll_grows l)

theorem State.deliverAll_hands {s : State} {l : List Report} {a : Audience} {n : Notice} {p : Port}
    (h : .notice a n ∈ l) (hr : (s.port p).session = .online → s.receives a p = true) :
    s.Hands (l.foldl State.deliver s) p n :=
  fun ho => State.deliverAll_gains h (hr ho)

theorem State.respond_grows (s : State) (p : Port) (rq : RequestFrame) (st : Status) (res : Result) (q : Port) :
    (s.noticePort q).Grows ((s.respond p rq st res).noticePort q) := by
  cases h : st.isRefusal with
  | true =>
    rw [State.respond_refusal h]
    exact State.count_grows (s.modifyPort p _) _ q
  | false =>
    rw [State.respond_success h]
    exact .refl _

theorem State.respond_onward (s : State) (p : Port) (rq : RequestFrame) (st : Status) (res : Result) :
    s.Onward (s.respond p rq st res) := fun q => by
  rw [State.respond_port]
  refine ⟨s.respond_grows p rq st res q, ?_⟩
  split
  next h => rw [h]; exact ⟨id, rfl⟩
  · exact ⟨id, rfl⟩

theorem State.answerAbort_onward (s : State) (st : Status) (res : Result) (p : Port) :
    s.Onward (s.answerAbort st res p) := by
  unfold State.answerAbort
  split
  · split
    · exact s.respond_onward _ _ _ _
    · exact .refl s
  · exact .refl s

theorem State.answerAborts_onward (s : State) (l : List Port) (st : Status) (res : Result) :
    s.Onward (l.foldl (fun t q => t.answerAbort st res q) s) := by
  induction l generalizing s with
  | nil => exact .refl s
  | cons p rest ih => exact (s.answerAbort_onward st res p).trans (ih _)

theorem State.refuseAborts_onward (s : State) : s.Onward s.refuseAborts :=
  (State.Onward.of_eq (t := s.clearAborts) rfl rfl).trans (s.clearAborts.answerAborts_onward _ _ _)

theorem State.arbitrate_onward (s : State) : s.Onward s.arbitrate := .of_eq (by simp) (by simp)

theorem State.endGrant_onward (s : State) : s.Onward s.endGrant := .of_eq (by simp) (by simp)

/-! ### The finish of a job -/

/-- The JOB_DONE of a job reaches its requester (R98). -/
def State.HandsJobDone (s t : State) (o : JobOutcome) (j : Job) : Prop :=
  ∀ r, j.requester = some r → s.Hands t r (.jobDone o r j.id j.work.kind j.counts.examined j.properCount)

theorem State.HandsJobDone.before {s t u : State} {o : JobOutcome} {j : Job} (h : s.Onward t) (k : t.HandsJobDone u o j) :
    s.HandsJobDone u o j := fun r hr => .before h (k r hr)

theorem State.HandsJobDone.after {s t u : State} {o : JobOutcome} {j : Job} (h : s.HandsJobDone t o j) (k : t.Onward u) :
    s.HandsJobDone u o j := fun r hr => (h r hr).after k

theorem Job.properCount_eq (j : Job) :
    j.properCount = if j.work = .sweep then j.counts.expired else j.counts.removed := by
  unfold Job.properCount
  simp only [JobWork.kind_eq_sweep]

theorem State.HandsJobDone.queues {s t : State} {o : JobOutcome} {j : Job} (h : s.HandsJobDone t o j) :
    s.QueuesJobDone t o j j.counts := fun r hr => by
  rw [← Job.properCount_eq]
  exact (h r hr).queues

theorem State.closeJob_hands (s : State) (o : JobOutcome) (j : Job) : s.HandsJobDone (s.closeJob o j) o j := by
  intro r hr
  unfold State.closeJob State.notifyJobDone
  rw [hr]
  refine State.Hands.before (t := s.recordJob (j.record o)) (.of_eq rfl rfl) (State.notify_hands (fun ho => ?_) _)
  simp [State.receives, State.online, ho]

theorem State.closeJob_onward (s : State) (o : JobOutcome) (j : Job) : s.Onward (s.closeJob o j) := by
  unfold State.closeJob State.notifyJobDone
  have h0 : s.Onward (s.recordJob (j.record o)) := .of_eq rfl rfl
  split
  · exact h0.trans (State.notify_onward _ _ _)
  · exact h0

theorem State.closeJobs_onward (s : State) (l : List Job) :
    s.Onward (l.foldl (fun t c => t.closeJob .cancelled c) s) := by
  induction l generalizing s with
  | nil => exact .refl s
  | cons c rest ih => exact (s.closeJob_onward .cancelled c).trans (ih _)

theorem State.closeJobs_hands (s : State) {l : List Job} {c : Job} (h : c ∈ l) :
    s.HandsJobDone (l.foldl (fun t c => t.closeJob .cancelled c) s) .cancelled c := by
  induction l generalizing s with
  | nil => cases h
  | cons d rest ih =>
    rw [List.foldl_cons]
    rcases List.mem_cons.1 h with rfl | h
    · exact (s.closeJob_hands .cancelled c).after (State.closeJobs_onward _ rest)
    · exact (ih (s.closeJob .cancelled d) h).before (s.closeJob_onward .cancelled d)

theorem State.startHead_onward (s : State) : s.Onward s.startHead := by
  unfold State.startHead
  split
  · split
    · exact (State.Onward.of_eq (s := s) (by rfl) (by rfl)).trans (State.closeJobs_onward _ _)
    · exact .refl s
  · exact .refl s

/-- A next job that is a CLEAR tells the requesters of the jobs that it cancels (R111). -/
theorem State.startHead_hands {s : State} {c : Job} (h : c ∈ cancelledJobs s.maintenance.queue) :
    s.HandsJobDone s.startHead .cancelled c := by
  unfold State.startHead
  cases hq : s.maintenance.queue with
  | nil => rw [hq] at h; cases h
  | cons j rest =>
    rw [hq] at h
    change c ∈ (if j.work = .clear then _ else _) at h
    dsimp only
    by_cases hw : j.work = .clear
    · rw [if_pos hw] at h
      rw [if_pos (JobWork.kind_eq_clear.2 hw)]
      exact (State.closeJobs_hands _ h).before (.of_eq (by rfl) (by rfl))
    · rw [if_neg hw] at h
      cases h

/-- The drain that ends is not one of an ONLINE port. -/
def State.DrainsOffline (s : State) (j : Job) (o : JobOutcome) : Prop :=
  ∀ p, j.drains o = some p → (s.port p).session ≠ .online

theorem State.afterFinish_onward {s : State} {j : Job} {o : JobOutcome} (h : s.DrainsOffline j o) :
    s.Onward (s.afterFinish j o) := by
  have hports := s.afterFinish_ports j o
  have hgrows : ∀ q, (s.noticePort q).Grows ((s.afterFinish j o).noticePort q) := fun q => by
    unfold State.afterFinish State.endDrain
    split
    · exact (s.notify_grows _ _ q).trans (State.count_grows _ _ q)
    · exact State.notify_grows (s.modifyPort _ _) _ _ q
    · split <;> exact .refl _
    · exact .refl _
  cases hd : j.drains o with
  | none => exact .of_ports (by rw [hports, hd]; rfl) hgrows
  | some p =>
    refine fun q => ⟨hgrows q, ?_⟩
    have hq : (s.afterFinish j o).port q = if q = p then { s.port p with session := .offline } else s.port q := by
      rw [State.port, hports, hd]
      exact PerPort.get_set _ _ _ _
    rw [hq]
    split
    next hq => rw [hq]; exact ⟨fun ho => absurd ho (h p hd), rfl⟩
    · exact ⟨id, rfl⟩

theorem Job.record_eq (j : Job) (o : JobOutcome) :
    j.record o = ⟨j.id, j.work, j.requester, o, (j.record o).progress, j.counts⟩ := rfl

/-- The finish of the head job, step by step (R98). -/
theorem State.finishHead_eq {s : State} {j : Job} {rest : List Job} (h : s.maintenance.queue = j :: rest)
    (o : JobOutcome) :
    s.finishHead o = ((((s.withQueue rest).closeJob o j).afterFinish j o).startHead) := by
  simp [State.finishHead, h]

theorem State.finishHead_onward {s : State} {j : Job} {rest : List Job} (h : s.maintenance.queue = j :: rest)
    {o : JobOutcome} (hd : s.DrainsOffline j o) : s.Onward (s.finishHead o) := by
  rw [State.finishHead_eq h]
  have h0 : s.Onward (s.withQueue rest) := .of_eq rfl rfl
  have hports : ((s.withQueue rest).closeJob o j).ports = s.ports := by simp
  refine ((h0.trans (State.closeJob_onward _ o j)).trans (State.afterFinish_onward fun p hp => ?_)).trans
    (State.startHead_onward _)
  rw [State.port, hports]
  exact hd p hp

/-- The JOB_DONE of a job that finishes, and of each job that the next head cancels (R98, R111). -/
structure State.TellsFinish (s t : State) (j : Job) (rest : List Job) (o : JobOutcome) : Prop where
  told : s.HandsJobDone t o j
  cancelled : ∀ c ∈ cancelledJobs rest, s.HandsJobDone t .cancelled c

theorem State.TellsFinish.before {s t u : State} {j : Job} {rest : List Job} {o : JobOutcome} (h : s.Onward t)
    (k : t.TellsFinish u j rest o) : s.TellsFinish u j rest o :=
  ⟨k.told.before h, fun c hc => (k.cancelled c hc).before h⟩

theorem State.TellsFinish.after {s t u : State} {j : Job} {rest : List Job} {o : JobOutcome}
    (h : s.TellsFinish t j rest o) (k : t.Onward u) : s.TellsFinish u j rest o :=
  ⟨h.told.after k, fun c hc => (h.cancelled c hc).after k⟩

theorem State.finishHead_tells {s : State} {j : Job} {rest : List Job} (h : s.maintenance.queue = j :: rest)
    {o : JobOutcome} (hd : s.DrainsOffline j o) : s.TellsFinish (s.finishHead o) j rest o := by
  have h0 : s.Onward (s.withQueue rest) := .of_eq rfl rfl
  have hports : ((s.withQueue rest).closeJob o j).ports = s.ports := by simp
  have hq : (((s.withQueue rest).closeJob o j).afterFinish j o).maintenance.queue = rest := by
    rw [State.afterFinish_maintenance, State.closeJob_maintenance]
    rfl
  have hafter : ((s.withQueue rest).closeJob o j).Onward (((s.withQueue rest).closeJob o j).afterFinish j o) :=
    State.afterFinish_onward fun p hp => by
      rw [State.port, hports]
      exact hd p hp
  rw [State.finishHead_eq h]
  exact ⟨((State.closeJob_hands _ o j).before h0).after (hafter.trans (State.startHead_onward _)),
    fun c hc => (State.startHead_hands (by rw [hq]; exact hc)).before ((h0.trans (State.closeJob_onward _ o j)).trans hafter)⟩

/-- The finish of a job, in the words of the statements: the engine, and everyone that is told. -/
theorem State.TellsFinish.headFinishes {s t : State} {j : Job} {rest : List Job} {o : JobOutcome} {n : Nat}
    {k : JobCounts} (h : s.TellsFinish t { j with cursor := n, counts := k } rest o) {progress : Nat}
    (hm : ∃ l, t.maintenance = { s.maintenance with
      queue := keptJobs rest, abortWaiting := l
      history := historyAfter s.maintenance.history
        (⟨j.id, j.work, j.requester, o, progress, k⟩
          :: (cancelledJobs rest).map (fun c => ⟨c.id, c.work, c.requester, .cancelled, 0, c.counts⟩)) }) :
    s.HeadFinishes t j rest o progress k := by
  obtain ⟨l, hm⟩ := hm
  exact ⟨by rw [hm], h.told.queues, fun c hc => (h.cancelled c hc).queues⟩

end Sys2Proof.Machine
end

section
/-! SUPPORT. The end of a bucket's grant: the cursor advances, or the head job finishes (R95, R98, R103, R114, R152). -/

namespace Sys2Proof.Machine

/-! ### Counters through a finish -/

theorem State.closeJob_counter (s : State) (o : JobOutcome) (j : Job) {d : CounterId}
    (hd : ∀ q, d ≠ .port q .noticesLost) : (s.closeJob o j).counter d = s.counter d := by
  have h0 : (s.recordJob (j.record o)).counter d = s.counter d := by cases d <;> rfl
  unfold State.closeJob State.notifyJobDone
  split
  · rw [State.notify_counter _ _ _ hd, h0]
  · exact h0

theorem State.startHead_counter (s : State) {d : CounterId} (hd : ∀ q, d ≠ .port q .noticesLost) :
    s.startHead.counter d = s.counter d := by
  have jobs : ∀ (l : List Job) (t : State), (l.foldl (fun t c => t.closeJob .cancelled c) t).counter d = t.counter d :=
    fun l => by
      induction l with
      | nil => exact fun t => rfl
      | cons c rest ih => exact fun t => (ih _).trans (t.closeJob_counter .cancelled c hd)
  unfold State.startHead
  split
  · split
    · rw [jobs]
      cases d <;> rfl
    · rfl
  · rfl

theorem State.afterFinish_counter (s : State) (j : Job) (o : JobOutcome) {d : CounterId}
    (hd : ∀ q, d ≠ .port q .noticesLost) : (s.afterFinish j o).counter d
      = if j.work = .sweep ∧ o = .done ∧ d = .device .sweepPasses then s.counter d + 1 else s.counter d := by
  unfold State.afterFinish State.endDrain
  split
  next hw =>
    have hn : (s.notify (.subscribers .sweepDone) (.sweepDone j.id j.counts.examined j.counts.expired)).counter d
        = s.counter d := State.notify_counter _ _ _ hd
    rw [State.count_counter _ _ hd, hn]
    by_cases he : d = .device .sweepPasses
    · subst he
      rw [if_pos rfl, if_pos ⟨hw, rfl, rfl⟩, hn]
    · rw [if_neg he, if_neg fun h => he h.2.2]
  next p c hw =>
    rw [State.notify_counter _ _ _ hd, if_neg fun h => (by rw [hw] at h; cases h.1), State.modifyPort_counter]
  next hw =>
    have hno : ¬ (j.work = .sweep ∧ JobOutcome.done = .done ∧ d = .device .sweepPasses) := fun h => by
      rw [hw] at h
      cases h.1
    rw [if_neg hno]
    by_cases hz : j.id = 0
    · rw [if_pos hz]
      cases d <;> rfl
    · rw [if_neg hz]
  next hw _ _ => rw [if_neg fun h => hw h.1 h.2.1]

theorem State.finishHead_counter {s : State} {j : Job} {rest : List Job} (h : s.maintenance.queue = j :: rest)
    (o : JobOutcome) {d : CounterId} (hd : ∀ q, d ≠ .port q .noticesLost) : (s.finishHead o).counter d
      = if j.work = .sweep ∧ o = .done ∧ d = .device .sweepPasses then s.counter d + 1 else s.counter d := by
  have h0 : ((s.withQueue rest).closeJob o j).counter d = s.counter d :=
    (State.closeJob_counter _ o j hd).trans (by cases d <;> rfl)
  rw [State.finishHead_eq h, State.startHead_counter _ hd, State.afterFinish_counter _ _ _ hd, h0]

/-! ### What a DONE job tells -/

/-- The notice of a DONE job's own kind reaches who subscribes to it (R103, R152). -/
theorem State.finishHead_hands {s : State} {j : Job} {rest : List Job} (h : s.maintenance.queue = j :: rest) {o : JobOutcome}
    {q : Port} {n : Notice}
    (hn : ∀ t : State, t.ports = s.ports → t.Hands (t.afterFinish j o) q n) : s.Hands (s.finishHead o) q n := by
  have h0 : s.Onward (s.withQueue rest) := .of_eq rfl rfl
  have hports : ((s.withQueue rest).closeJob o j).ports = s.ports := by simp
  rw [State.finishHead_eq h]
  exact ((hn _ hports).before (h0.trans (State.closeJob_onward _ o j))).after (State.startHead_onward _)

theorem State.afterFinish_hands_sweep {s : State} {j : Job} (hw : j.work = .sweep) {q : Port}
    (hs : (s.port q).subscriptions.sweepDone = true) :
    s.Hands (s.afterFinish j .done) q (.sweepDone j.id j.counts.examined j.counts.expired) := by
  unfold State.afterFinish
  rw [hw]
  refine (State.notify_hands (fun ho => ?_) _).after (State.count_onward _ _)
  simp [State.receives, State.online, ho, Subscriptions.holds, hs]

theorem State.afterFinish_hands_drain {s : State} {j : Job} {p : Port} {c : LeaveCause} (hw : j.work = .orphan p c)
    {q : Port} (hq : q ≠ p) (hs : (s.port q).subscriptions.portState = true) :
    s.Hands (s.afterFinish j .done) q (.portState p .offline (.left c)) := by
  unfold State.afterFinish State.endDrain
  rw [hw]
  intro ho
  have hport : (s.modifyPort p (fun q => { q with session := .offline })).port q = s.port q := by
    rw [State.port_modifyPort, if_neg hq]
  refine State.notify_hands (s := s.modifyPort p (fun q => { q with session := .offline })) (fun _ => ?_) _
    (by rw [hport]; exact ho)
  simp [State.receives, State.online, State.port_modifyPort, ho, Subscriptions.holds, hs, hq]

/-! ### The end of a bucket -/

theorem State.modifyCounts_onward (s : State) (f : JobCounts → JobCounts) : s.Onward (s.modifyCounts f) :=
  .of_eq (by simp) (by simp)

theorem State.modifyHeadJob_counter (s : State) (f : Job → Job) (d : CounterId) :
    (s.modifyHeadJob f).counter d = s.counter d := by cases d <;> simp [State.counter]

theorem State.endBucket_more {s : State} {j : Job} {rest : List Job} (h : s.maintenance.queue = j :: rest)
    (hm : j.cursor + 1 < 2048) :
    s.endBucket = (s.modifyHeadJob (fun h => { h with cursor := h.cursor + 1 })).stopIfAborted := by
  unfold State.endBucket
  rw [h]
  exact if_neg (by simp only [Config.buckets]; omega)

theorem State.endBucket_last {s : State} {j : Job} {rest : List Job} (h : s.maintenance.queue = j :: rest)
    (hm : 2048 ≤ j.cursor + 1) : s.endBucket = (s.finishHead .done).refuseAborts := by
  unfold State.endBucket
  rw [h]
  exact if_pos (by simpa [Config.buckets] using hm)

theorem State.stopIfAborted_nobody {s : State} (h : s.maintenance.abortWaiting = []) : s.stopIfAborted = s := by
  unfold State.stopIfAborted
  rw [h]
  split
  next hc => cases hc
  · rfl

theorem State.refuseAborts_nobody {s : State} (h : s.maintenance.abortWaiting = []) : s.refuseAborts = s.clearAborts := by
  unfold State.refuseAborts
  rw [h]
  rfl

/-- The slots of a bucket have been processed, and what its operation reported has been delivered. -/
structure State.BucketDone (s u : State) : Prop where
  maintenance : u.maintenance = s.maintenance
  ports : u.ports = s.ports
  ready : u.ready = s.ready
  onward : s.Onward u

theorem Job.drains_done_none {j : Job} (h : ∀ p c, j.work ≠ .orphan p c) : j.drains .done = none := by
  unfold Job.drains
  split
  next p c hw _ => exact absurd hw (h p c)
  · rfl

theorem Job.drains_done_orphan {j : Job} {p : Port} {c : LeaveCause} (h : j.work = .orphan p c) :
    j.drains .done = some p := by
  unfold Job.drains
  rw [h]

/-- A job that drains no ONLINE port when it finishes. -/
theorem State.drainsOffline_of {s : State} {j : Job} (h : ∀ p c, j.work = .orphan p c → (s.port p).session ≠ .online) :
    s.DrainsOffline j .done := fun p hp => by
  unfold Job.drains at hp
  split at hp
  next q c hw _ =>
    cases hp
    exact h p c hw
  · cases hp

/-- The record of a job in the words of the statements. -/
theorem cancelled_records (l : List Job) :
    l.map (fun c => c.record .cancelled)
      = l.map (fun c => (⟨c.id, c.work, c.requester, .cancelled, 0, c.counts⟩ : JobRecord)) := rfl

/-- R95, R98: the end of a bucket's grant for which no ABORT_JOB waits. -/
theorem State.BucketDone.ends {s u : State} (hd : s.BucketDone u) {j : Job} {rest : List Job}
    (hq : s.maintenance.queue = j :: rest) (ha : s.maintenance.abortWaiting = [])
    (hoff : ∀ p c, j.work = .orphan p c → (s.port p).session ≠ .online)
    (hpass : u.counter (.device .sweepPasses) = s.counter (.device .sweepPasses)) (k : JobCounts) :
    s.BucketEnds (u.modifyCounts (fun _ => k)).endBucket.endGrant j rest k := by
  have hm := State.modifyCounts_maintenance (hd.maintenance.symm ▸ hq) (fun _ => k)
  have hports : (u.modifyCounts (fun _ => k)).ports = s.ports := by simpa using hd.ports
  have hready : (u.modifyCounts (fun _ => k)).ready = s.ready := by simpa using hd.ready
  have hon := hd.onward.trans (u.modifyCounts_onward (fun _ => k))
  have hcount : (u.modifyCounts (fun _ => k)).counter (.device .sweepPasses) = s.counter (.device .sweepPasses) :=
    (State.modifyHeadJob_counter _ _ _).trans hpass
  rw [hd.maintenance] at hm
  generalize u.modifyCounts (fun _ => k) = w at hm hports hready hon hcount
  have hwq : w.maintenance.queue = { j with counts := k } :: rest := by rw [hm]
  have hport : ∀ q, w.port q = s.port q := fun q => by rw [State.port, hports, State.port]
  by_cases hlast : 2048 ≤ j.cursor + 1
  · have hdr : w.DrainsOffline { j with counts := k } .done := State.drainsOffline_of fun p c h => by
      rw [hport]
      exact hoff p c h
    have haw : (w.finishHead .done).maintenance.abortWaiting = [] := by
      rw [State.finishHead_maintenance hwq, hm]
      exact ha
    rw [State.endBucket_last hwq hlast, State.refuseAborts_nobody haw]
    have hclear : (w.finishHead .done).Onward (w.finishHead .done).clearAborts.endGrant :=
      (State.Onward.of_eq (by rfl) (by rfl)).trans (State.endGrant_onward _)
    refine ⟨fun h => absurd hlast (by omega), fun _ => ⟨?_, ?_, ?_⟩, fun h => ?_, fun _ p c hw => ⟨?_, ?_, fun q hqp hs => ?_⟩,
      fun _ hw => ⟨fun q hs => ?_, ?_⟩, fun h => ?_⟩
    · refine State.TellsFinish.headFinishes (n := j.cursor)
        (((State.finishHead_tells hwq hdr).before hon).after hclear) ⟨[], ?_⟩
      simp only [State.endGrant_frame, State.clearAborts, State.withMaintenance_maintenance,
        State.finishHead_maintenance hwq, hm]
      rfl
    · simp [State.clearAborts]
    · simp only [State.endGrant_frame, State.clearAborts, State.withMaintenance_ready, State.finishHead_ready hwq, hready,
        decide_true, Bool.true_and]
    · have hno : ∀ p c, j.work ≠ .orphan p c := h.resolve_left (by omega)
      simp only [State.endGrant_frame, State.clearAborts, State.withMaintenance_ports, State.finishHead_ports hwq, hports]
      rw [Job.drains_done_none (j := { j with counts := k }) hno]
      rfl
    · have hp : (w.finishHead .done).clearAborts.endGrant.ports = s.ports.afterDrain (some p) := by
        simp only [State.endGrant_frame, State.clearAborts, State.withMaintenance_ports, State.finishHead_ports hwq, hports]
        rw [Job.drains_done_orphan (j := { j with counts := k }) hw]
      exact State.port_of_set hp
    · have hp : (w.finishHead .done).clearAborts.endGrant.ports = s.ports.afterDrain (some p) := by
        simp only [State.endGrant_frame, State.clearAborts, State.withMaintenance_ports, State.finishHead_ports hwq, hports]
        rw [Job.drains_done_orphan (j := { j with counts := k }) hw]
      exact State.OtherPorts.of_set hp
    · refine State.Hands.queues (((State.finishHead_hands hwq fun t ht => ?_).before hon).after hclear)
      refine State.afterFinish_hands_drain (j := { j with counts := k }) hw hqp ?_
      rwa [State.port, ht, ← State.port, hport]
    · refine State.Hands.queues (((State.finishHead_hands hwq fun t ht => ?_).before hon).after hclear)
      refine State.afterFinish_hands_sweep (j := { j with counts := k }) hw ?_
      rwa [State.port, ht, ← State.port, hport]
    · rw [State.endGrant_counter]
      change (w.finishHead .done).counter (.device .sweepPasses) = _
      rw [State.finishHead_counter hwq _ (by simp), if_pos ⟨hw, rfl, rfl⟩, hcount]
    · have hw : j.work ≠ .sweep := h.resolve_left (by omega)
      rw [State.endGrant_counter]
      change (w.finishHead .done).counter (.device .sweepPasses) = _
      rw [State.finishHead_counter hwq _ (by simp), if_neg fun h => hw h.1, hcount]
  · have hmore : j.cursor + 1 < 2048 := by omega
    have hm2 := State.modifyHeadJob_maintenance hwq (fun h => { h with cursor := h.cursor + 1 })
    have haw : (w.modifyHeadJob (fun h => { h with cursor := h.cursor + 1 })).maintenance.abortWaiting = [] := by
      rw [hm2, hm]
      exact ha
    rw [State.endBucket_more hwq hmore, State.stopIfAborted_nobody haw]
    refine ⟨fun _ => ⟨?_, ?_⟩, fun h => absurd h hlast, fun _ => ?_, fun h => absurd h hlast, fun h => absurd h hlast,
      fun _ => ?_⟩
    · simp only [State.endGrant_frame, hm2, hm]
    · simpa using hready
    · simpa using hports
    · rw [State.endGrant_counter, State.modifyHeadJob_counter, hcount]

end Sys2Proof.Machine
end

section
/-! SUPPORT. A bucket's grant run to its end (R95), and ABORT_JOB (R113, R114): at once, at the end of a bucket's grant, and of
a job that waits. -/

namespace Sys2Proof.Machine

/-! ### A bucket's grant, run whole -/

/-- The row of a bucket whose grant is in progress: the bucket is processed if it is not yet, and the grant goes on (R95). -/
theorem BucketAct.exec_cases {s : State} {g : Grant} {j : Job} {rest : List Job} {c : Instr} {u : Option Nat}
    {f : Nat → State → State} (hg : s.grant = some g) (hc : g.client = .maintenance)
    (hq : s.maintenance.queue = j :: rest) (h : BucketAct g.view j c u f) :
    exec c s = .next ((if g.begun then s else s.actBucket j f).advance u) := by
  have run : ∀ {row : View → Job → Option (Nat → State → State)}, row g.view j = some f →
      runBucket s u row = .next ((if g.begun then s else s.actBucket j f).advance u) := fun hf => runBucket_eq hg hc hq hf
  cases h with
  | sweep g hw =>
    simp only [exec, execSweepBucket]
    exact run (by rw [hw])
  | purge g x hw =>
    simp only [exec, execPurgeBucket]
    exact run (by rw [hw])
  | rewrite g hw hid =>
    simp only [exec, execBucketRewrite]
    exact run (by rw [hw]; exact if_neg hid)
  | orphan g p d hw =>
    simp only [exec, execOrphanBucket]
    exact run (by rw [hw])
  | startup g hw hid =>
    simp only [exec, execStartupClearBucket]
    exact run (by rw [hw]; exact if_pos hid)

/-- The row of a bucket in a fresh grant (R95). -/
theorem BucketAct.exec_eq {s : State} {v : View} {j : Job} {rest : List Job} {c : Instr} {u : Option Nat}
    {f : Nat → State → State} (hg : s.grant = some (.fresh .maintenance v)) (hq : s.maintenance.queue = j :: rest)
    (h : BucketAct v j c u f) : exec c s = .next ((s.actBucket j f).advance u) :=
  BucketAct.exec_cases hg rfl hq h

/-- An operation has made `t` of `s`, and `u` is the state once its reports `l` are delivered: the directory, the domains and
the transfers are those of `t`, and the reports have gone to the other units of `s`. -/
structure State.Delivered (s t u : State) (l : List Report) : Prop where
  directory : u.directory = t.directory
  domains : u.domains = t.domains
  transfers : u.transfers = t.transfers
  counter : ∀ d, (∀ q, d ≠ .port q .noticesLost) → u.counter d = s.counter d + BitVec.ofNat 32 (l.count (.count d))
  hands : ∀ a n q, .notice a n ∈ l → ((s.port q).session = .online → s.receives a q = true) → s.Hands u q n

/-- The whole of a bucket's grant: its slots, its reports, its end (R15, R95). -/
theorem BucketAct.runs {s t : State} {v : View} {j : Job} {rest : List Job} {c : Instr} {f : Nat → State → State}
    (hg : s.grant = some (.fresh .maintenance v)) (hq : s.maintenance.queue = j :: rest) (h : BucketAct v j c none f)
    (ht : s.overSlots f (bucketSlots j.cursor) = t) :
    ∃ u l, t.grant = some ⟨.maintenance, v, l, none⟩ ∧ s.BucketDone u ∧ s.Delivered t u l
      ∧ exec c s = .next (u.modifyCounts (fun _ => t.maintenance.headCounts)).endBucket.endGrant := by
  have hb := s.overSlots_actsInBucket h.actsInBucket (bucketSlots j.cursor)
  have hm := State.actBucket_maintenance hq h
  obtain ⟨l, hl⟩ := hb.reports
  rw [ht] at hb hl
  have htg : t.grant = some ⟨.maintenance, v, l, none⟩ := by simp [hl, hg, Grant.fresh]
  have hact : s.actBucket j f
      = (t.modifyCounts (fun _ => j.counts)).acted (.bucket t.maintenance.headCounts) := by
    rw [State.actBucket, ht]
  have hgrant : (s.actBucket j f).grant = some ⟨.maintenance, v, l, some (.bucket t.maintenance.headCounts)⟩ := by
    rw [hact]
    simp [htg]
  have hfr : ∀ x ∉ [Part.directory, .domains, .transfers, .arbiter, .maintenance], s.Same (s.actBucket j f) x := by
    intro x hx
    have := hb.frame x hx
    rw [hact]
    cases x <;> simp [State.Same] at hx this ⊢ <;> assumption
  have hdir : (s.actBucket j f).directory = t.directory ∧ (s.actBucket j f).domains = t.domains
      ∧ (s.actBucket j f).transfers = t.transfers := by
    rw [hact]
    simp
  have hrun := BucketAct.exec_eq hg hq h
  rw [State.advance_none hgrant rfl] at hrun
  generalize s.actBucket j f = w at hm hgrant hfr hdir hrun
  have hports : w.ports = s.ports := hfr .ports (by simp)
  have hnotices : w.notices = s.notices := hfr .notices (by simp)
  have hon : s.Onward w := .of_eq hports hnotices
  refine ⟨_, l, htg, ⟨?_, ?_, ?_, ?_⟩, ⟨?_, ?_, ?_, fun d hd => ?_, fun a n q hn hr => ?_⟩, hrun⟩
  · simpa using hm
  · simpa using hports
  · rw [State.withGrant_ready, (State.deliverAll_frame w l).2.1]
    exact hfr .ready (by simp)
  · exact (hon.trans (w.deliverAll_onward l)).trans (.of_eq rfl rfl)
  · simpa using hdir.1
  · simpa using hdir.2.1
  · simpa using hdir.2.2
  · have hc : w.counter d = s.counter d := by
      cases d with
      | port p n => simp [State.counter, show w.portCounters = s.portCounters from hfr .portCounters (by simp)]
      | device n => simp [State.counter, show w.deviceCounters = s.deviceCounters from hfr .deviceCounters (by simp)]
    rw [← hc]
    exact w.deliverAll_counter l hd
  · refine State.Hands.after (State.Hands.before hon (State.deliverAll_hands hn fun ho => ?_)) (.of_eq rfl rfl)
    rw [State.receives_congr hports]
    rw [State.port, hports] at ho
    exact hr ho

/-! ### ABORT_JOB at once -/

/-- ABORT_JOB that does not wait is answered at once (R113). -/
theorem exec_abortJob {s u : State} {p : Port} {rq : RequestFrame} {id : Nat} {st : Status} {res : Result}
    (he : (s.port p).executor = .busy rq) (hb : rq.body = .abortJob id) (hc : commonCheck s.view p rq.body = none)
    (hp : p ∉ s.maintenance.abortWaiting) (hw : s.abortWaits p rq id = false) (hr : abortReply id s = ⟨u, st, res⟩) :
    exec (.abortJob p) s = .next (u.respond p rq st res).arbitrate := by
  change execAbortJob p s = _
  have hcon : ¬ s.maintenance.abortWaiting.contains p = true := by simpa using hp
  rw [execAbortJob, if_neg hcon]
  simp only [he, hb, hw, Bool.false_eq_true, if_false]
  rw [State.answer_passed hc, hr]

/-- ABORT_JOB waits exactly for a bucket grant of the head job it names (R114). -/
theorem State.abortWaits_iff {s : State} {p : Port} {rq : RequestFrame} {id : Nat}
    (hc : commonCheck s.view p rq.body = none) : s.abortWaits p rq id = true
      ↔ (s.grantOf .maintenance).isSome = true
        ∧ ∃ j rest, s.maintenance.queue = j :: rest ∧ j.id = id ∧ j.abortable = true := by
  unfold State.abortWaits
  rw [hc]
  cases s.maintenance.queue <;> simp

theorem State.grantOf_isSome {s : State} {c : Client} :
    (s.grantOf c).isSome = true ↔ ∃ g, s.grant = some g ∧ g.client = c := by
  simp only [Option.isSome_iff_exists, State.grantOf_eq_some]

theorem Job.abortable_iff {j : Job} : j.abortable = true ↔ j.work.kind ≠ .orphan ∧ j.id ≠ 0 := by
  simp [Job.abortable]

theorem State.finishHead_aborted_changes (s : State) :
    s.ChangesOnly (s.finishHead .aborted) [.maintenance, .notices, .portCounters] := by
  cases hq : s.maintenance.queue with
  | nil =>
    rw [show s.finishHead .aborted = s by simp [State.finishHead, hq]]
    exact .refl s _
  | cons j rest =>
    have hafter : ∀ t : State, t.afterFinish j .aborted = t := fun t => by
      unfold State.afterFinish
      cases j.work <;> rfl
    rw [State.finishHead_eq hq, hafter]
    intro x hx
    cases x <;> simp [State.Same] at hx ⊢

/-- The list of waiting jobs, without the one that is named. -/
theorem erase_middle {l m : List Job} {k : Job} (h : ∀ c ∈ l, c.id ≠ k.id) : (l ++ k :: m).erase k = l ++ m := by
  rw [List.erase_append_right _ fun hk => h k hk rfl, List.erase_cons_head]

theorem find_middle {l m : List Job} {k : Job} {id : Nat} (h : ∀ c ∈ l, c.id ≠ id) (hk : k.id = id) :
    (l ++ k :: m).find? (fun c => decide (c.id = id)) = some k := by
  rw [List.find?_append, List.find?_eq_none.2 fun c hc => by simpa using h c hc]
  simp [hk]

theorem abortReply_invalid {s : State} {id : Nat}
    (h : id = 0 ∨ ∀ k ∈ s.maintenance.queue, k.id = id → k.work.kind = .orphan) :
    abortReply id s = ⟨s, .invalid, .none⟩ := by
  have hno : ∀ k ∈ s.maintenance.queue, k.id = id → ¬ k.abortable = true := fun k hk hid ha => by
    obtain ⟨h1, h2⟩ := Job.abortable_iff.1 ha
    exact h.elim (fun h0 => h2 (hid.trans h0)) fun ho => h1 (ho k hk hid)
  unfold abortReply
  split
  · rfl
  next j rest hq =>
    rw [hq] at hno
    split
    next hid => rw [if_neg (hno j List.mem_cons_self hid)]; rfl
    · split
      next w hw =>
        have hid : w.id = id := by simpa using List.find?_some hw
        rw [if_neg (hno w (List.mem_cons_of_mem _ (List.mem_of_find?_eq_some hw)) hid)]
        rfl
      · rfl

/-! ### ABORT_JOB at the end of a bucket's grant -/

theorem State.answerAbort_busy {s : State} {p : Port} {rq : RequestFrame} {id : Nat}
    (he : (s.port p).executor = .busy rq) (hb : rq.body = .abortJob id) (st : Status) (res : Result) :
    s.answerAbort st res p = s.respond p rq st res := by
  unfold State.answerAbort
  rw [he]
  dsimp only
  rw [hb]

theorem State.Answers.of_ports {s t u : State} {p : Port} {rq : RequestFrame} {st : Status} {res : Result}
    (h : s.Answers t p rq st res) (hp : u.ports = t.ports) : s.Answers u p rq st res := by
  have : ∀ q, u.port q = t.port q := fun q => by rw [State.port, hp, State.port]
  exact ⟨by rw [this]; exact h.1, fun q hq => by rw [this]; exact h.2 q hq⟩

/-- R114: the job stops at the end of the bucket's grant, past its bucket. -/
theorem State.endBucket_stops {s w : State} {j : Job} {rest : List Job} {k : JobCounts} {p : Port} {rq : RequestFrame}
    {id : Nat} (hm : w.maintenance = { s.maintenance with queue := { j with counts := k } :: rest })
    (hp : w.ports = s.ports) (hon : s.Onward w) (ha : s.maintenance.abortWaiting = [p]) (hj : j.abortable = true)
    (he : (s.port p).executor = .busy rq) (hb : rq.body = .abortJob id) (hmore : j.cursor + 1 < 2048) :
    w.endBucket.endGrant.maintenance.abortWaiting = []
      ∧ s.Answers w.endBucket.endGrant p rq .ok (.stopped j.id (j.cursor + 1) k)
      ∧ s.HeadFinishes w.endBucket.endGrant j rest .aborted (j.cursor + 1) k := by
  have hwq : w.maintenance.queue = { j with counts := k } :: rest := by rw [hm]
  have hm2 := State.modifyHeadJob_maintenance hwq (fun h => { h with cursor := h.cursor + 1 })
  rw [State.endBucket_more hwq hmore]
  have hports : (w.modifyHeadJob (fun h => { h with cursor := h.cursor + 1 })).ports = s.ports := by simpa using hp
  have hon2 : s.Onward (w.modifyHeadJob (fun h => { h with cursor := h.cursor + 1 })) :=
    hon.trans (.of_eq (by simp) (by simp))
  generalize w.modifyHeadJob (fun h => { h with cursor := h.cursor + 1 }) = x at hm2 hports hon2
  rw [hm] at hm2
  have hxq : x.clearAborts.maintenance.queue = { j with cursor := j.cursor + 1, counts := k } :: rest := by
    simp [State.clearAborts, hm2]
  have hxp : (x.clearAborts.finishHead .aborted).ports = s.ports := by
    rw [State.finishHead_ports hxq, Job.drains_aborted]
    exact hports
  have hexec : ((x.clearAborts.finishHead .aborted).port p).executor = .busy rq := by rw [State.port, hxp]; exact he
  have hstop : x.stopIfAborted = (x.clearAborts.finishHead .aborted).respond p rq .ok (.stopped j.id (j.cursor + 1) k) := by
    unfold State.stopIfAborted
    rw [show x.maintenance.queue = { j with cursor := j.cursor + 1, counts := k } :: rest by rw [hm2],
      show x.maintenance.abortWaiting = [p] by rw [hm2]; exact ha]
    dsimp only
    rw [if_pos (by exact hj), List.foldl_nil, State.answerAbort_busy hexec hb]
  have hdr : x.clearAborts.DrainsOffline { j with cursor := j.cursor + 1, counts := k } .aborted := fun q hq => by
    rw [Job.drains_aborted] at hq
    cases hq
  rw [hstop]
  refine ⟨?_, (State.respond_answers hxp p rq _ _).endGrant, State.TellsFinish.headFinishes (n := j.cursor + 1)
    (((State.finishHead_tells hxq hdr).before (hon2.trans (.of_eq (by rfl) (by rfl)))).after
      ((State.respond_onward _ _ _ _ _).trans (State.endGrant_onward _))) ⟨[], ?_⟩⟩
  · simp only [State.endGrant_frame, State.respond_frame, State.finishHead_maintenance hxq]
    rfl
  · simp only [State.endGrant_frame, State.respond_frame, State.finishHead_maintenance hxq]
    simp only [State.clearAborts, State.withMaintenance_maintenance, hm2]
    rfl

/-- R114: a job that finishes DONE at the end of the bucket's grant leaves its ABORT_JOB INVALID. -/
theorem State.endBucket_refuses {s w : State} {j : Job} {rest : List Job} {k : JobCounts} {p : Port} {rq : RequestFrame}
    {id : Nat} (hm : w.maintenance = { s.maintenance with queue := { j with counts := k } :: rest })
    (hp : w.ports = s.ports) (hon : s.Onward w) (ha : s.maintenance.abortWaiting = [p])
    (hj : ∀ q c, j.work ≠ .orphan q c)
    (he : (s.port p).executor = .busy rq) (hb : rq.body = .abortJob id) (hlast : 2048 ≤ j.cursor + 1) :
    w.endBucket.endGrant.maintenance.abortWaiting = []
      ∧ s.Answers w.endBucket.endGrant p rq .invalid .none
      ∧ s.HeadFinishes w.endBucket.endGrant j rest .done 2048 k := by
  have hwq : w.maintenance.queue = { j with counts := k } :: rest := by rw [hm]
  rw [State.endBucket_last hwq hlast]
  have hdone : Job.drains { j with counts := k } .done = none := Job.drains_done_none hj
  have hxp : (w.finishHead .done).clearAborts.ports = s.ports := by
    change (w.finishHead .done).ports = s.ports
    rw [State.finishHead_ports hwq, hdone]
    exact hp
  have hexec : ((w.finishHead .done).clearAborts.port p).executor = .busy rq := by rw [State.port, hxp]; exact he
  have hfm := State.finishHead_maintenance hwq .done
  have hstop : (w.finishHead .done).refuseAborts = (w.finishHead .done).clearAborts.respond p rq .invalid .none := by
    unfold State.refuseAborts
    rw [show (w.finishHead .done).maintenance.abortWaiting = [p] by rw [hfm, hm]; exact ha, List.foldl_cons, List.foldl_nil,
      State.answerAbort_busy hexec hb]
  have hdr : w.DrainsOffline { j with counts := k } .done := fun q hq => by
    rw [hdone] at hq
    cases hq
  rw [hstop]
  refine ⟨?_, (State.respond_answers hxp p rq _ _).endGrant, State.TellsFinish.headFinishes (n := j.cursor)
    (((State.finishHead_tells hwq hdr).before hon).after
      (((State.Onward.of_eq (by rfl) (by rfl)).trans (State.respond_onward _ _ _ _ _)).trans (State.endGrant_onward _)))
    ⟨[], ?_⟩⟩
  · simp [State.clearAborts]
  · simp only [State.endGrant_frame, State.respond_frame, State.clearAborts, State.withMaintenance_maintenance, hfm, hm]
    rfl

/-- Settles O50: at once between grants, at the end of a bucket's grant, and by the queue. -/
theorem abortJobStopsOrCancels : Obligations.AbortJobStopsOrCancels := by
  unfold Obligations.AbortJobStopsOrCancels
  intro s p rq id he hb hj
  refine ⟨fun j rest hc hp hg hq hid h0 hk => ?_, fun g j rest hc hp hg hcl hq hid h0 hk => ?_,
    fun v j rest failing c hg hq h0 ha hw => ?_, fun j k l m hc hp hq hid h0 hk => ?_, fun hc hp hno => ?_⟩
  · have hab : j.abortable = true := Job.abortable_iff.2 ⟨hk, hid ▸ h0⟩
    have hw : s.abortWaits p rq id = false := by
      rw [← Bool.not_eq_true, State.abortWaits_iff hc, State.grantOf_isSome]
      rintro ⟨⟨g, hg', hgc⟩, -⟩
      exact hg g hg' hgc
    have hr : abortReply id s = ⟨s.finishHead .aborted, .ok, .stopped id j.cursor j.counts⟩ := by
      simp [abortReply, hq, hid, hab]
    have hfp : (s.finishHead .aborted).ports = s.ports := s.finishHead_aborted_changes .ports (by simp)
    have hdr : s.DrainsOffline j .aborted := fun q hq => by
      rw [Job.drains_aborted] at hq
      cases hq
    refine ⟨_, exec_abortJob he hb hc hp hw hr, (State.respond_answers hfp p rq _ _).arbitrate,
      State.TellsFinish.headFinishes (n := j.cursor) ((State.finishHead_tells hq hdr).after
        ((State.respond_onward _ _ _ _ _).trans (State.arbitrate_onward _))) ⟨s.maintenance.abortWaiting, ?_⟩, ?_,
      (State.success_changes s.finishHead_aborted_changes rfl p rq _).mono (by simp)⟩
    · simp only [State.arbitrate_frame, State.respond_frame, State.finishHead_maintenance hq]
      rfl
    · simp only [State.arbitrate_frame, State.respond_frame, State.finishHead_maintenance hq]
  · have hab : j.abortable = true := Job.abortable_iff.2 ⟨hk, hid ▸ h0⟩
    have hw : s.abortWaits p rq id = true :=
      (State.abortWaits_iff hc).2 ⟨State.grantOf_isSome.2 ⟨g, hg, hcl⟩, j, rest, hq, hid, hab⟩
    refine ⟨s.addAbort p, ?_, rfl, fun x hx => by cases x <;> simp [State.Same, State.addAbort] at hx ⊢⟩
    change execAbortJob p s = _
    have hcon : ¬ s.maintenance.abortWaiting.contains p = true := by simpa using hp
    rw [execAbortJob, if_neg hcon]
    simp only [he, hb, hw, if_true]
  · have hno : ∀ q d, j.work ≠ .orphan q d := fun q d hd => by
      rcases hw with ⟨hw, -⟩ | ⟨f, hw, -⟩ | ⟨hw, -⟩ <;> rw [hw] at hd <;> cases hd
    obtain ⟨f, hact⟩ : ∃ f, BucketAct v j c none f := by
      rcases hw with ⟨hw, rfl⟩ | ⟨x, hw, rfl⟩ | ⟨hw, rfl⟩
      · exact ⟨_, .sweep ⟨failing, none⟩ hw⟩
      · exact ⟨_, .purge ⟨failing, none⟩ x hw⟩
      · exact ⟨_, .rewrite ⟨failing, none⟩ hw h0⟩
    have hab : j.abortable = true := Job.abortable_iff.2 ⟨JobWork.kind_ne_orphan.2 hno, h0⟩
    obtain ⟨u, l, -, hd, -, hrun⟩ := hact.runs hg hq rfl
    have hm := State.modifyCounts_maintenance (hd.maintenance.symm ▸ hq)
      (fun _ => (s.overSlots f (bucketSlots j.cursor)).maintenance.headCounts)
    rw [hd.maintenance] at hm
    generalize (s.overSlots f (bucketSlots j.cursor)).maintenance.headCounts = n at hm hrun
    have hports : (u.modifyCounts (fun _ => n)).ports = s.ports := by simpa using hd.ports
    have hon := hd.onward.trans (u.modifyCounts_onward (fun _ => n))
    by_cases hlast : 2048 ≤ j.cursor + 1
    · obtain ⟨haw, hans, hfin⟩ := State.endBucket_refuses hm hports hon ha hno he hb hlast
      exact ⟨_, n, hrun, haw, fun h => absurd hlast (by omega), fun _ => ⟨hans, hfin⟩⟩
    · obtain ⟨haw, hans, hfin⟩ := State.endBucket_stops hm hports hon ha hab he hb (by omega)
      exact ⟨_, n, hrun, haw, fun _ => ⟨hans, hfin⟩, fun h => absurd h hlast⟩
  · have hids := hj.ids
    rw [hq] at hids
    have hne : ∀ c ∈ j :: l, c.id ≠ k.id := fun c hc' he' => by
      rw [List.map_append, List.map_cons, List.nodup_append] at hids
      exact hids.2.2 c.id (List.mem_map_of_mem hc') k.id List.mem_cons_self he'
    have hab : k.abortable = true := Job.abortable_iff.2 ⟨hk, hid ▸ h0⟩
    have hjk : j.id ≠ id := hid ▸ hne j List.mem_cons_self
    have hlk : ∀ c ∈ l, c.id ≠ k.id := fun c hc' => hne c (List.mem_cons_of_mem _ hc')
    have hw : s.abortWaits p rq id = false := by
      rw [← Bool.not_eq_true, State.abortWaits_iff hc]
      rintro ⟨-, j', rest, hq', hid', -⟩
      rw [hq] at hq'
      cases hq'
      exact hjk hid'
    have hr : abortReply id s
        = ⟨(s.withQueue (j :: l ++ m)).closeJob .cancelled k, .ok, .cancelled id⟩ := by
      unfold abortReply
      rw [hq]
      dsimp only [List.cons_append]
      rw [if_neg hjk, find_middle (fun c hc' => hid ▸ hlk c hc') hid]
      dsimp only
      rw [if_pos hab, erase_middle hlk]
    have hon : s.Onward (s.withQueue (j :: l ++ m)) := .of_eq rfl rfl
    refine ⟨_, exec_abortJob he hb hc hp hw hr, (State.respond_answers (by simp) p rq _ _).arbitrate, ?_,
      (State.HandsJobDone.after ((State.closeJob_hands _ .cancelled k).before hon)
        ((State.respond_onward _ _ _ _ _).trans (State.arbitrate_onward _))).queues,
      (State.success_changes (l := [.maintenance, .notices, .portCounters]) (fun x hx => ?_) rfl p rq _).mono (by simp)⟩
    · simp only [State.arbitrate_frame, State.respond_frame, State.closeJob_maintenance]
      rw [← hid]
      rfl
    · cases x <;> simp [State.Same] at hx ⊢
  · have hw : s.abortWaits p rq id = false := by
      rw [← Bool.not_eq_true, State.abortWaits_iff hc]
      rintro ⟨-, j, rest, hq, hid, hab⟩
      obtain ⟨h1, h2⟩ := Job.abortable_iff.1 hab
      exact hno.elim (fun h0 => h2 (hid.trans h0)) fun ho => h1 (ho j (by rw [hq]; exact List.mem_cons_self) hid)
    exact ⟨_, exec_abortJob he hb hc hp hw (abortReply_invalid hno), (State.respond_answers rfl p rq _ _).arbitrate,
      (s.respond_arbitrate_changes p rq _ _).mono (by simp)⟩

end Sys2Proof.Machine
end

section
/-! SUPPORT. The read-only requests of the configuration and the SETTING_SET rows (chapters 03, 05, 09, 10). -/

namespace Sys2Proof.Machine

/-! ### What a report finds -/

theorem sessionReadingOf_codes {c : CounterId} {a b : Nat} (h : c.codes = (a, b)) : sessionReadingOf a b = none := by
  cases c with
  | port p n =>
    cases h
    cases n <;> simp [sessionReadingOf, PortCounter.code]
  | device n =>
    cases h
    cases n <;> simp [sessionReadingOf, DeviceCounter.code]

theorem orphanJobOf_unique {l : List Job} {q : Port} {j : Job} {c : LeaveCause} (h : orphansIn l q ≤ 1) (hj : j ∈ l)
    (hw : j.work = .orphan q c) : orphanJobOf q l = some (j.id, c) := by
  induction l with
  | nil => cases hj
  | cons k rest ih =>
    rw [orphansIn_cons] at h
    rcases List.mem_cons.1 hj with rfl | hj
    · simp [orphanJobOf, hw]
    · have hpos : 1 ≤ orphansIn rest q := List.countP_pos_iff.2 ⟨j, hj, by simp [Job.orphanFor, hw]⟩
      have hk : k.orphanFor q = false := by
        by_contra hk
        rw [if_pos (by simpa using hk)] at h
        omega
      have hrest := ih (by omega) hj
      unfold orphanJobOf
      split
      next t d hwk =>
        have ht : t ≠ q := by simpa [Job.orphanFor, hwk] using hk
        rw [if_neg ht]
        exact hrest
      all_goals exact hrest

/-- With distinct ids, the job found is the job with the id (R93). -/
theorem findJob_of_mem {l : List Job} (h : (l.map Job.id).Nodup) {k : Job} (hk : k ∈ l) : findJob l k.id = some k := by
  induction l with
  | nil => cases hk
  | cons j rest ih =>
    rw [List.map_cons, List.nodup_cons] at h
    obtain ⟨hj, hrest⟩ := h
    unfold findJob
    rw [List.find?_cons]
    rcases List.mem_cons.1 hk with rfl | hk
    · simp
    · have hne : j.id ≠ k.id := fun he => hj (he ▸ List.mem_map_of_mem hk)
      have hd : decide (j.id = k.id) = false := by simpa using hne
      rw [hd]
      exact ih hrest hk

theorem findJob_eq_none {l : List Job} {id : Nat} (h : ∀ k ∈ l, k.id ≠ id) : findJob l id = none :=
  List.find?_eq_none.2 fun k hk => by simpa using h k hk

/-- R100: the newest record of the history that carries the id. -/
theorem Maintenance.reportHistory_newest {m : Maintenance} {l r : List JobRecord} {h : JobRecord} {id : Nat}
    (hm : m.history = l ++ h :: r) (hid : h.id = id) (hr : ∀ g ∈ r, g.id ≠ id) : m.reportHistory id = .finished h := by
  have hfind : m.history.reverse.find? (fun r => decide (r.id = id)) = some h := by
    rw [hm, List.reverse_append, List.reverse_cons, List.append_assoc, List.find?_append,
      List.find?_eq_none.2 fun g hg => by simpa using hr g (List.mem_reverse.1 hg)]
    simp [hid]
  simp [Maintenance.reportHistory, hfind]

theorem Maintenance.reportHistory_unknown {m : Maintenance} {id : Nat} (h : ∀ r ∈ m.history, r.id ≠ id) :
    m.reportHistory id = .unknown := by
  have hfind : m.history.reverse.find? (fun r => decide (r.id = id)) = none :=
    List.find?_eq_none.2 fun r hr => by simpa using h r (List.mem_reverse.1 hr)
  simp [Maintenance.reportHistory, hfind]

theorem Maintenance.report_absent {m : Maintenance} {id : Nat} (h : ∀ k ∈ m.queue, k.id ≠ id) :
    m.report id = m.reportHistory id := by
  unfold Maintenance.report
  split
  · rfl
  next j rest hq =>
    rw [hq] at h
    rw [if_neg (h j List.mem_cons_self), findJob_eq_none fun k hk => h k (List.mem_cons_of_mem _ hk)]

theorem Maintenance.report_waiting {m : Maintenance} (h : (m.queue.map Job.id).Nodup) {k : Job} (hk : k ∈ m.queue.tail) :
    m.report k.id = .queued false 0 k := by
  unfold Maintenance.report
  split
  next hq => rw [hq] at hk; cases hk
  next j rest hq =>
    rw [hq, List.map_cons, List.nodup_cons] at h
    rw [hq] at hk
    obtain ⟨hj, hrest⟩ := h
    have hne : j.id ≠ k.id := fun he => hj (he ▸ List.mem_map_of_mem hk)
    rw [if_neg hne, findJob_of_mem hrest hk]

/-- Settles O51: each report is a success of the state as it was. -/
theorem reportsChangeNothing : Obligations.ReportsChangeNothing := by
  unfold Obligations.ReportsChangeNothing
  intro s p rq
  have answers : ∀ st res, s.Answers (s.respond p rq st res).arbitrate p rq st res := fun st res =>
    (State.respond_answers rfl p rq st res).arbitrate
  have changes : ∀ res, s.ChangesOnly (s.respond p rq .ok res).arbitrate [.arbiter, .ports] := fun res =>
    State.success_arbitrate_changes rfl s p rq res
  refine ⟨fun v d hin hb => ?_, fun id hin hb => ?_, fun a b hin hb => ⟨fun c hc => ?_, fun q hq => ?_⟩,
    fun id hin hb hj => ?_⟩
  · refine ⟨(s.respond p rq .ok (.domain (s.domain (asDomain d)))).endGrant, ?_, (State.respond_answers rfl p rq _ _).endGrant,
      State.success_endGrant_changes rfl s p rq _⟩
    change execDomainGet p s = _
    exact hin.runs (act := domainGetReply (asDomain d)) (l := []) (by simp only [hb]) rfl hin.grant hin.executor
  · have hrange : 1 ≤ id ∧ id ≤ 12 := by
      have := commonCheck_inRange hin.passes
      rw [hb] at this
      simpa [Request.inRange] using this
    have hrun : ∀ {res}, settingGetReply id s = ⟨s, .ok, res⟩ →
        exec (.settingGet p) s = .next (s.respond p rq .ok res).arbitrate := fun h => by
      change execSettingGet p s = _
      exact hin.runs (by simp only [hb]) h
    cases hv : s.settings.value id with
    | some x =>
      refine ⟨_, hrun (res := .setting id x) (by simp [settingGetReply, hv]), changes _, fun y hy => ?_, fun h12 => ?_⟩
      · cases hy
        exact answers _ _
      · subst h12
        cases hv
    | none =>
      have h12 : id = 12 := by
        by_contra hne
        obtain ⟨h1, h2⟩ := hrange
        interval_cases id <;> first | exact absurd rfl hne | cases hv
      subst h12
      exact ⟨_, hrun (by simp [settingGetReply, hv]), changes _, fun y hy => (nomatch hy), fun _ => answers _ _⟩
  · refine ⟨_, ?_, answers .ok (.counter c (s.counter c)), changes _⟩
    change execStatRead p s = _
    exact hin.runs (act := statReadReply a b) (by simp only [hb, sessionReadingOf_codes hc])
      (by simp only [statReadReply, counterOf_codes hc])
  · obtain ⟨rfl, rfl⟩ := Prod.mk.inj hq
    have hread : sessionReadingOf (portCode q) 15 = some q := by simp [sessionReadingOf]
    have hrun : exec (.statReadSession p) s = .next (s.respond p rq .ok (.sessionReading q (s.port q).session
        (s.port q).link (if (s.port q).session = .draining then orphanJobOf q s.maintenance.queue else none))).arbitrate := by
      change execStatReadSession p s = _
      exact hin.runs (act := sessionReply q) (by simp only [hb, hread, Option.map_some]) rfl
    refine ⟨_, hrun, changes _, fun hd => ?_, fun j c hs hjq hw => ?_⟩
    · rw [if_neg hd]
      exact answers _ _
    · have hlaw := (hs.port q).draining
      rw [Maintenance.orphanJobs_eq] at hlaw
      have hpos : 1 ≤ orphansIn s.maintenance.queue q := List.countP_pos_iff.2 ⟨j, hjq, by simp [Job.orphanFor, hw]⟩
      have hd : (s.port q).session = .draining := by
        by_contra hd
        rw [if_neg hd] at hlaw
        omega
      rw [if_pos hd] at hlaw
      rw [if_pos hd, orphanJobOf_unique hlaw.le hjq hw, hd]
      exact answers _ _
  · refine ⟨_, s.maintenance.report id, ?_, answers _ _, changes _, fun j rest hq hid => ?_, fun k hk hid => ?_,
      fun hno => ⟨fun l h m hm hid hlast => ?_, fun hh => ?_⟩⟩
    · change execJobStatus p s = _
      exact hin.runs (act := fun t => ⟨t, .ok, .report (t.maintenance.report id)⟩) (by simp only [hb]) rfl
    · simp [Maintenance.report, hq, hid]
    · rw [← hid]
      exact Maintenance.report_waiting hj.ids hk
    · rw [Maintenance.report_absent hno, Maintenance.reportHistory_newest hm hid hlast]
    · rw [Maintenance.report_absent hno, Maintenance.reportHistory_unknown hh]

/-! ### SETTING_SET -/

theorem State.withSettings_changes (s : State) (x : Settings) : s.ChangesOnly (s.withSettings x) [.settings] := fun y hy => by
  cases y <;> simp [State.Same] at hy ⊢

theorem setCreditCapacity_changes (n : Nat) (s : State) :
    s.ChangesOnly (setCreditCapacity n s).state [.settings, .ports] := fun x hx => by
  cases x <;> simp [State.Same, setCreditCapacity] at hx ⊢

theorem setRefillInterval_changes (n : Nat) (s : State) :
    s.ChangesOnly (setRefillInterval n s).state [.settings, .ports] := fun x hx => by
  cases x <;> simp [State.Same, setRefillInterval] at hx ⊢

theorem setSweepInterval_changes (n : Nat) (s : State) :
    s.ChangesOnly (setSweepInterval n s).state [.settings, .maintenance] := fun x hx => by
  cases x <;> simp [State.Same, setSweepInterval] at hx ⊢

/-- No binding exists exactly when the counts of owners and the count of ORPHANED ones are all 0 (R182). -/
theorem Directory.occupied_eq_zero {s : State} :
    s.directory.occupied = 0 ↔ (∀ q, s.owned q = 0) ∧ s.directory.orphanTotal = 0 := by
  constructor
  · intro h
    unfold Directory.occupied at h
    refine ⟨fun q => ?_, by omega⟩
    cases q <;> simp only [State.owned, PerPort.get] <;> omega
  · rintro ⟨hq, ho⟩
    have h0 : s.directory.ownedCount.p0 = 0 := hq .p0
    have h1 : s.directory.ownedCount.p1 = 0 := hq .p1
    have h2 : s.directory.ownedCount.p2 = 0 := hq .p2
    have h3 : s.directory.ownedCount.p3 = 0 := hq .p3
    simp [Directory.occupied, h0, h1, h2, h3, ho]

@[simp] theorem quotaPortOf_code (q : Port) : quotaPortOf (8 + portCode q) = some q := by cases q <;> rfl

/-- A SETTING_SET that runs at once, with its row. -/
theorem State.AtOnce.exec_setting {s : State} {p : Port} {rq : RequestFrame} {id value : Nat} {c : Instr}
    {act : Nat → State → Reply} (hin : s.AtOnce p rq)
    (hrun : exec c s = runDirect p s (fun rq => match rq.body with
      | .settingSet n x => if n = id then some (act x) else none
      | _ => none))
    (hb : rq.body = .settingSet id value) {res : Result} (hr : (act value s).status = .ok)
    (hres : (act value s).result = res) :
    exec c s = .next ((act value s).state.respond p rq .ok res).arbitrate := by
  rw [hrun]
  exact hin.runs (act := act value) (by simp only [hb, if_true]) (by rw [← hr, ← hres])

/-- Settles O53: each row writes its setting; two move the Port Controllers, one the sweep timer, and two may be refused. -/
theorem settingSetTakesEffect : Obligations.SettingSetTakesEffect := by
  unfold Obligations.SettingSetTakesEffect
  intro s p rq id value hb
  refine ⟨fun hin => ⟨?_, ?_, ?_, ?_, ?_, ?_⟩, fun v hin => ⟨?_, ?_, fun q => ?_, fun q => ?_⟩⟩
  · rintro rfl
    refine ⟨_, ?_, (State.respond_answers (u := (setTimebaseDivider value s).state) rfl p rq _ _).arbitrate, ?_,
      (State.success_changes (s.withSettings_changes _) rfl p rq _).mono (by simp)⟩
    · change execSettingSetTimebaseDivider p s = _
      exact hin.runs (act := setTimebaseDivider value) (by simp only [hb, if_true]) rfl
    · simp [setTimebaseDivider]
  · rintro rfl
    refine ⟨_, hin.exec_setting (act := setSweepInterval) rfl hb rfl rfl, (State.respond_answers (by rfl) p rq _ _).arbitrate,
      ?_, ?_, (State.success_changes (setSweepInterval_changes value s) rfl p rq _).mono (by simp)⟩
    · simp [setSweepInterval]
    · simp [setSweepInterval, sweepStart]
  · rintro rfl
    refine ⟨_, hin.exec_setting (act := setTransferTimeout) rfl hb rfl rfl, (State.respond_answers (by rfl) p rq _ _).arbitrate,
      ?_, (State.success_changes (s.withSettings_changes _) rfl p rq _).mono (by simp)⟩
    simp [setTransferTimeout]
  · rintro rfl
    refine ⟨_, hin.exec_setting (act := setCreditCapacity) (res := .setting 5 value) rfl hb rfl rfl, ?_, fun q hq => ?_, ?_,
      (State.success_changes (setCreditCapacity_changes value s) rfl p rq _).mono (by simp)⟩
    · simp [setCreditCapacity]
    · rw [State.answered_other _ hq, setCreditCapacity_port]
    · rw [State.answered_port, setCreditCapacity_port]
  · rintro rfl
    refine ⟨_, hin.exec_setting (act := setRefillAmount) rfl hb rfl rfl, (State.respond_answers (by rfl) p rq _ _).arbitrate,
      ?_, (State.success_changes (s.withSettings_changes _) rfl p rq _).mono (by simp)⟩
    simp [setRefillAmount]
  · rintro rfl
    have hon : (s.port p).session = .online := by
      rw [← State.view_session]
      exact commonCheck_online hin.passes (by rw [hb]; rfl) fun a b c h => by rw [hb] at h; cases h
    have restarted : ∀ q, (s.port q).session = .online →
        (s.port q).restartRefill value = { s.port q with refillTimer := some value } := fun q hq => if_pos hq
    refine ⟨_, hin.exec_setting (act := setRefillInterval) (res := .setting 7 value) rfl hb rfl rfl, ?_, fun q hq ho => ?_, fun q hq ho => ?_, ?_,
      (State.success_changes (setRefillInterval_changes value s) rfl p rq _).mono (by simp)⟩
    · simp [setRefillInterval]
    · rw [State.answered_other _ hq, setRefillInterval_port, restarted q ho]
    · rw [State.answered_other _ hq, setRefillInterval_port]
      exact if_neg ho
    · rw [State.answered_port, setRefillInterval_port, restarted p hon]
  · rintro rfl ho ht
    have hz : s.directory.occupied = 0 := Directory.occupied_eq_zero.2 ⟨ho, ht⟩
    refine ⟨_, ?_, (State.respond_answers (u := s.withSettings { s.settings with hashSeed := value }) rfl p rq _ _).endGrant,
      ?_, ((s.withSettings_changes _).trans (State.success_endGrant_changes rfl _ p rq _)).mono (by simp)⟩
    · change execSettingSetHashSeed p s = _
      exact hin.runs (act := setHashSeed value) (l := []) (by simp only [hb, if_true]) (if_neg fun h => h hz)
        hin.grant hin.executor
    · simp
  · rintro rfl hne
    have hz : s.directory.occupied ≠ 0 := fun h => by
      obtain ⟨h1, h2⟩ := Directory.occupied_eq_zero.1 h
      exact hne.elim (fun ⟨q, hq⟩ => hq (h1 q)) fun ht => ht h2
    refine ⟨_, ?_, (State.respond_answers rfl p rq .notEmpty .none).endGrant, s.respond_endGrant_changes p rq _ _⟩
    change execSettingSetHashSeed p s = _
    exact hin.runs (act := setHashSeed value) (l := []) (by simp only [hb, if_true]) (by simp [setHashSeed, hz, refuse]) hin.grant
      hin.executor
  · rintro rfl hq
    refine ⟨_, ?_, (State.respond_answers (u := s.withSettings { s.settings with quota := s.settings.quota.set q value }) rfl
      p rq .ok (.setting (8 + portCode q) value)).endGrant, ?_, fun r hr => ?_, ?_,
      ((s.withSettings_changes _).trans (State.success_endGrant_changes rfl _ p rq _)).mono (by simp)⟩
    · change execSettingSetQuota p s = _
      exact hin.runs (act := setQuota (8 + portCode q) value q) (l := []) (by simp only [hb, quotaPortOf_code, Option.map_some])
        (if_neg (Nat.not_lt.2 hq)) hin.grant hin.executor
    · simp
    · simp [hr]
    · simp
  · rintro rfl hq
    refine ⟨_, ?_, (State.respond_answers rfl p rq .invalid .none).endGrant, s.respond_endGrant_changes p rq _ _⟩
    change execSettingSetQuota p s = _
    exact hin.runs (act := setQuota (8 + portCode q) value q) (l := []) (by simp only [hb, quotaPortOf_code, Option.map_some])
      (by simp [setQuota, hq, refuse]) hin.grant hin.executor

end Sys2Proof.Machine
end

section
/-! SUPPORT. What the count movements of R12 do to the slots, the counts and the domains, and the whole course of a request in
its grant (R13 to R16). -/

namespace Sys2Proof.Machine

/-! ### Slots under the other operations -/

@[simp] theorem State.modifyOwned_slot (s : State) (p : Port) (f : Nat → Nat) (i : Nat) :
    (s.modifyOwned p f).slot i = s.slot i := rfl

@[simp] theorem State.modifyOrphans_slot (s : State) (d : DomainId) (f : Nat → Nat) (i : Nat) :
    (s.modifyOrphans d f).slot i = s.slot i := rfl

@[simp] theorem State.modifyCount_slot (s : State) (d : DomainId) (f : Nat → Nat) (i : Nat) :
    (s.modifyCount d f).slot i = s.slot i := rfl

@[simp] theorem State.modifyDefective_slot (s : State) (f : Nat → Nat) (i : Nat) :
    (s.modifyDefective f).slot i = s.slot i := rfl

@[simp] theorem State.countCreation_slot (s : State) (d : DomainId) (p : Port) (i : Nat) :
    (s.countCreation d p).slot i = s.slot i := rfl

@[simp] theorem State.countOwnerChange_slot (s : State) (p q : Port) (i : Nat) :
    (s.countOwnerChange p q).slot i = s.slot i := rfl

@[simp] theorem State.countHold_slot (s : State) (p : Port) (d : DomainId) (i : Nat) :
    (s.countHold p d).slot i = s.slot i := rfl

@[simp] theorem State.countOrphanAdoption_slot (s : State) (q : Port) (d : DomainId) (i : Nat) :
    (s.countOrphanAdoption q d).slot i = s.slot i := rfl

@[simp] theorem State.countRemoval_slot (s : State) (b : Binding) (i : Nat) : (s.countRemoval b).slot i = s.slot i := by
  unfold State.countRemoval
  split <;> rfl

@[simp] theorem State.takeCredit_slot (s : State) (p : Port) (i : Nat) : (s.takeCredit p).slot i = s.slot i := rfl

@[simp] theorem State.notifyInGrant_slot (s : State) (a : Audience) (n : Notice) (i : Nat) :
    (s.notifyInGrant a n).slot i = s.slot i := rfl

@[simp] theorem State.countInGrant_slot (s : State) (c : CounterId) (i : Nat) : (s.countInGrant c).slot i = s.slot i := rfl

@[simp] theorem State.endTransfer_directory (s : State) (x : TransferIndex) (t : Transfer) (o : TransferOutcome)
    (d : DomainId) (k : Key) : (s.endTransfer x t o d k).directory = s.directory := rfl

@[simp] theorem State.endTransfer_slot (s : State) (x : TransferIndex) (t : Transfer) (o : TransferOutcome)
    (d : DomainId) (k : Key) (i : Nat) : (s.endTransfer x t o d k).slot i = s.slot i := rfl

/-- A binding that is removed leaves its slot FREE (R8). -/
theorem State.removeBinding_slot_same {s : State} (h : s.directory.wf = true) {i : Nat} {c : Binding}
    (hi : s.slot i = .occupied c) (b : Binding) : (s.removeBinding i b).slot i = .free := by
  rw [State.removeBinding, State.countRemoval_slot]
  exact Directory.read_write_free h (Directory.read_inRange h (by rw [show s.directory.read i = _ from hi]; exact fun h => nomatch h))

theorem State.removeBinding_slot_other (s : State) {i j : Nat} (h : j ≠ i) (b : Binding) :
    (s.removeBinding i b).slot j = s.slot j := by
  rw [State.removeBinding, State.countRemoval_slot, State.writeSlot_slot_other s h]

/-! ### The counts of owners and of ORPHANED bindings -/

theorem State.countCreation_owned (s : State) (d : DomainId) (p q : Port) :
    (s.countCreation d p).owned q = if q = p then s.owned q + 1 else s.owned q := by
  rw [State.countCreation, State.modifyCount_owned, State.modifyOwned_owned]
  split
  next h => rw [h]
  · rfl

theorem State.countOwnerChange_owned {p q : Port} (h : p ≠ q) (s : State) (r : Port) : (s.countOwnerChange p q).owned r
    = if r = q then s.owned r + 1 else if r = p then s.owned r - 1 else s.owned r := by
  rw [State.countOwnerChange, State.modifyOwned_owned]
  by_cases hq : r = q
  · rw [if_pos hq, if_pos hq, State.modifyOwned_owned, if_neg (Ne.symm h), hq]
  · rw [if_neg hq, if_neg hq, State.modifyOwned_owned]
    split
    next hp => rw [hp]
    · rfl

theorem State.countRemoval_owned (s : State) (b : Binding) (q : Port) :
    (s.countRemoval b).owned q = if b.tenure.owner = some q then s.owned q - 1 else s.owned q := by
  unfold State.countRemoval
  split
  next p hp =>
    rw [State.modifyCount_owned, State.modifyOwned_owned, hp]
    by_cases h : q = p
    · rw [if_pos h, if_pos (by rw [h]), h]
    · rw [if_neg h, if_neg fun he => h (Option.some.inj he).symm]
  next hp =>
    rw [hp]
    rfl

@[simp] theorem State.modifyOrphans_owned (s : State) (d : DomainId) (f : Nat → Nat) (q : Port) :
    (s.modifyOrphans d f).owned q = s.owned q := rfl

theorem State.countOrphanAdoption_owned (s : State) (q : Port) (d : DomainId) (r : Port) :
    (s.countOrphanAdoption q d).owned r = if r = q then s.owned r + 1 else s.owned r := by
  rw [State.countOrphanAdoption, State.modifyOrphans_owned, State.modifyOwned_owned]
  split
  next h => rw [h]
  · rfl

theorem State.countHold_owned (s : State) (p : Port) (d : DomainId) (r : Port) :
    (s.countHold p d).owned r = if r = p then s.owned r - 1 else s.owned r := by
  rw [State.countHold, State.modifyOrphans_owned, State.modifyOwned_owned]
  split
  next h => rw [h]
  · rfl

@[simp] theorem State.countCreation_orphanTotal (s : State) (d : DomainId) (p : Port) :
    (s.countCreation d p).directory.orphanTotal = s.directory.orphanTotal := rfl

@[simp] theorem State.countOwnerChange_orphanTotal (s : State) (p q : Port) :
    (s.countOwnerChange p q).directory.orphanTotal = s.directory.orphanTotal := rfl

theorem State.countRemoval_orphanTotal (s : State) (b : Binding) : (s.countRemoval b).directory.orphanTotal
    = if b.tenure.owner = none then s.directory.orphanTotal - 1 else s.directory.orphanTotal := by
  unfold State.countRemoval
  split
  next p hp => rw [hp]; rfl
  next hp => rw [hp]; rfl

@[simp] theorem State.countOrphanAdoption_orphanTotal (s : State) (q : Port) (d : DomainId) :
    (s.countOrphanAdoption q d).directory.orphanTotal = s.directory.orphanTotal - 1 := rfl

@[simp] theorem State.countHold_orphanTotal (s : State) (p : Port) (d : DomainId) :
    (s.countHold p d).directory.orphanTotal = s.directory.orphanTotal + 1 := rfl

/-! ### The counts of domains -/

theorem State.modifyCount_domain (s : State) (d e : DomainId) (f : Nat → Nat) :
    (s.modifyCount d f).domain e = if e = d then { s.domain d with count := f (s.domain d).count } else s.domain e :=
  State.domain_modifyDomain s d e _

theorem State.modifyOrphans_domain (s : State) (d e : DomainId) (f : Nat → Nat) :
    (s.modifyOrphans d f).domain e
      = if e = d then { s.domain d with orphans := f (s.domain d).orphans } else s.domain e :=
  State.domain_modifyDomain (s.withDirectory { s.directory with orphanTotal := f s.directory.orphanTotal }) d e _

theorem State.countCreation_domain (s : State) (d : DomainId) (p : Port) (e : DomainId) :
    (s.countCreation d p).domain e
      = if e = d then { s.domain d with count := (s.domain d).count + 1 } else s.domain e :=
  State.modifyCount_domain (s.modifyOwned p (· + 1)) d e _

theorem State.countRemoval_domain (s : State) (b : Binding) (e : DomainId) : (s.countRemoval b).domain e
    = if e = b.domain then { s.domain b.domain with
        count := (s.domain b.domain).count - 1
        orphans := if b.tenure.owner = none then (s.domain b.domain).orphans - 1 else (s.domain b.domain).orphans }
      else s.domain e := by
  unfold State.countRemoval
  split
  next p hp =>
    rw [State.modifyCount_domain, hp]
    rfl
  next hp =>
    rw [State.modifyCount_domain, State.modifyOrphans_domain, State.modifyOrphans_domain, if_pos rfl, hp]
    by_cases he : e = b.domain
    · rw [if_pos he, if_pos he]
      rfl
    · rw [if_neg he, if_neg he, if_neg he]

theorem State.countOrphanAdoption_domain (s : State) (q : Port) (d e : DomainId) : (s.countOrphanAdoption q d).domain e
    = if e = d then { s.domain d with orphans := (s.domain d).orphans - 1 } else s.domain e :=
  State.modifyOrphans_domain (s.modifyOwned q (· + 1)) d e _

theorem State.countHold_domain (s : State) (p : Port) (d e : DomainId) : (s.countHold p d).domain e
    = if e = d then { s.domain d with orphans := (s.domain d).orphans + 1 } else s.domain e :=
  State.modifyOrphans_domain (s.modifyOwned p (· - 1)) d e _

@[simp] theorem State.countOwnerChange_domains (s : State) (p q : Port) :
    (s.countOwnerChange p q).domains = s.domains := rfl

/-! ### The entries of the Transfer Controller -/

theorem State.freeEntry_entry (s : State) (x y : TransferIndex) :
    (s.freeEntry x).entry y = if y = x then none else s.entry y := State.entry_setEntry s x y none

theorem State.freeEntry_expiryList (s : State) (x : TransferIndex) :
    (s.freeEntry x).transfers.expiryList = s.transfers.expiryList.filter (fun j => decide (j ≠ x)) := rfl

theorem State.endTransfer_expiryList (s : State) (x : TransferIndex) (t : Transfer) (o : TransferOutcome) (d : DomainId)
    (k : Key) : (s.endTransfer x t o d k).transfers.expiryList
      = s.transfers.expiryList.filter (fun j => decide (j ≠ x)) := rfl

/-! ### The course of a request in its grant -/

/-- The counters are those of another state. -/
theorem State.counter_congr {s t : State} (hp : t.portCounters = s.portCounters)
    (hd : t.deviceCounters = s.deviceCounters) (d : CounterId) : t.counter d = s.counter d := by
  cases d <;> simp [State.counter, hp, hd]

theorem State.takeCredit_port (s : State) (p q : Port) : (s.takeCredit p).port q
    = if q = p then { s.port p with claimCredit := (s.port p).claimCredit - 1 } else s.port q :=
  State.port_modifyPort s p q fun c => { c with claimCredit := c.claimCredit - 1 }

/-- The operation of a request leaves the sessions and the subscriptions of every port. -/
theorem State.ActsWide.port {s t : State} {p : Port} (h : s.ActsWide t p) (q : Port) :
    (t.port q).session = (s.port q).session ∧ (t.port q).subscriptions = (s.port q).subscriptions
      ∧ (t.port q).executor = (s.port q).executor ∧ (q ≠ p → t.port q = s.port q) := by
  rcases h.ports with hp | hp
  · rw [State.port, hp]
    exact ⟨rfl, rfl, rfl, fun _ => rfl⟩
  · rw [State.port, hp, ← State.port, State.takeCredit_port]
    split
    next he => subst he; exact ⟨rfl, rfl, rfl, fun h => absurd rfl h⟩
    · exact ⟨rfl, rfl, rfl, fun _ => rfl⟩

theorem State.receives_of_port {s t : State} {q : Port} (hs : (t.port q).session = (s.port q).session)
    (hx : (t.port q).subscriptions = (s.port q).subscriptions) (a : Audience) : t.receives a q = s.receives a q := by
  unfold State.receives State.online
  rw [hs, hx]

theorem State.ActsWide.onward {s t : State} {p : Port} (h : s.ActsWide t p) : s.Onward t := fun q => by
  obtain ⟨hs, hx, -⟩ := h.port q
  have hn : t.notices = s.notices := h.frame .notices (by simp)
  rw [State.noticePort, State.noticePort, hn, hs, hx]
  exact ⟨.refl _, id, rfl⟩

/-- The operation of a request has made `u` of `s`, and in `t` its reports `l` have been handed over, its response has been
written and its grant has ended (R15). -/
structure State.Course (s u t : State) (l : List Report) (p : Port) (rq : RequestFrame) (st : Status) (res : Result) :
    Prop where
  port : t.port p = (u.port p).answered ⟨rq.kind, rq.tag, st, res⟩
  others : s.OtherPorts t p
  after : u.ChangesOnly t [.arbiter, .ports, .notices, .portCounters, .deviceCounters]
  counter : ∀ d, (∀ q, d ≠ .port q .noticesLost) → t.counter d = (s.counter d + BitVec.ofNat 32 (l.count (.count d)))
    + if st.isRefusal = true ∧ d = .port p .refusals then 1 else 0
  hands : ∀ a n q, .notice a n ∈ l → ((s.port q).session = .online → s.receives a q = true) → s.Queues t q n
  device : (∀ d, .count (.device d) ∉ l) → t.deviceCounters = u.deviceCounters
  quiet : l = [] → st.isRefusal = false → t.notices = u.notices ∧ t.portCounters = u.portCounters

/-- Reports without a count of the device leave the device's counters (R189). -/
theorem State.deliverAll_deviceCounters {l : List Report} (h : ∀ d, .count (.device d) ∉ l) (s : State) :
    (l.foldl State.deliver s).deviceCounters = s.deviceCounters := by
  induction l generalizing s with
  | nil => rfl
  | cons r rest ih =>
    rw [List.foldl_cons, ih fun d hd => h d (List.mem_cons_of_mem _ hd)]
    cases r with
    | notice a n => simp [State.deliver]
    | count c =>
      cases c with
      | port q n => simp [State.deliver]
      | device d => exact absurd List.mem_cons_self (h d)

/-- The row of a request is a runner of `runGranted` that gives the request its rule (R13; log 15). -/
theorem GrantedAct.exists_row {p : Port} {v : View} {rq : RequestFrame} {c : Instr} {n : Option Nat}
    {act : State → Reply} (h : GrantedAct p v rq c n act) {g : GrantStep} (hc : c = rq.body.row p g) (s : State) :
    ∃ row, exec c s = runGranted p s n row ∧ row v rq = some act := by
  cases h with
  | resolve g d k cl h hb =>
    simp only [exec, execResolve]
    exact ⟨_, rfl, by simp only [hb]⟩
  | claim g d k h pin force hb =>
    simp only [exec, execClaim]
    exact ⟨_, rfl, by simp only [hb]⟩
  | release g d k hb =>
    simp only [exec, execRelease]
    exact ⟨_, rfl, by simp only [hb]⟩
  | touch g d k hb =>
    simp only [exec, execTouch]
    exact ⟨_, rfl, by simp only [hb]⟩
  | readSlot g i hb =>
    simp only [exec, execReadSlot]
    exact ⟨_, rfl, by simp only [hb]⟩
  | scan g i a b c f hb hf =>
    simp only [exec, execScanNext]
    exact ⟨_, rfl, by simp only [hb, hf]⟩
  | scanInvalid g i a b c hb hf =>
    simp only [exec, execScanNext]
    exact ⟨_, rfl, by simp only [hb, hf]⟩
  | ask g d k h hb =>
    simp only [exec, execHandoverAsk]
    exact ⟨_, rfl, by simp only [hb]⟩
  | replyGrant g x m hb =>
    have hm : m ≠ 2 := by
      rintro rfl
      rw [hb] at hc
      simp [Request.row] at hc
    simp only [exec, execHandoverReplyGrant]
    exact ⟨_, rfl, by simp only [hb, if_neg hm]⟩
  | replyRefuse g x hb =>
    simp only [exec, execHandoverReplyRefuse]
    exact ⟨_, rfl, by simp only [hb, if_true]⟩
  | domainGet d hb =>
    simp only [exec, execDomainGet]
    exact ⟨_, rfl, by simp only [hb]⟩
  | domainSet d en cp ms ps ns ac ll cap oa sb pol hb hp =>
    simp only [exec, execDomainSet]
    exact ⟨_, rfl, by simp only [hb, hp]⟩
  | domainSetInvalid d en cp ms ps ns ac ll cap oa sb hb hp =>
    simp only [exec, execDomainSet]
    exact ⟨_, rfl, by simp only [hb, hp]⟩
  | hashSeed x hb =>
    simp only [exec, execSettingSetHashSeed]
    exact ⟨_, rfl, by simp only [hb, if_true]⟩
  | quota id x q hb hq =>
    simp only [exec, execSettingSetQuota]
    exact ⟨_, rfl, by simp only [hb, hq, Option.map_some]⟩

/-- The whole of a request's grant: its rule, its reports, its response, its end (R13, R15, R124). -/
theorem State.InGrant.course {s u : State} {p : Port} {v : View} {rq : RequestFrame} {c : Instr} {act : State → Reply}
    {st : Status} {res : Result} {l : List Report} {failing : List Nat} (hin : s.InGrant p v rq)
    (h : GrantedAct p v rq c none act) (hc : c = rq.body.row p ⟨failing, none⟩) (ha : act s = ⟨u, st, res⟩)
    (hg : u.grant = some ⟨.executor p, v, l, none⟩) :
    ∃ t, exec c s = .next t ∧ s.Course u t l p rq st res := by
  have hw : s.ActsWide u p := by
    have := h.actsWide s
    rwa [ha] at this
  obtain ⟨row, hexec, hrow⟩ := h.exists_row hc s
  obtain ⟨-, -, hbusy, -⟩ := hw.port p
  refine ⟨_, hexec.trans (hin.runs hrow ha hg (hbusy.trans hin.executor)), ?_, fun q hq => ?_, fun x hx => ?_,
    fun d hd => ?_, fun a n q hn hr => ?_, fun hd => ?_, ?_⟩
  · rw [State.endGrant_port, State.respond_port, if_pos rfl]
    simp [State.port]
  · obtain ⟨-, -, -, ho⟩ := hw.port q
    rw [State.endGrant_port, State.respond_port, if_neg hq, ← ho hq]
    simp [State.port]
  · cases x <;> simp [State.Same] at hx ⊢
  · have hcount : u.counter d = s.counter d :=
      State.counter_congr (hw.frame .portCounters (by simp)) (hw.frame .deviceCounters (by simp)) d
    rw [State.endGrant_counter, State.respond_counter _ _ _ _ _ hd, State.deliverAll_counter u l hd, hcount]
    split <;> simp
  · have hrec : (u.port q).session = .online → u.receives a q = true := fun ho => by
      obtain ⟨hs, hx, -⟩ := hw.port q
      rw [State.receives_of_port hs hx]
      exact hr (hs ▸ ho)
    exact (((State.deliverAll_hands hn hrec).before hw.onward).after
      ((State.respond_onward _ _ _ _ _).trans (State.endGrant_onward _))).queues
  · have hend : ∀ w : State, w.endGrant.deviceCounters = w.deviceCounters := fun w => by simp
    rw [hend, State.respond_deviceCounters, State.deliverAll_deviceCounters hd]
  · rintro rfl hst
    simp [State.respond_success_counts hst]

section
variable {s u t : State} {l : List Report} {p : Port} {rq : RequestFrame} {st : Status} {res : Result}

theorem State.Course.slot (h : s.Course u t l p rq st res) (i : Nat) : t.slot i = u.slot i := by
  have hd : t.directory = u.directory := h.after .directory (by simp)
  rw [State.slot, hd, State.slot]

theorem State.Course.owned (h : s.Course u t l p rq st res) (q : Port) : t.owned q = u.owned q := by
  have hd : t.directory = u.directory := h.after .directory (by simp)
  rw [State.owned, hd, State.owned]

theorem State.Course.orphanTotal (h : s.Course u t l p rq st res) :
    t.directory.orphanTotal = u.directory.orphanTotal := by
  have hd : t.directory = u.directory := h.after .directory (by simp)
  rw [hd]

theorem State.Course.domains (h : s.Course u t l p rq st res) : t.domains = u.domains := h.after .domains (by simp)

theorem State.Course.domain (h : s.Course u t l p rq st res) (d : DomainId) : t.domain d = u.domain d := by
  rw [State.domain, h.domains, State.domain]

theorem State.Course.transfers (h : s.Course u t l p rq st res) : t.transfers = u.transfers := h.after .transfers (by simp)

theorem State.Course.entry (h : s.Course u t l p rq st res) (x : TransferIndex) : t.entry x = u.entry x := by
  rw [State.entry, h.transfers, State.entry]

theorem State.Course.answers (h : s.Course u t l p rq st res) (hu : u.ports = s.ports) : s.Answers t p rq st res :=
  ⟨by rw [h.port, State.port, hu, State.port], h.others⟩

theorem State.Course.changes (h : s.Course u t l p rq st res) {m : List Part} (hu : s.ChangesOnly u m) :
    s.ChangesOnly t (m ++ [.arbiter, .ports, .notices, .portCounters, .deviceCounters]) := hu.trans h.after

/-- A course that counts nothing of the device. -/
theorem State.Course.changesPort (h : s.Course u t l p rq st res) {m : List Part} (hu : s.ChangesOnly u m)
    (hd : ∀ d, .count (.device d) ∉ l) : s.ChangesOnly t (m ++ [.arbiter, .ports, .notices, .portCounters]) :=
  hu.trans fun x hx => by
    by_cases he : x = .deviceCounters
    · subst he
      exact h.device hd
    · refine h.after x fun hm => ?_
      simp only [List.mem_cons, List.not_mem_nil, or_false, not_or] at hx hm
      tauto

/-- A course without a report and without a refusal. -/
theorem State.Course.changesQuiet (h : s.Course u t [] p rq st res) (hst : st.isRefusal = false) {m : List Part}
    (hu : s.ChangesOnly u m) : s.ChangesOnly t (m ++ [.arbiter, .ports]) :=
  hu.trans fun x hx => by
    obtain ⟨hn, hc⟩ := h.quiet rfl hst
    by_cases h1 : x = .deviceCounters
    · subst h1
      exact h.device fun d => List.not_mem_nil
    by_cases h2 : x = .notices
    · subst h2
      exact hn
    by_cases h3 : x = .portCounters
    · subst h3
      exact hc
    · refine h.after x fun hm => ?_
      simp only [List.mem_cons, List.not_mem_nil, or_false, not_or] at hx hm
      tauto

/-- A refusal with the state as it was (R128, R191). -/
theorem State.Course.refusals (h : s.Course u t l p rq st res) (hst : st.isRefusal = true)
    (hl : .count (.port p .refusals) ∉ l) : t.counter (.port p .refusals) = s.counter (.port p .refusals) + 1 := by
  rw [h.counter _ (by simp), List.count_eq_zero.2 hl, if_pos ⟨hst, rfl⟩]
  simp

/-- A counter that no refusal counts. -/
theorem State.Course.counted (h : s.Course u t l p rq st res) {d : CounterId} (hd : ∀ q, d ≠ .port q .noticesLost)
    (hr : d ≠ .port p .refusals) : t.counter d = s.counter d + BitVec.ofNat 32 (l.count (.count d)) := by
  rw [h.counter d hd, if_neg fun hc => hr hc.2]
  simp

end

end Sys2Proof.Machine
end

section
/-! SUPPORT. RESOLVE, TOUCH, READ_SLOT, SCAN_NEXT and RELEASE (chapter 02). -/

namespace Sys2Proof.Machine

/-! ### RESOLVE -/

theorem hitFlags_self {ses : PerPort Session} {p : Port} {x : Tenure} :
    (hitFlags ses p x).self = true ↔ x.owner = some p := by
  simp [hitFlags]

theorem hitFlags_ownerLost {ses : PerPort Session} {p : Port} {x : Tenure} :
    (hitFlags ses p x).ownerLost = true ↔ ∃ o, x.owner = some o ∧ ses.get o ≠ .online := by
  unfold hitFlags
  cases x <;> simp [Tenure.owner]

theorem hitFlags_state {ses : PerPort Session} {p : Port} {x : Tenure} :
    ((hitFlags ses p x).inTransfer = true ↔ x.state = .transfer)
      ∧ ((hitFlags ses p x).orphaned = true ↔ x.state = .orphaned) := by
  simp [hitFlags]

/-- R27: a RESOLVE that hits counts, and marks the requester's own binding. -/
theorem resolveReply_hit {s : State} {v : View} {p : Port} {a : ClaimArgs} {cl : Bool} {f : List Nat} {i : Nat} {b : Binding}
    (he : (s.domain a.domain).policy.enabled = true) (hf : s.Finds f a.domain a.key i b) :
    resolveReply v p a cl f s = ⟨if b.tenure.owner = some p
        then (s.countInGrant (.port p .resolveHits)).putBinding i { b with touched := true, idle := 0 }
        else s.countInGrant (.port p .resolveHits), .ok,
      .hit i b.tenure b.cls b.handle (hitFlags v.session p b.tenure)⟩ := by
  simp [resolveReply, he, hf.lookup]

/-- R29: a RESOLVE that misses and makes no claim. -/
theorem resolveReply_miss {s : State} {v : View} {p : Port} {a : ClaimArgs} {cl : Bool} {f : List Nat}
    (he : (s.domain a.domain).policy.enabled = true) (hm : s.Misses f a.domain a.key)
    (hc : cl = true → (s.domain a.domain).policy.autoClaim = false) :
    resolveReply v p a cl f s = ⟨s.countInGrant (.port p .resolveMisses), .miss, .none⟩ := by
  have hno : (cl && (s.domain a.domain).policy.autoClaim) = false := by
    cases cl with
    | false => rfl
    | true => simp [hc rfl]
  simp [resolveReply, he, hm.lookup, hno, refuse]

theorem State.countInGrant_changes (s : State) (c : CounterId) : s.ChangesOnly (s.countInGrant c) [.arbiter] :=
  fun x hx => by cases x <;> simp [State.Same] at hx ⊢

/-- Settles O32: a hit marks at most the slot found, and a miss leaves the directory. -/
theorem resolveAnswersHitOrMiss : Obligations.ResolveAnswersHitOrMiss := by
  unfold Obligations.ResolveAnswersHitOrMiss
  refine ⟨fun s p v rq f d k cl h i b hin hb he hwf hf => ?_, fun s p v rq f d k cl h hin hb he hm hc => ?_⟩
  · have hrep := resolveReply_hit (v := v) (p := p) (a := ⟨asDomain d, k, h, false, false⟩) (cl := cl) he hf
    have hg : (if b.tenure.owner = some p
        then (s.countInGrant (.port p .resolveHits)).putBinding i { b with touched := true, idle := 0 }
        else s.countInGrant (.port p .resolveHits)).grant
          = some ⟨.executor p, v, [.count (.port p .resolveHits)], none⟩ := by
      split <;> simp [hin.grant, Grant.fresh]
    obtain ⟨t, hrun, hc⟩ := hin.course (.resolve ⟨f, none⟩ d k cl h hb) (by rw [hb]; rfl) hrep hg
    refine ⟨t, _, hrun, hc.answers (by split <;> simp), hitFlags_self, hitFlags_ownerLost, hitFlags_state.1,
      hitFlags_state.2, ?_, fun j hj => ?_, ⟨fun q => ?_, ?_, ?_⟩, ?_, ?_⟩
    · rw [hc.slot]
      split
      · exact State.putBinding_slot_same (s := s.countInGrant (.port p .resolveHits)) hwf i _
      · exact hf.slot
    · rw [hc.slot]
      split
      · exact State.putBinding_slot_other _ hj _
      · rfl
    · rw [hc.owned]
      split <;> rfl
    · rw [hc.orphanTotal]
      split <;> rfl
    · rw [hc.domains]
      split <;> rfl
    · rw [hc.counted (by simp) (by simp)]
      simp
    · refine (hc.changesPort (m := [.directory, .arbiter]) (fun x hx => ?_) (by simp)).mono (by simp)
      split <;> cases x <;> simp [State.Same] at hx ⊢
  · have hrep := resolveReply_miss (v := v) (p := p) (a := ⟨asDomain d, k, h, false, false⟩) he hm hc
    obtain ⟨t, hrun, hcourse⟩ := hin.course (l := [.count (.port p .resolveMisses)]) (.resolve ⟨f, none⟩ d k cl h hb)
      (by rw [hb]; rfl) hrep (by simp [hin.grant, Grant.fresh])
    refine ⟨t, hrun, hcourse.answers (by simp), ?_, (hcourse.changesPort (s.countInGrant_changes _) (by simp)).mono (by simp)⟩
    rw [hcourse.counted (by simp) (by simp)]
    simp

/-! ### TOUCH, READ_SLOT and SCAN_NEXT -/

/-- A request that is refused, or misses, with the state as it was. -/
theorem State.InGrant.unchanged {s : State} {p : Port} {v : View} {rq : RequestFrame} {c : Instr} {act : State → Reply}
    {st : Status} {res : Result} {failing : List Nat} (hin : s.InGrant p v rq) (h : GrantedAct p v rq c none act)
    (hc : c = rq.body.row p ⟨failing, none⟩) (ha : act s = ⟨s, st, res⟩) :
    ∃ t, exec c s = .next t ∧ s.Answers t p rq st res ∧ s.Course s t [] p rq st res
      ∧ s.ChangesOnly t [.arbiter, .ports, .notices, .portCounters]
      ∧ (st.isRefusal = false → s.ChangesOnly t [.arbiter, .ports]) := by
  obtain ⟨t, hrun, hcourse⟩ := hin.course h hc ha hin.grant
  exact ⟨t, hrun, hcourse.answers rfl, hcourse, (hcourse.changesPort (.refl s []) (by simp)).mono (by simp),
    fun hst => (hcourse.changesQuiet hst (.refl s [])).mono (by simp)⟩

/-- Settles O40: the owner decides. -/
theorem touchMarksOwnBinding : Obligations.TouchMarksOwnBinding := by
  unfold Obligations.TouchMarksOwnBinding
  intro s p v rq f d k hin hb he hwf
  have hrow : Instr.touch p ⟨f, none⟩ = rq.body.row p ⟨f, none⟩ := by rw [hb]; rfl
  refine ⟨fun i b hf ho => ?_, fun i b hf ho => ?_, fun hm => ?_⟩
  · obtain ⟨t, hrun, hc⟩ := hin.course (l := []) (.touch ⟨f, none⟩ d k hb) hrow
      (show touchReply p (asDomain d) k f s
        = ⟨s.putBinding i { b with touched := true, idle := 0 }, .ok, .slot i⟩ by simp [touchReply, he, hf.lookup, ho])
      (by simp [hin.grant, Grant.fresh])
    refine ⟨t, hrun, hc.answers (by simp), ?_, fun j hj => ?_, ⟨fun q => ?_, ?_, ?_⟩,
      (hc.changesQuiet rfl (s.putBinding_changes i _)).mono (by simp)⟩
    · rw [hc.slot, State.putBinding_slot_same hwf]
    · rw [hc.slot, State.putBinding_slot_other s hj]
    · rw [hc.owned, State.putBinding_owned]
    · rw [hc.orphanTotal, State.putBinding_orphanTotal]
    · rw [hc.domains]
      simp
  · obtain ⟨t, hrun, hans, -, hch, -⟩ := hin.unchanged (.touch ⟨f, none⟩ d k hb) hrow
      (show touchReply p (asDomain d) k f s = ⟨s, .notOwner, .none⟩ by simp [touchReply, he, hf.lookup, ho, refuse])
    exact ⟨t, hrun, hans, hch⟩
  · obtain ⟨t, hrun, hans, -, -, hch⟩ := hin.unchanged (.touch ⟨f, none⟩ d k hb) hrow
      (show touchReply p (asDomain d) k f s = ⟨s, .miss, .none⟩ by simp [touchReply, he, hm.lookup, refuse])
    exact ⟨t, hrun, hans, hch rfl⟩

theorem readSlotReply_reports {s : State} {i : Nat} {f : List Nat} (h : i ∉ f ∨ s.slot i = .defective) :
    readSlotReply i f s = ⟨s, .ok, .slotRecord i (s.slot i)⟩ := by
  unfold readSlotReply
  cases hs : s.slot i with
  | undefined | defective => rfl
  | free | occupied b => simp [h.resolve_right (by rw [hs]; exact fun h => nomatch h)]

/-- Settles O41: a slot that passes its check is reported as it stands. -/
theorem readSlotReports : Obligations.ReadSlotReports := by
  unfold Obligations.ReadSlotReports
  intro s p v rq f i hin hb h
  obtain ⟨t, hrun, hans, -, -, hch⟩ := hin.unchanged (.readSlot ⟨f, none⟩ i hb) (by rw [hb]; rfl) (readSlotReply_reports h)
  exact ⟨t, hrun, hans, hch rfl⟩

/-- Settles O43: the first match of the window is the first of its rising slots. -/
theorem scanReportsFirstMatch : Obligations.ScanReportsFirstMatch := by
  unfold Obligations.ScanReportsFirstMatch
  intro s p v rq f start fd fo fs x hin hb hx hsound
  have hrow : Instr.scanNext p ⟨f, none⟩ = rq.body.row p ⟨f, none⟩ := by rw [hb]; rfl
  have hs : ∀ j ∈ windowSlots start, j ∉ f := fun j hj => by
    obtain ⟨h1, h2⟩ := mem_windowSlots.1 hj
    exact hsound j h1 h2
  refine ⟨fun i b h1 h2 hi hm hfirst => ?_, fun hno => ?_⟩
  · have hscan := State.scanIn_first hs (windowSlots_rising start) (mem_windowSlots.2 ⟨h1, h2⟩) hi hm
      fun j hj hlt c hc => hfirst j c (mem_windowSlots.1 hj).1 hlt hc
    obtain ⟨t, hrun, hans, -, -, hch⟩ := hin.unchanged (.scan ⟨f, none⟩ start fd fo fs x hb hx) hrow
      (show scanReply start x f s = ⟨s, .ok, .slotRecord i (.occupied b)⟩ by simp [scanReply, hscan])
    exact ⟨t, hrun, hans, hch rfl⟩
  · have hscan := State.scanIn_none hs fun j hj c hc => by
      obtain ⟨h1, h2⟩ := mem_windowSlots.1 hj
      exact hno j c h1 h2 hc
    by_cases hlast : start / 64 = 255
    · obtain ⟨t, hrun, hans, -, -, hch⟩ := hin.unchanged (.scan ⟨f, none⟩ start fd fo fs x hb hx) hrow
        (show scanReply start x f s = ⟨s, .endOfScan, .none⟩ by simp [scanReply, hscan, hlast])
      exact ⟨t, hrun, hch rfl, fun h => absurd hlast (by omega), fun _ => hans⟩
    · obtain ⟨t, hrun, hans, -, -, hch⟩ := hin.unchanged (.scan ⟨f, none⟩ start fd fo fs x hb hx) hrow
        (show scanReply start x f s = ⟨s, .continueScan, .nextStart (nextWindow start)⟩ by simp [scanReply, hscan, hlast])
      exact ⟨t, hrun, hch rfl, fun _ => hans, fun h => absurd h hlast⟩

/-! ### Who a notice reaches -/

theorem State.receives_directed {s : State} {q : Port} (h : (s.port q).session = .online) :
    s.receives (.directed q) q = true := by
  simp [State.receives, State.online, h]

theorem State.receives_subscribers {s : State} {q : Port} {kind : SubscribedKind} (h : (s.port q).session = .online)
    (hs : (s.port q).subscriptions.holds kind = true) : s.receives (.subscribers kind) q = true := by
  simp [State.receives, State.online, h, hs]

/-! ### RELEASE -/

@[simp] theorem State.notifyReleased_slot (s : State) (p : Port) (i : Nat) (b : Binding) (j : Nat) :
    (s.notifyReleased p i b).slot j = s.slot j := rfl

@[simp] theorem State.notifyReleased_owned (s : State) (p : Port) (i : Nat) (b : Binding) (q : Port) :
    (s.notifyReleased p i b).owned q = s.owned q := rfl

@[simp] theorem State.endTransfer_owned (s : State) (x : TransferIndex) (e : Transfer) (o : TransferOutcome) (d : DomainId)
    (k : Key) (q : Port) : (s.endTransfer x e o d k).owned q = s.owned q := rfl

theorem State.removeBinding_owned {b : Binding} {p : Port} (h : b.tenure.owner = some p) (s : State) (i : Nat) (q : Port) :
    (s.removeBinding i b).owned q = if q = p then s.owned q - 1 else s.owned q := by
  refine (State.countRemoval_owned (s.writeSlot i .free) b q).trans ?_
  rw [h]
  by_cases hq : q = p
  · rw [if_pos hq, if_pos (by rw [hq]), State.writeSlot_owned]
  · rw [if_neg hq, if_neg fun hp => hq (Option.some.inj hp).symm, State.writeSlot_owned]

theorem State.removeBinding_domainCounts (s : State) (i : Nat) {b : Binding} {p : Port} {d : DomainId}
    (h : b.tenure.owner = some p) (hb : b.domain = d) :
    s.DomainCounts (s.removeBinding i b) d ((s.domain d).count - 1) (s.domain d).orphans := by
  subst hb
  have hd := State.countRemoval_domain (s.writeSlot i .free) b
  refine ⟨(hd b.domain).trans ?_, fun e he => (hd e).trans ?_⟩
  · rw [if_pos rfl, h]
    rfl
  · rw [if_neg he]
    rfl

theorem State.DomainCounts.congr {s t u : State} {d : DomainId} {m n : Nat} (h : s.DomainCounts u d m n)
    (hd : t.domains = u.domains) : s.DomainCounts t d m n := by
  obtain ⟨h1, h2⟩ := h
  exact ⟨by rw [State.domain, hd]; exact h1, fun e he => by rw [State.domain, hd]; exact h2 e he⟩

/-- RELEASE by the owner of a BOUND binding (R44). -/
theorem releaseReply_bound {s : State} {v : View} {p : Port} {d : DomainId} {k : Key} {f : List Nat} {i : Nat} {b : Binding}
    (he : (s.domain d).policy.enabled = true) (hf : s.Finds f d k i b) (hb : b.tenure = .bound p) :
    releaseReply v p d k f s = ⟨(s.removeBinding i b).notifyReleased p i b, .ok, .slot i⟩ := by
  simp [releaseReply, he, hf.lookup, hb]

theorem releaseReply_notOwner {s : State} {v : View} {p : Port} {d : DomainId} {k : Key} {f : List Nat} {i : Nat}
    {b : Binding} (he : (s.domain d).policy.enabled = true) (hf : s.Finds f d k i b) (hb : b.tenure.owner ≠ some p) :
    releaseReply v p d k f s = ⟨s, .notOwner, .none⟩ := by
  have hne : ∀ o, b.tenure.owner = some o → o ≠ p := fun o ho hp => hb (by rw [ho, hp])
  cases ht : b.tenure with
  | orphaned => simp [releaseReply, he, hf.lookup, ht, refuse]
  | bound o =>
    have ho : o ≠ p := hne o (by rw [ht]; rfl)
    simp [releaseReply, he, hf.lookup, ht, ho, refuse]
  | transfer g x =>
    have hg : g ≠ p := hne g (by rw [ht]; rfl)
    simp [releaseReply, he, hf.lookup, ht, hg, refuse]

/-- RELEASE by the giver of a binding in TRANSFER (R45). -/
theorem releaseReply_transfer {s : State} {v : View} {p : Port} {d : DomainId} {k : Key} {f : List Nat} {i : Nat}
    {b : Binding} {x : TransferIndex} {e : Transfer} (he : (s.domain d).policy.enabled = true) (hf : s.Finds f d k i b)
    (hb : b.tenure = .transfer p x) (hx : s.entry x = some e) :
    releaseReply v p d k f s = releaseTransfer v p i b x e s := by
  simp [releaseReply, he, hf.lookup, hb, hx]

/-- Settles O38: the tenure of the binding found decides. -/
theorem releaseRemovesOwnBinding : Obligations.ReleaseRemovesOwnBinding := by
  unfold Obligations.ReleaseRemovesOwnBinding
  intro s p v rq f d k hin hb he hwf
  have hrow : Instr.release p ⟨f, none⟩ = rq.body.row p ⟨f, none⟩ := by rw [hb]; rfl
  refine ⟨fun i b hf ht => ?_, fun i b hf ho => ?_, fun hm => ?_⟩
  · obtain ⟨hdom, -⟩ := hf.holds
    obtain ⟨t, hrun, hc⟩ := hin.course
      (l := [.notice (.subscribers .bindingGone) (.bindingGone .released b.domain b.key (some p) b.handle i)])
      (.release ⟨f, none⟩ d k hb) hrow (releaseReply_bound he hf ht)
      (by simp [State.notifyReleased, hin.grant, Grant.fresh])
    have hown : b.tenure.owner = some p := by rw [ht]; rfl
    have hdm : t.domains = (s.removeBinding i b).domains := hc.domains.trans (by simp [State.notifyReleased])
    refine ⟨t, hrun, hc.answers (by simp [State.notifyReleased]), ?_, fun j hj => ?_, fun q => ?_, ?_,
      (State.removeBinding_domainCounts s i hown hdom).congr hdm,
      fun q hq => hc.hands _ _ q List.mem_cons_self fun ho => State.receives_subscribers ho hq,
      (hc.changesPort (m := [.directory, .domains, .arbiter]) (fun x hx => ?_) (by simp)).mono (by simp)⟩
    · rw [hc.slot]
      exact State.removeBinding_slot_same hwf hf.slot b
    · rw [hc.slot]
      exact State.removeBinding_slot_other s hj b
    · rw [hc.owned, State.notifyReleased_owned, State.removeBinding_owned hown]
    · rw [hc.orphanTotal]
      refine (State.countRemoval_orphanTotal (s.writeSlot i .free) b).trans ?_
      rw [hown]
      rfl
    · cases x <;> simp [State.Same, State.notifyReleased] at hx ⊢
  · obtain ⟨t, hrun, hans, hc, hch, -⟩ := hin.unchanged (.release ⟨f, none⟩ d k hb) hrow (releaseReply_notOwner he hf ho)
    exact ⟨t, hrun, hans, hc.refusals rfl List.not_mem_nil, hch⟩
  · obtain ⟨t, hrun, hans, -, -, hch⟩ := hin.unchanged (.release ⟨f, none⟩ d k hb) hrow
      (show releaseReply v p (asDomain d) k f s = ⟨s, .miss, .none⟩ by simp [releaseReply, he, hm.lookup, refuse])
    exact ⟨t, hrun, hans, hch rfl⟩

/-! ### The taker of a transfer -/

theorem State.takerRefusal_eq_none {s : State} {v : View} {e : Transfer} (ho : v.session.get e.taker = .online)
    (hq : s.owned e.taker < s.settings.quota.get e.taker) : s.takerRefusal v e = none := by
  simp [State.takerRefusal, ho, State.quotaAllows, hq]

theorem State.takerRefusal_eq_some {s : State} {v : View} {e : Transfer}
    (h : v.session.get e.taker ≠ .online ∨ s.settings.quota.get e.taker ≤ s.owned e.taker) :
    s.takerRefusal v e = some (if v.session.get e.taker = .online then .quota else .takerGone) := by
  by_cases ho : v.session.get e.taker = .online
  · have hq := Nat.not_lt.2 (h.resolve_left fun hn => hn ho)
    simp [State.takerRefusal, ho, State.quotaAllows, hq]
  · simp [State.takerRefusal, ho]

/-- The reports with which a transfer ends (R73). -/
def transferReports (x : TransferIndex) (e : Transfer) (o : TransferOutcome) (b : Binding) : List Report :=
  [.notice (.directed e.giver) (.transferDone o b.domain b.key e.taker e.handle x e.tag),
    .notice (.directed e.taker) (.transferDone o b.domain b.key e.giver e.handle x e.tag), .count o.counter]

/-- The end of a transfer appends its reports. -/
theorem State.endTransfer_grant {s : State} {g : Grant} (h : s.grant = some g) (x : TransferIndex) (e : Transfer)
    (o : TransferOutcome) (b : Binding) : (s.endTransfer x e o b.domain b.key).grant
      = some { g with reports := g.reports ++ transferReports x e o b } := by
  simp [State.endTransfer, transferReports, h]

/-- A grant of a transfer in TRANSFER moves the binding and its count from giver to taker (R74). -/
theorem State.grantToTaker_slot_same {s : State} (h : s.directory.wf = true) (i : Nat) (b : Binding) (e : Transfer) :
    (s.grantToTaker i b e).slot i
      = .occupied { b with tenure := .bound e.taker, handle := e.handle, touched := true, idle := 0 } :=
  State.putBinding_slot_same h i _

theorem State.grantToTaker_slot_other (s : State) {i j : Nat} (h : j ≠ i) (b : Binding) (e : Transfer) :
    (s.grantToTaker i b e).slot j = s.slot j := State.putBinding_slot_other s h _

theorem State.grantToTaker_owned {e : Transfer} (h : e.giver ≠ e.taker) (s : State) (i : Nat) (b : Binding) (q : Port) :
    (s.grantToTaker i b e).owned q
      = if q = e.taker then s.owned q + 1 else if q = e.giver then s.owned q - 1 else s.owned q :=
  State.countOwnerChange_owned h (s.putBinding i _) q

theorem not_mem_filter_ne {α : Type} [DecidableEq α] (l : List α) (x : α) : x ∉ l.filter (fun j => decide (j ≠ x)) := by
  simp

/-- Settles O39: the taker's session state and quota decide. -/
theorem releaseSettlesTransfer : Obligations.ReleaseSettlesTransfer := by
  unfold Obligations.ReleaseSettlesTransfer
  intro s p v rq f d k i b x e hin hb he hwf hf ht hx hgp htp
  subst hgp
  have hrow : Instr.release e.giver ⟨f, none⟩ = rq.body.row e.giver ⟨f, none⟩ := by rw [hb]; rfl
  have hrep := releaseReply_transfer (v := v) he hf ht hx
  obtain ⟨hdom, -⟩ := hf.holds
  by_cases hgo : v.session.get e.taker = .online ∧ s.owned e.taker < s.settings.quota.get e.taker
  · obtain ⟨ho, hq⟩ := hgo
    rw [releaseTransfer, State.takerRefusal_eq_none ho hq] at hrep
    obtain ⟨t, hrun, hc⟩ := hin.course (.release ⟨f, none⟩ d k hb) hrow hrep
      (State.endTransfer_grant (s := s.grantToTaker i b e) (g := .fresh (.executor e.giver) v) (by simp [hin.grant]) x e _ b)
    have hent := fun y => (hc.entry y).trans (State.endTransfer_entry (s.grantToTaker i b e) x e .granted b.domain b.key y)
    refine ⟨t, hrun, fun j hj => ?_, hc.others, by rw [hent, if_pos rfl], fun y hy => by rw [hent, if_neg hy]; rfl, ?_,
      (hc.changes (m := [.directory, .arbiter, .transfers]) (fun y hy => ?_)).mono (by simp),
      fun _ _ => ⟨?_, hc.answers (by simp), fun q => ?_, ?_, ?_, ?_, ?_⟩, fun h => ?_⟩
    · rw [hc.slot, State.endTransfer_slot, State.grantToTaker_slot_other s hj]
    · rw [hc.transfers]
      exact not_mem_filter_ne _ x
    · cases y <;> simp [State.Same] at hy ⊢
    · rw [hc.slot, State.endTransfer_slot, State.grantToTaker_slot_same hwf]
    · rw [hc.owned, State.endTransfer_owned, State.grantToTaker_owned (Ne.symm htp)]
    · rw [hc.domains]
      rfl
    · rw [hc.counted (by simp) (by simp)]
      simp [transferReports, TransferOutcome.counter, Grant.fresh]
    · exact hc.hands _ _ e.giver (by simp [transferReports]) State.receives_directed
    · exact hc.hands _ _ e.taker (by simp [transferReports]) State.receives_directed
    · exact absurd h (by simp [ho, hq])
  · have hno : v.session.get e.taker ≠ .online ∨ s.settings.quota.get e.taker ≤ s.owned e.taker := by
      by_cases ho : v.session.get e.taker = .online
      · exact .inr (Nat.not_lt.1 fun hq => hgo ⟨ho, hq⟩)
      · exact .inl ho
    rw [releaseTransfer, State.takerRefusal_eq_some hno] at hrep
    have hcount : (if v.session.get e.taker = .online then TransferOutcome.quota else .takerGone).counter
        = .device .transfersEnded := by split <;> rfl
    generalize (if v.session.get e.taker = .online then TransferOutcome.quota else .takerGone) = o at hrep hcount ⊢
    obtain ⟨t, hrun, hc⟩ := hin.course
      (l := transferReports x e o b
        ++ [.notice (.subscribers .bindingGone) (.bindingGone .released b.domain b.key (some e.giver) b.handle i)])
      (.release ⟨f, none⟩ d k hb) hrow hrep (by
        simp [State.notifyReleased, State.endTransfer, transferReports, hin.grant, Grant.fresh])
    have hown : b.tenure.owner = some e.giver := by rw [ht]; rfl
    have hdm : t.domains = (s.removeBinding i b).domains := hc.domains.trans (by simp [State.notifyReleased])
    have hent := fun y => (hc.entry y).trans (State.endTransfer_entry (s.removeBinding i b) x e o b.domain b.key y)
    refine ⟨t, hrun, fun j hj => ?_, hc.others, by rw [hent, if_pos rfl],
      fun y hy => by rw [hent, if_neg hy]; simp [State.entry], ?_,
      (hc.changes (m := [.directory, .arbiter, .transfers, .domains]) (fun y hy => ?_)).mono (by simp),
      fun h1 h2 => absurd ⟨h1, h2⟩ hgo, fun _ => ⟨?_, hc.answers (by simp [State.notifyReleased]), fun q => ?_,
        (State.removeBinding_domainCounts s i hown hdom).congr hdm, ?_, ?_⟩⟩
    · rw [hc.slot, State.notifyReleased_slot, State.endTransfer_slot, State.removeBinding_slot_other s hj]
    · rw [hc.transfers]
      exact not_mem_filter_ne _ x
    · cases y <;> simp [State.Same, State.notifyReleased] at hy ⊢
    · rw [hc.slot, State.notifyReleased_slot, State.endTransfer_slot, State.removeBinding_slot_same hwf hf.slot]
    · rw [hc.owned, State.notifyReleased_owned, State.endTransfer_owned, State.removeBinding_owned hown]
    · rw [hc.counted (by simp) (by simp)]
      simp [transferReports, hcount]
    · exact hc.hands _ _ e.giver (by simp [transferReports]) State.receives_directed

end Sys2Proof.Machine
end

section
/-! SUPPORT. Claims by CLAIM and by RESOLVE (chapter 02): creation, preempt, adoption and their refusals. -/

namespace Sys2Proof.Machine

/-! ### The branches of a claim -/

theorem State.Finds.not_misses {s : State} {f : List Nat} {d : DomainId} {k : Key} {i : Nat} {b : Binding}
    (h : s.Finds f d k i b) : ¬ s.Misses f d k := fun hm => hm.none i h.bucket b h.slot h.holds

/-- The pin check of an allowed claim passes (R31). -/
theorem State.ClaimAllowed.pinned {s : State} {p : Port} {d : DomainId} {pin : Bool} (h : s.ClaimAllowed p d pin) :
    (pin && !(s.domain d).policy.pinSet.get p) = false := by
  cases hp : pin with
  | false => rfl
  | true => simp [h.pin hp]

/-- An allowed CLAIM whose lookup misses comes to a creation (R31, R37). -/
theorem claimReply_miss {s : State} {v : View} {p : Port} {a : ClaimArgs} {f : List Nat}
    (ha : s.ClaimAllowed p a.domain a.pin) (hm : s.Misses f a.domain a.key) :
    claimReply v p a f s = createBinding v p a .ok f s := by
  simp [claimReply, ha.enabled, ha.policy.refusalFor, ha.pinned, hm.lookup]

/-- A RESOLVE that misses and goes on as a claim counts its miss first (R30, R192). -/
theorem resolveReply_claims {s : State} {v : View} {p : Port} {a : ClaimArgs} {f : List Nat}
    (he : (s.domain a.domain).policy.enabled = true) (hm : s.Misses f a.domain a.key)
    (hc : (s.domain a.domain).policy.autoClaim = true) :
    resolveReply v p a true f s = match (s.domain a.domain).policy.refusalFor p with
      | some st => refuse (s.countInGrant (.port p .resolveMisses)) st
      | none => createBinding v p a .claimed f (s.countInGrant (.port p .resolveMisses)) := by
  simp only [resolveReply, he, hm.lookup, hc]
  rfl

theorem resolveReply_creates {s : State} {v : View} {p : Port} {a : ClaimArgs} {f : List Nat} {pin : Bool}
    (ha : s.ClaimAllowed p a.domain pin) (hm : s.Misses f a.domain a.key)
    (hc : (s.domain a.domain).policy.autoClaim = true) :
    resolveReply v p a true f s = createBinding v p a .claimed f (s.countInGrant (.port p .resolveMisses)) := by
  rw [resolveReply_claims ha.enabled hm hc, ha.policy.refusalFor]

theorem Policy.refusalFor_closed {pol : Policy} (p : Port) (h : pol.claimPolicy = .closed) :
    pol.refusalFor p = some .closed := by
  simp [Policy.refusalFor, h]

theorem Policy.refusalFor_notMember {pol : Policy} {p : Port} (h : pol.claimPolicy = .members)
    (hp : pol.memberSet.get p = false) : pol.refusalFor p = some .notMember := by
  simp [Policy.refusalFor, h, hp]

/-! ### Creation -/

/-- The binding that a claim creates (R7). -/
def ClaimArgs.binding (a : ClaimArgs) (p : Port) : Binding :=
  ⟨a.domain, a.key, .bound p, a.handle, classAfter a.pin .leased, true, 0⟩

/-- The state once a claim has created its binding (R12, R37, R43). -/
def State.created (s : State) (p : Port) (a : ClaimArgs) (i : Nat) : State :=
  (((s.putBinding i (a.binding p)).countCreation a.domain p).takeCredit p).countInGrant (.port p .claims)

theorem createBinding_cap {s : State} {v : View} {p : Port} {a : ClaimArgs} {st : Status} {f : List Nat}
    (hc : (s.domain a.domain).policy.cap ≤ (s.domain a.domain).count) :
    createBinding v p a st f s = ⟨s, .cap, .none⟩ := if_pos (Nat.not_lt.2 hc)

theorem createBinding_quota {s : State} {v : View} {p : Port} {a : ClaimArgs} {st : Status} {f : List Nat}
    (hc : (s.domain a.domain).count < (s.domain a.domain).policy.cap) (hq : s.settings.quota.get p ≤ s.owned p) :
    createBinding v p a st f s = ⟨s, .quota, .none⟩ := by
  simp [createBinding, hc, State.quotaAllows, Nat.not_lt.2 hq, refuse]

theorem createBinding_throttled {s : State} {v : View} {p : Port} {a : ClaimArgs} {st : Status} {f : List Nat}
    (hc : (s.domain a.domain).count < (s.domain a.domain).policy.cap) (hq : s.owned p < s.settings.quota.get p)
    (hv : v.credit.get p = 0) :
    createBinding v p a st f s = ⟨s.countInGrant (.port p .throttled), .throttled, .none⟩ := by
  simp [createBinding, hc, State.quotaAllows, hq, hv, throttle, refuse]

theorem createBinding_searches {s : State} {v : View} {p : Port} {a : ClaimArgs} {st : Status} {f : List Nat}
    (hc : (s.domain a.domain).count < (s.domain a.domain).policy.cap) (hm : s.MayOwn v p) :
    createBinding v p a st f s = match s.freeWayIn f (s.slotsOf a.domain a.key) with
      | (s1, none) => refuse s1 .full
      | (s1, some i) => ⟨s1.created p a i, st, .claimed i p (classAfter a.pin .leased) a.handle⟩ := by
  have hv : v.credit.get p ≠ 0 := Nat.one_le_iff_ne_zero.1 hm.credit
  simp only [createBinding, hc, State.quotaAllows, hm.quota, hv, State.created, ClaimArgs.binding, not_true_eq_false,
    decide_true, Bool.not_true, Bool.false_eq_true, if_false] <;> rfl

theorem State.freeWayIn_full {s : State} {f l : List Nat} (h : ∀ j ∈ l, s.slot j ≠ .free) :
    s.freeWayIn f l = (s, none) := by
  induction l with
  | nil => rfl
  | cons i rest ih =>
    have hi := h i List.mem_cons_self
    have ih := ih fun j hj => h j (List.mem_cons_of_mem _ hj)
    unfold State.freeWayIn
    cases hs : s.slot i with
    | free => exact absurd hs hi
    | undefined | occupied _ | defective => exact ih

theorem createBinding_full {s : State} {v : View} {p : Port} {a : ClaimArgs} {st : Status} {f : List Nat}
    (hc : (s.domain a.domain).count < (s.domain a.domain).policy.cap) (hm : s.MayOwn v p)
    (hf : ∀ j ∈ s.slotsOf a.domain a.key, s.slot j ≠ .free) : createBinding v p a st f s = ⟨s, .full, .none⟩ := by
  rw [createBinding_searches hc hm, State.freeWayIn_full hf]
  rfl

theorem createBinding_lowest {s : State} {v : View} {p : Port} {a : ClaimArgs} {st : Status} {f : List Nat} {i : Nat}
    (hc : (s.domain a.domain).count < (s.domain a.domain).policy.cap) (hm : s.MayOwn v p)
    (hs : ∀ j ∈ s.slotsOf a.domain a.key, j ∉ f) (hl : s.LowestFree a.domain a.key i) :
    createBinding v p a st f s = ⟨s.created p a i, st, .claimed i p (classAfter a.pin .leased) a.handle⟩ := by
  rw [createBinding_searches hc hm, State.freeWayIn_lowest hs (bucketSlots_rising _) hl.bucket hl.free hl.lowest]

theorem State.created_slot_same {s : State} (h : s.directory.wf = true) (p : Port) (a : ClaimArgs) (i : Nat) :
    (s.created p a i).slot i = .occupied (a.binding p) := State.putBinding_slot_same h i _

theorem State.created_slot_other (s : State) (p : Port) (a : ClaimArgs) {i j : Nat} (h : j ≠ i) :
    (s.created p a i).slot j = s.slot j := State.putBinding_slot_other s h _

theorem State.created_port (s : State) (p : Port) (a : ClaimArgs) (i : Nat) :
    (s.created p a i).port p = { s.port p with claimCredit := (s.port p).claimCredit - 1 } :=
  (State.takeCredit_port ((s.putBinding i (a.binding p)).countCreation a.domain p) p p).trans (if_pos rfl)

theorem State.created_owned (s : State) (p : Port) (a : ClaimArgs) (i : Nat) (q : Port) :
    (s.created p a i).owned q = if q = p then s.owned q + 1 else s.owned q :=
  State.countCreation_owned (s.putBinding i (a.binding p)) a.domain p q

theorem State.created_domainCounts (s : State) (p : Port) (a : ClaimArgs) (i : Nat) :
    s.DomainCounts (s.created p a i) a.domain ((s.domain a.domain).count + 1) (s.domain a.domain).orphans :=
  have hd := State.countCreation_domain (s.putBinding i (a.binding p)) a.domain p
  ⟨(hd _).trans (if_pos rfl), fun e he => (hd e).trans (if_neg he)⟩

theorem State.created_changes (s : State) (p : Port) (a : ClaimArgs) (i : Nat) :
    s.ChangesOnly (s.created p a i) [.directory, .domains, .ports, .arbiter] := fun x hx => by
  cases x <;> simp [State.Same, State.created] at hx ⊢

theorem State.created_grant {s : State} {g : Grant} (h : s.grant = some g) (p : Port) (a : ClaimArgs) (i : Nat) :
    (s.created p a i).grant = some { g with reports := g.reports ++ [.count (.port p .claims)] } := by
  simp [State.created, h]

/-- Settles O33: the creation stands on the state as it was, or on one that has counted the miss of a RESOLVE. -/
theorem claimCreates : Obligations.ClaimCreates := by
  unfold Obligations.ClaimCreates
  intro s p v rq f d k h pin i hin hallow hwf hmiss hcap hown hlow c st hc
  obtain ⟨force, w, act, l, hact, hrow, hrep, hw, hwl⟩ : ∃ (force : Bool) (w : State) (act : State → Reply) (l : List Report),
      GrantedAct p v rq c none act ∧ c = rq.body.row p ⟨f, none⟩
        ∧ act s = ⟨w.created p ⟨asDomain d, k, h, pin, force⟩ i, st, .claimed i p (classAfter pin .leased) h⟩
        ∧ (w = s ∨ w = s.countInGrant (.port p .resolveMisses))
        ∧ w.grant = some ⟨.executor p, v, l, none⟩ ∧ l.count (.count (.port p .claims)) = 0
        ∧ ∀ x, .count (.device x) ∉ l := by
    rcases hc with ⟨force, hb, rfl, rfl⟩ | ⟨hb, hauto, rfl, rfl, rfl⟩
    · refine ⟨force, s, _, [], .claim ⟨f, none⟩ d k h pin force hb, by rw [hb]; rfl, ?_, .inl rfl, hin.grant, rfl, by simp⟩
      rw [claimReply_miss hallow hmiss]
      exact createBinding_lowest hcap hown hmiss.sound hlow
    · refine ⟨false, s.countInGrant (.port p .resolveMisses), _, [.count (.port p .resolveMisses)],
        .resolve ⟨f, none⟩ d k true h hb, by rw [hb]; rfl, ?_, .inr rfl, by simp [hin.grant, Grant.fresh], by simp, by simp⟩
      rw [resolveReply_creates hallow hmiss hauto]
      exact createBinding_lowest (s := s.countInGrant (.port p .resolveMisses)) hcap ⟨hown.quota, hown.credit⟩
        hmiss.sound ⟨hlow.bucket, hlow.free, hlow.lowest⟩
  obtain ⟨hg, hl, hdev⟩ := hwl
  have hch : s.ChangesOnly w [.arbiter] := by
    rcases hw with rfl | rfl
    · exact .refl _ _
    · exact s.countInGrant_changes _
  have hdir : w.directory = s.directory := hch .directory (by simp)
  have hports : w.ports = s.ports := hch .ports (by simp)
  have hslot : ∀ j, w.slot j = s.slot j := fun j => by rw [State.slot, hdir, State.slot]
  obtain ⟨t, hrun, hcourse⟩ := hin.course hact hrow hrep (State.created_grant hg p _ i)
  refine ⟨t, hrun, ?_, fun j hj => ?_, ?_, hcourse.others, fun q => ?_, ?_,
    ?_, ?_,
    (hcourse.changesPort (hch.trans (w.created_changes p _ i)) fun x hx => ?_).mono (by simp)⟩
  · rw [hcourse.slot, State.created_slot_same (hdir ▸ hwf)]
    rfl
  · rw [hcourse.slot, State.created_slot_other w p _ hj, hslot]
  · rw [hcourse.port, State.created_port, State.port, hports]
    rfl
  · rw [hcourse.owned, State.created_owned, State.owned, hdir]
    rfl
  · rw [hcourse.orphanTotal, ← hdir]
    rfl
  · have hdc := (State.created_domainCounts w p ⟨asDomain d, k, h, pin, force⟩ i).congr hcourse.domains
    rcases hw with rfl | rfl <;> exact hdc
  · rw [hcourse.counted (by simp) (by simp), List.count_append, hl]
    simp
  · exact hdev x (by simpa using hx)

/-! ### Preempt and adoption -/

/-- The state once a claim has taken a binding, counted as `g` counts it (R35, R36, R43). -/
def State.taken (s : State) (p : Port) (a : ClaimArgs) (i : Nat) (b : Binding) (g : State → State) : State :=
  (g (s.putBinding i (takenBinding p a b))).takeCredit p

theorem preemptBinding_taken {s : State} {v : View} {p o : Port} {a : ClaimArgs} {i : Nat} {b : Binding}
    (hm : s.MayOwn v p) : preemptBinding v p a i b o s
      = ⟨((s.taken p a i b (·.countOwnerChange o p)).notifyInGrant (.directed o)
          (.preempted b.domain b.key p b.handle i)).countInGrant (.port p .claims), .ok,
        .claimed i p (classAfter a.pin b.cls) a.handle⟩ := by
  have hv : v.credit.get p ≠ 0 := Nat.one_le_iff_ne_zero.1 hm.credit
  simp only [preemptBinding, State.quotaAllows, hm.quota, hv, decide_true, Bool.not_true, Bool.false_eq_true, if_false]
  rfl

/-- How an adoption counts, by the state the binding had (R12). -/
def countAdoption (p : Port) (b : Binding) (s : State) : State :=
  match b.tenure with
  | .bound o => s.countOwnerChange o p
  | .transfer g _ => s.countOwnerChange g p
  | .orphaned => s.countOrphanAdoption p b.domain

theorem adoptBinding_taken {s : State} {v : View} {p : Port} {a : ClaimArgs} {i : Nat} {b : Binding} (hm : s.MayOwn v p) :
    adoptBinding v p a i b s = ⟨(s.taken p a i b (countAdoption p b)).countInGrant (.port p .claims), .ok,
      .claimed i p (classAfter a.pin b.cls) a.handle⟩ := by
  have hv : v.credit.get p ≠ 0 := Nat.one_le_iff_ne_zero.1 hm.credit
  simp only [adoptBinding, State.quotaAllows, hm.quota, hv, decide_true, Bool.not_true, Bool.false_eq_true, if_false]
  rfl

theorem claimHit_preempts {v : View} {p o : Port} {a : ClaimArgs} {i : Nat} {b : Binding} {s : State}
    (hb : b.tenure = .bound o) (ho : o ≠ p) (hv : v.session.get o = .online) (hf : a.force = true)
    (hp : (s.domain b.domain).policy.preemptSet.get p = true) : claimHit v p a i b s = preemptBinding v p a i b o s := by
  simp [claimHit, hb, ho, hv, hf, hp]

theorem claimHit_adopts {v : View} {p : Port} {a : ClaimArgs} {i : Nat} {b : Binding} {s : State}
    (h : b.tenure = .orphaned ∨ ∃ o, b.tenure = .bound o ∧ o ≠ p ∧ v.session.get o ≠ .online) :
    claimHit v p a i b s = adoptBinding v p a i b s := by
  rcases h with hb | ⟨o, hb, ho, hv⟩
  · simp [claimHit, hb]
  · simp [claimHit, hb, ho, hv]

section
variable {s : State} {p : Port} {a : ClaimArgs} {i : Nat} {b : Binding} {g : State → State}

theorem State.taken_slot_same (h : s.directory.wf = true) (hg : ∀ (w : State) j, (g w).slot j = w.slot j) :
    (s.taken p a i b g).slot i = .occupied (takenBinding p a b) :=
  (hg _ i).trans (State.putBinding_slot_same h i _)

theorem State.taken_slot_other (hg : ∀ (w : State) j, (g w).slot j = w.slot j) {j : Nat} (h : j ≠ i) :
    (s.taken p a i b g).slot j = s.slot j := (hg _ j).trans (State.putBinding_slot_other s h _)

theorem State.taken_port (hg : ∀ w, (g w).ports = w.ports) :
    (s.taken p a i b g).port p = { s.port p with claimCredit := (s.port p).claimCredit - 1 } := by
  have : ∀ q, (g (s.putBinding i (takenBinding p a b))).port q = s.port q := fun q => by
    rw [State.port, hg]
    simp [State.port]
  rw [State.taken, State.takeCredit_port, if_pos rfl, this]

end

theorem countAdoption_bound (p : Port) {b : Binding} {o : Port} (h : b.tenure = .bound o) (s : State) :
    countAdoption p b s = s.countOwnerChange o p := by
  rw [countAdoption, h]

theorem countAdoption_orphaned (p : Port) {b : Binding} (h : b.tenure = .orphaned) (s : State) :
    countAdoption p b s = s.countOrphanAdoption p b.domain := by
  rw [countAdoption, h]

theorem countAdoption_slot (p : Port) (b : Binding) (s : State) (j : Nat) : (countAdoption p b s).slot j = s.slot j := by
  unfold countAdoption
  split <;> rfl

theorem countAdoption_frame (p : Port) (b : Binding) (s : State) :
    s.ChangesOnly (countAdoption p b s) [.directory, .domains] ∧ (countAdoption p b s).grant = s.grant := by
  unfold countAdoption
  refine ⟨fun x hx => ?_, ?_⟩
  · split <;> cases x <;> simp [State.Same] at hx ⊢
  · split <;> simp

theorem State.takeCredit_changes (s : State) (p : Port) : s.ChangesOnly (s.takeCredit p) [.ports] := fun x hx => by
  cases x <;> simp [State.Same] at hx ⊢

/-- Settles O35: the hit branches to a preempt, whose owner change, credit and reports are those of the grant. -/
theorem claimPreempts : Obligations.ClaimPreempts := by
  unfold Obligations.ClaimPreempts
  intro s p o v rq f d k h pin i b hin hb hallow hwf hf ht hop hv hpre hown
  obtain ⟨hdom, -⟩ := hf.holds
  have hrep := claimReply_hit (a := ⟨asDomain d, k, h, pin, true⟩) (v := v) hallow hf
  rw [claimHit_preempts ht hop hv rfl (by rw [hdom]; exact hpre), preemptBinding_taken hown] at hrep
  obtain ⟨t, hrun, hc⟩ := hin.course
    (l := [.notice (.directed o) (.preempted b.domain b.key p b.handle i), .count (.port p .claims)])
    (.claim ⟨f, none⟩ d k h pin true hb) (by rw [hb]; rfl) hrep (by simp [State.taken, hin.grant, Grant.fresh])
  refine ⟨t, hrun, ?_, fun j hj => ?_, ?_, hc.others, fun q => ?_, ?_, ?_, ?_,
    (hc.changesPort (m := [.directory, .ports, .arbiter]) (fun x hx => ?_) (by simp)).mono (by simp)⟩
  · rw [hc.slot]
    exact State.taken_slot_same hwf fun _ _ => rfl
  · rw [hc.slot]
    exact State.taken_slot_other (fun _ _ => rfl) hj
  · rw [hc.port]
    exact congrArg (PortController.answered · _)
      (State.taken_port (s := s) (a := ⟨asDomain d, k, h, pin, true⟩) (i := i) (b := b) (g := (·.countOwnerChange o p))
        fun _ => rfl)
  · rw [hc.owned]
    exact State.countOwnerChange_owned hop (s.putBinding i _) q
  · rw [hc.orphanTotal]
    rfl
  · exact hc.hands _ _ o List.mem_cons_self State.receives_directed
  · rw [hc.counted (by simp) (by simp)]
    simp
  · cases x <;> simp [State.Same, State.taken] at hx ⊢

/-- Settles O36: the hit branches to an adoption, which counts by the state the binding had. -/
theorem claimAdopts : Obligations.ClaimAdopts := by
  unfold Obligations.ClaimAdopts
  intro s p v rq f d k h pin force i b hin hb hallow hwf hf ht hown
  obtain ⟨hdom, -⟩ := hf.holds
  have hrep := claimReply_hit (a := ⟨asDomain d, k, h, pin, force⟩) (v := v) hallow hf
  rw [claimHit_adopts ht, adoptBinding_taken hown] at hrep
  have hgr : ((s.taken p ⟨asDomain d, k, h, pin, force⟩ i b (countAdoption p b)).countInGrant (.port p .claims)).grant
      = some ⟨.executor p, v, [.count (.port p .claims)], none⟩ := by
    simp [State.taken, countAdoption_frame, hin.grant, Grant.fresh]
  obtain ⟨t, hrun, hc⟩ := hin.course (.claim ⟨f, none⟩ d k h pin force hb) (by rw [hb]; rfl) hrep hgr
  have hfr := (countAdoption_frame p b (s.putBinding i (takenBinding p ⟨asDomain d, k, h, pin, force⟩ b))).1
  refine ⟨t, hrun, ?_, fun j hj => ?_, ?_, hc.others, fun o hbt => ⟨fun q => ?_, ?_, ?_⟩,
    fun hbt => ⟨fun q => ?_, ?_, ?_, fun e he => ?_⟩, ?_,
    (hc.changesPort (((s.putBinding_changes i _).trans hfr).trans
      ((State.takeCredit_changes _ p).trans (State.countInGrant_changes _ _))) (by simp)).mono (by simp)⟩
  · rw [hc.slot]
    exact State.taken_slot_same hwf fun w j => countAdoption_slot p b w j
  · rw [hc.slot]
    exact State.taken_slot_other (fun w j => countAdoption_slot p b w j) hj
  · rw [hc.port]
    exact congrArg (PortController.answered · _)
      (State.taken_port (s := s) (a := ⟨asDomain d, k, h, pin, force⟩) (i := i) (b := b) (g := countAdoption p b)
        fun w => (countAdoption_frame p b w).1 .ports (by simp))
  · rw [hc.owned]
    have hop : o ≠ p := by
      rcases ht with ht | ⟨o', ht, hne, -⟩ <;> rw [ht] at hbt <;> cases hbt
      exact hne
    refine Eq.trans ?_ (State.countOwnerChange_owned hop (s.putBinding i (takenBinding p ⟨asDomain d, k, h, pin, force⟩ b)) q)
    rw [← countAdoption_bound p hbt]
    rfl
  · rw [hc.orphanTotal]
    exact congrArg (·.directory.orphanTotal)
      (countAdoption_bound p hbt (s.putBinding i (takenBinding p ⟨asDomain d, k, h, pin, force⟩ b)))
  · rw [hc.domains]
    exact congrArg (·.domains)
      (countAdoption_bound p hbt (s.putBinding i (takenBinding p ⟨asDomain d, k, h, pin, force⟩ b)))
  · rw [hc.owned]
    exact (congrArg (·.owned q) (countAdoption_orphaned p hbt
      (s.putBinding i (takenBinding p ⟨asDomain d, k, h, pin, force⟩ b)))).trans (State.countOrphanAdoption_owned _ p _ q)
  · rw [hc.orphanTotal]
    exact congrArg (·.directory.orphanTotal)
      (countAdoption_orphaned p hbt (s.putBinding i (takenBinding p ⟨asDomain d, k, h, pin, force⟩ b)))
  · rw [hc.domain, ← hdom]
    exact (congrArg (·.domain b.domain) (countAdoption_orphaned p hbt
      (s.putBinding i (takenBinding p ⟨asDomain d, k, h, pin, force⟩ b)))).trans
      ((State.countOrphanAdoption_domain _ p _ _).trans (if_pos rfl))
  · rw [hc.domain]
    rw [← hdom] at he
    exact (congrArg (·.domain e) (countAdoption_orphaned p hbt
      (s.putBinding i (takenBinding p ⟨asDomain d, k, h, pin, force⟩ b)))).trans
      ((State.countOrphanAdoption_domain _ p _ _).trans (if_neg he))
  · rw [hc.counted (by simp) (by simp)]
    simp

/-! ### Refusals -/

/-- A refused claim leaves the state, but for the count of a claim that is throttled (R43, R192). -/
def State.refusedClaim (s : State) (p : Port) (st : Status) : State :=
  if st = .throttled then s.countInGrant (.port p .throttled) else s

theorem State.WouldOwn.hit {s : State} {p : Port} {v : View} {f : List Nat} {d : DomainId} {k : Key} {force : Bool}
    (h : s.WouldOwn p v f d k force) (hno : ¬ s.Misses f d k) : ∃ i b, s.Finds f d k i b
      ∧ (b.tenure = .orphaned ∨ ∃ o, b.tenure = .bound o ∧ o ≠ p
        ∧ (v.session.get o ≠ .online ∨ (force = true ∧ (s.domain d).policy.preemptSet.get p = true))) :=
  h.resolve_left fun hm => hno hm.1

/-- The refusal of a preempt or of an adoption (R38, R43). -/
theorem claimHit_refused {s : State} {v : View} {p : Port} {a : ClaimArgs} {i : Nat} {b : Binding} {st : Status}
    (h : b.tenure = .orphaned ∨ ∃ o, b.tenure = .bound o ∧ o ≠ p
      ∧ (v.session.get o ≠ .online ∨ (a.force = true ∧ (s.domain b.domain).policy.preemptSet.get p = true)))
    (hs : (st = .quota ∧ s.settings.quota.get p ≤ s.owned p)
      ∨ (st = .throttled ∧ s.owned p < s.settings.quota.get p ∧ v.credit.get p = 0)) :
    claimHit v p a i b s = ⟨s.refusedClaim p st, st, .none⟩ := by
  have hadopt : adoptBinding v p a i b s = ⟨s.refusedClaim p st, st, .none⟩ := by
    rcases hs with ⟨rfl, hq⟩ | ⟨rfl, hq, hv⟩
    · simp [adoptBinding, State.quotaAllows, Nat.not_lt.2 hq, refuse, State.refusedClaim]
    · simp [adoptBinding, State.quotaAllows, hq, hv, throttle, refuse, State.refusedClaim]
  have hpre : ∀ o, preemptBinding v p a i b o s = ⟨s.refusedClaim p st, st, .none⟩ := fun o => by
    rcases hs with ⟨rfl, hq⟩ | ⟨rfl, hq, hv⟩
    · simp [preemptBinding, State.quotaAllows, Nat.not_lt.2 hq, refuse, State.refusedClaim]
    · simp [preemptBinding, State.quotaAllows, hq, hv, throttle, refuse, State.refusedClaim]
  rcases h with ht | ⟨o, ht, ho, hv⟩
  · rw [claimHit_adopts (.inl ht), hadopt]
  · by_cases hon : v.session.get o = .online
    · obtain ⟨hf, hp⟩ := hv.resolve_left fun hn => hn hon
      rw [claimHit_preempts ht ho hon hf hp, hpre]
    · rw [claimHit_adopts (.inr ⟨o, ht, ho, hon⟩), hadopt]

/-- What refuses the creation after a miss (R37, R38, R43). -/
inductive State.CreationRefused (s : State) (p : Port) (v : View) (d : DomainId) (k : Key) : Status → Prop where
  | cap : (s.domain d).policy.cap ≤ (s.domain d).count → s.CreationRefused p v d k .cap
  | quota : (s.domain d).count < (s.domain d).policy.cap → s.settings.quota.get p ≤ s.owned p →
      s.CreationRefused p v d k .quota
  | throttled : (s.domain d).count < (s.domain d).policy.cap → s.owned p < s.settings.quota.get p →
      v.credit.get p = 0 → s.CreationRefused p v d k .throttled
  | full : (s.domain d).count < (s.domain d).policy.cap → s.MayOwn v p → (∀ j ∈ s.slotsOf d k, s.slot j ≠ .free) →
      s.CreationRefused p v d k .full

theorem State.CreationRefused.reply {s : State} {p : Port} {v : View} {a : ClaimArgs} {st success : Status} {f : List Nat}
    (h : s.CreationRefused p v a.domain a.key st) :
    createBinding v p a success f s = ⟨s.refusedClaim p st, st, .none⟩ := by
  cases h with
  | cap hc => exact createBinding_cap hc
  | quota hc hq => exact createBinding_quota hc hq
  | throttled hc hq hv => exact createBinding_throttled hc hq hv
  | full hc hm hf => exact createBinding_full hc hm hf

theorem State.CreationRefused.counted {s : State} {p : Port} {v : View} {d : DomainId} {k : Key} {st : Status}
    (h : s.CreationRefused p v d k st) (c : CounterId) : (s.countInGrant c).CreationRefused p v d k st := by
  cases h with
  | cap hc => exact .cap hc
  | quota hc hq => exact .quota hc hq
  | throttled hc hq hv => exact .throttled hc hq hv
  | full hc hm hf => exact .full hc ⟨hm.quota, hm.credit⟩ hf

/-- A claim that misses is refused by the policy, by its pin, or as a creation. -/
theorem State.ClaimRefused.misses {s : State} {p : Port} {v : View} {f : List Nat} {d : DomainId} {k : Key}
    {pin force : Bool} {st : Status} {res : Result} (h : s.ClaimRefused p v f d k pin force st res)
    (hm : s.Misses f d k) : res = .none ∧ ((s.domain d).policy.refusalFor p = some st ∧ st ≠ .throttled
      ∨ pin = true ∧ st = .notPermitted ∨ s.ClaimAllowed p d pin ∧ s.CreationRefused p v d k st) := by
  cases h with
  | closed hc => exact ⟨rfl, .inl ⟨Policy.refusalFor_closed p hc, by decide⟩⟩
  | notMember hc hp => exact ⟨rfl, .inl ⟨Policy.refusalFor_notMember hc hp, by decide⟩⟩
  | notPermitted ha hp hs => exact ⟨rfl, .inr (.inl ⟨hp, rfl⟩)⟩
  | busy i b g x ha hf ht => exact absurd hm hf.not_misses
  | owned i b o ha hf ht ho hv hn => exact absurd hm hf.not_misses
  | cap ha _ hc => exact ⟨rfl, .inr (.inr ⟨ha, .cap hc⟩)⟩
  | quota ha hw hq =>
    rcases hw with ⟨-, hc⟩ | ⟨i, b, hf, -⟩
    · exact ⟨rfl, .inr (.inr ⟨ha, .quota hc hq⟩)⟩
    · exact absurd hm hf.not_misses
  | throttled ha hw hq hv =>
    rcases hw with ⟨-, hc⟩ | ⟨i, b, hf, -⟩
    · exact ⟨rfl, .inr (.inr ⟨ha, .throttled hc hq hv⟩)⟩
    · exact absurd hm hf.not_misses
  | full ha _ hc ho hf => exact ⟨rfl, .inr (.inr ⟨ha, .full hc ho hf⟩)⟩

/-- A refused CLAIM (R31). -/
theorem claimReply_refused {s : State} {v : View} {p : Port} {a : ClaimArgs} {f : List Nat} {st : Status} {res : Result}
    (he : (s.domain a.domain).policy.enabled = true)
    (h : s.ClaimRefused p v f a.domain a.key a.pin a.force st res) :
    claimReply v p a f s = ⟨s.refusedClaim p st, st, res⟩ := by
  cases h with
  | closed hc => simp [claimReply, he, Policy.refusalFor_closed p hc, refuse, State.refusedClaim]
  | notMember hc hp => simp [claimReply, he, Policy.refusalFor_notMember hc hp, refuse, State.refusedClaim]
  | notPermitted ha hp hs => simp [claimReply, he, ha.refusalFor, hp, hs, refuse, State.refusedClaim]
  | busy i b g x ha hf ht =>
    rw [claimReply_hit ha hf]
    simp [claimHit, ht, refuse, State.refusedClaim]
  | owned i b o ha hf ht ho hv hn =>
    obtain ⟨hdom, -⟩ := hf.holds
    rw [claimReply_hit ha hf]
    have hno : (a.force && (s.domain a.domain).policy.preemptSet.get p) = false := by simpa using hn
    simp only [claimHit, ht, ho, hv, hdom, hno, State.refusedClaim]
    rfl
  | cap ha hm hc => exact (claimReply_miss ha hm).trans (State.CreationRefused.reply (.cap hc))
  | quota ha hw hq =>
    rcases hw with ⟨hm, hc⟩ | ⟨i, b, hf, ht⟩
    · exact (claimReply_miss ha hm).trans (State.CreationRefused.reply (.quota hc hq))
    · obtain ⟨hdom, -⟩ := hf.holds
      exact (claimReply_hit ha hf).trans (claimHit_refused (hdom ▸ ht) (.inl ⟨rfl, hq⟩))
  | throttled ha hw hq hv =>
    rcases hw with ⟨hm, hc⟩ | ⟨i, b, hf, ht⟩
    · exact (claimReply_miss ha hm).trans (State.CreationRefused.reply (.throttled hc hq hv))
    · obtain ⟨hdom, -⟩ := hf.holds
      exact (claimReply_hit ha hf).trans (claimHit_refused (hdom ▸ ht) (.inr ⟨rfl, hq, hv⟩))
  | full ha hm hc ho hf => exact (claimReply_miss ha hm).trans (State.CreationRefused.reply (.full hc ho hf))

/-- A RESOLVE that misses and is refused as a claim without PIN (R30). -/
theorem resolveReply_refused {s : State} {v : View} {p : Port} {a : ClaimArgs} {f : List Nat} {st : Status} {res : Result}
    (he : (s.domain a.domain).policy.enabled = true) (hm : s.Misses f a.domain a.key)
    (hc : (s.domain a.domain).policy.autoClaim = true) (h : s.ClaimRefused p v f a.domain a.key false false st res) :
    resolveReply v p a true f s = ⟨(s.countInGrant (.port p .resolveMisses)).refusedClaim p st, st, res⟩ := by
  obtain ⟨rfl, ⟨hp, hst⟩ | ⟨hp, -⟩ | ⟨ha, hcr⟩⟩ := h.misses hm
  · rw [resolveReply_claims he hm hc, hp]
    simp [refuse, State.refusedClaim, hst]
  · cases hp
  · rw [resolveReply_creates ha hm hc]
    exact (hcr.counted _).reply

theorem State.ClaimRefused.isRefusal {s : State} {p : Port} {v : View} {f : List Nat} {d : DomainId} {k : Key}
    {pin force : Bool} {st : Status} {res : Result} (h : s.ClaimRefused p v f d k pin force st res) :
    st.isRefusal = true := by
  cases h <;> rfl

theorem State.refusedClaim_changes (s : State) (p : Port) (st : Status) :
    s.ChangesOnly (s.refusedClaim p st) [.arbiter] ∧ (s.refusedClaim p st).ports = s.ports := by
  unfold State.refusedClaim
  split
  · exact ⟨s.countInGrant_changes _, by simp⟩
  · exact ⟨.refl _ _, rfl⟩

theorem State.refusedClaim_grant {s : State} {g : Grant} (h : s.grant = some g) (p : Port) (st : Status) :
    (s.refusedClaim p st).grant
      = some { g with reports := g.reports ++ if st = .throttled then [.count (.port p .throttled)] else [] } := by
  unfold State.refusedClaim
  split <;> simp [h]

/-- A request that names a domain that is not enabled (R25). -/
theorem DomainOff.act {s : State} {p : Port} {v : View} {rq : RequestFrame} {d : Nat} {k : Key} (f : List Nat)
    (he : (s.domain (asDomain d)).policy.enabled = false)
    (h : (∃ cl h, rq.body = .resolve d k cl h) ∨ (∃ h pin force, rq.body = .claim d k h pin force) ∨ rq.body = .release d k
      ∨ rq.body = .touch d k ∨ (∃ h, rq.body = .handoverAsk d k h)) :
    ∃ act, GrantedAct p v rq (rq.body.row p ⟨f, none⟩) none act ∧ act s = ⟨s, .domainOff, .none⟩ := by
  rcases h with ⟨cl, h, hb⟩ | ⟨h, pin, force, hb⟩ | hb | hb | ⟨h, hb⟩ <;> rw [show rq.body.row p ⟨f, none⟩ = _ by rw [hb, Request.row]]
  · exact ⟨_, .resolve ⟨f, none⟩ d k cl h hb, by simp [resolveReply, he, refuse]⟩
  · exact ⟨_, .claim ⟨f, none⟩ d k h pin force hb, by simp [claimReply, he, refuse]⟩
  · exact ⟨_, .release ⟨f, none⟩ d k hb, by simp [releaseReply, he, refuse]⟩
  · exact ⟨_, .touch ⟨f, none⟩ d k hb, by simp [touchReply, he, refuse]⟩
  · exact ⟨_, .ask ⟨f, none⟩ d k h hb, by simp [askReply, he, refuse]⟩

/-- Settles O37: a refused claim reports at most the miss of a RESOLVE and a throttling, and moves nothing. -/
theorem claimRefusals : Obligations.ClaimRefusals := by
  unfold Obligations.ClaimRefusals
  refine ⟨fun s p v rq f d k h pin force c st res hin he hc href => ?_, fun s p v rq f d k hin he hb => ?_⟩
  · obtain ⟨w, act, l, hact, hrow, hrep, hw, hwp, hwg, hl⟩ : ∃ (w : State) (act : State → Reply) (l : List Report),
        GrantedAct p v rq c none act ∧ c = rq.body.row p ⟨f, none⟩ ∧ act s = ⟨w.refusedClaim p st, st, res⟩
          ∧ s.ChangesOnly w [.arbiter] ∧ w.ports = s.ports ∧ w.grant = some ⟨.executor p, v, l, none⟩
          ∧ l = if c = .resolve p ⟨f, none⟩ then [.count (.port p .resolveMisses)] else [] := by
      rcases hc with ⟨hb, rfl⟩ | ⟨hb, rfl, rfl, hm, hauto, rfl⟩
      · exact ⟨s, _, [], .claim ⟨f, none⟩ d k h pin force hb, by rw [hb]; rfl,
          claimReply_refused (a := ⟨asDomain d, k, h, pin, force⟩) he href, .refl _ _, rfl, hin.grant,
          (if_neg fun h => (nomatch h)).symm⟩
      · exact ⟨s.countInGrant (.port p .resolveMisses), _, [.count (.port p .resolveMisses)],
          .resolve ⟨f, none⟩ d k true h hb, by rw [hb]; rfl,
          resolveReply_refused (a := ⟨asDomain d, k, h, false, false⟩) he hm hauto href, s.countInGrant_changes _, by simp,
          by simp [hin.grant, Grant.fresh], (if_pos rfl).symm⟩
    obtain ⟨hrc, hrp⟩ := w.refusedClaim_changes p st
    obtain ⟨t, hrun, hcourse⟩ := hin.course hact hrow hrep (State.refusedClaim_grant hwg p st)
    subst hl
    refine ⟨t, hrun, hcourse.answers (hrp.trans hwp), hcourse.refusals href.isRefusal ?_, ?_, ?_,
      (hcourse.changesPort (hw.trans hrc) ?_).mono (by simp)⟩
    · split <;> split <;> simp
    · rw [hcourse.counted (by simp) (by simp)]
      split <;> split <;> simp
    · rw [hcourse.counted (by simp) (by simp)]
      split <;> split <;> simp
    · split <;> split <;> simp
  · obtain ⟨act, hact, hrep⟩ := DomainOff.act f he hb
    obtain ⟨t, hrun, hans, hc, hch, -⟩ := hin.unchanged hact rfl hrep
    exact ⟨t, hrun, hans, hc.refusals rfl List.not_mem_nil, hch⟩

end Sys2Proof.Machine
end

section
/-! SUPPORT. The handover (chapter 04): HANDOVER_ASK, HANDOVER_REPLY and the expiry resolution. -/

namespace Sys2Proof.Machine

/-! ### The rotating search of an entry -/

/-- R70: the first FREE entry after the last allocated one. -/
theorem State.freeIndex_first {s : State} {m : Nat} {x : TransferIndex} (hm : m < 32)
    (hx : x.val = (s.transfers.lastAllocated.val + 1 + m) % 32) (he : s.entry x = none)
    (hf : ∀ n y, n < m → y.val = (s.transfers.lastAllocated.val + 1 + n) % 32 → s.entry y ≠ none) :
    s.freeIndex = some x := by
  have hval : ∀ n, n < 32 → (s.transfers.lastAllocated + 1 + Fin.ofNat 32 n).val
      = (s.transfers.lastAllocated.val + 1 + n) % 32 := fun n hn => by
    simp [Fin.val_add, Fin.ofNat]
  have hxm : s.transfers.lastAllocated + 1 + Fin.ofNat 32 m = x := Fin.ext ((hval m hm).trans hx.symm)
  unfold State.freeIndex indicesAfter
  rw [List.find?_map, Option.map_eq_some_iff]
  refine ⟨m, List.find?_range_eq_some.2 ⟨?_, List.mem_range.2 hm, fun n hn => ?_⟩, hxm⟩
  · simp only [Function.comp_apply, hxm, he, Option.isNone_none]
  · have := hf n _ hn (hval n (by omega))
    simpa [Option.isSome_iff_ne_none] using this

theorem State.freeIndex_none {s : State} (h : ∀ x, s.entry x ≠ none) : s.freeIndex = none :=
  List.find?_eq_none.2 fun x _ => by simpa [Option.isNone_iff_eq_none] using h x

/-! ### HANDOVER_ASK -/

/-- HANDOVER_ASK of a BOUND binding of another port that is ONLINE, in its order of checks (R77). -/
theorem askReply_bound {s : State} {v : View} {p g : Port} {tag : Byte} {d : DomainId} {k : Key} {h : Handle} {f : List Nat}
    {i : Nat} {b : Binding} (he : (s.domain d).policy.enabled = true) (hf : s.Finds f d k i b) (hb : b.tenure = .bound g)
    (hg : g ≠ p) (hv : v.session.get g = .online) :
    askReply v p tag d k h f s = match (s.domain d).policy.refusalFor p with
      | some st => refuse s st
      | none => if !s.quotaAllows p then refuse s .quota else
        match s.freeIndex with
        | none => refuse s .busy
        | some x => offerTransfer p h tag i b g x s := by
  simp only [askReply, he, hf.lookup, hb, Tenure.owner, Option.some.injEq, if_neg hg, hv]
  rfl

/-- The state once a transfer has been offered, but for its notice (R78). -/
def State.offered (s : State) (p : Port) (h : Handle) (tag : Byte) (i : Nat) (b : Binding) (g : Port) (x : TransferIndex) :
    State :=
  ((s.setEntry x (some ⟨.pending, i, g, p, s.settings.transferTimeout, tag, h⟩)).withTransfers
    { (s.setEntry x (some ⟨.pending, i, g, p, s.settings.transferTimeout, tag, h⟩)).transfers with lastAllocated := x }).putBinding
      i { b with tenure := .transfer g x }

theorem offerTransfer_eq (p : Port) (h : Handle) (tag : Byte) (i : Nat) (b : Binding) (g : Port) (x : TransferIndex)
    (s : State) : offerTransfer p h tag i b g x s = ⟨(s.offered p h tag i b g x).notifyInGrant (.directed g)
      (.transferOffer b.domain b.key p h x tag), .pending, .offered i x g⟩ := rfl

theorem State.offered_entry (s : State) (p : Port) (h : Handle) (tag : Byte) (i : Nat) (b : Binding) (g : Port)
    (x y : TransferIndex) : (s.offered p h tag i b g x).entry y
      = if y = x then some ⟨.pending, i, g, p, s.settings.transferTimeout, tag, h⟩ else s.entry y :=
  State.entry_setEntry s x y _

/-- Settles O44: the offer writes the entry and the binding; each refusal is one of the checks in their order. -/
theorem handoverAskCreatesTransfer : Obligations.HandoverAskCreatesTransfer := by
  unfold Obligations.HandoverAskCreatesTransfer
  refine ⟨fun s p g v rq f d k h i b m x hin hb he ha hwf hf ht hgp hv hq hm hx hent hfirst => ?_,
    fun s p v rq f d k h hin hb he st res hcase => ?_⟩
  · have hrep := askReply_bound (tag := rq.tag) (h := h) he hf ht hgp hv
    rw [ha.refusalFor, State.freeIndex_first hm hx hent hfirst] at hrep
    simp only [State.quotaAllows, hq, decide_true, Bool.not_true, Bool.false_eq_true, if_false, offerTransfer_eq] at hrep
    obtain ⟨t, hrun, hc⟩ := hin.course
      (l := [.notice (.directed g) (.transferOffer b.domain b.key p h x rq.tag)])
      (.ask ⟨f, none⟩ d k h hb) (by rw [hb]; rfl) hrep (by simp [State.offered, hin.grant, Grant.fresh])
    have hentry := fun y => (hc.entry y).trans (State.offered_entry s p h rq.tag i b g x y)
    refine ⟨t, hrun, hc.answers (by simp [State.offered]), ?_, fun j hj => ?_, ⟨fun q => ?_, ?_, ?_⟩, by rw [hentry, if_pos rfl],
      fun y hy => by rw [hentry, if_neg hy], ?_, ?_, hc.hands _ _ g List.mem_cons_self State.receives_directed,
      (hc.changesPort (m := [.directory, .transfers, .arbiter]) (fun y hy => ?_) (by simp)).mono (by simp)⟩
    · rw [hc.slot]
      exact State.putBinding_slot_same (s := (s.setEntry x _).withTransfers _) hwf i _
    · rw [hc.slot]
      exact State.putBinding_slot_other ((s.setEntry x _).withTransfers _) hj _
    · rw [hc.owned]
      rfl
    · rw [hc.orphanTotal]
      rfl
    · rw [hc.domains]
      rfl
    · rw [hc.transfers]
      rfl
    · rw [hc.transfers]
      rfl
    · cases y <;> simp [State.Same, State.offered] at hy ⊢
  · have hreply : askReply v p rq.tag (asDomain d) k h f s = ⟨s, st, res⟩ := by
      rcases hcase with ⟨hm, rfl, rfl⟩ | ⟨i, b, hf, hcase⟩
      · simp [askReply, he, hm.lookup, refuse]
      rcases hcase with ⟨ho, rfl, rfl⟩ | ⟨g, x, ht, hg, rfl, rfl⟩ | ⟨ht, rfl, rfl⟩ | ⟨g, ht, hg, hcase⟩
      · simp [askReply, he, hf.lookup, ho]
      · simp [askReply, he, hf.lookup, ht, Tenure.owner, hg, refuse]
      · simp [askReply, he, hf.lookup, ht, Tenure.owner, refuse]
      rcases hcase with ⟨hv, rfl, rfl⟩ | ⟨hv, hp, rfl, rfl⟩ | ⟨hv, hp, hmem, rfl, rfl⟩ | ⟨hv, ha, hq, rfl, rfl⟩
        | ⟨hv, ha, hq, hfull, rfl, rfl⟩
      · simp [askReply, he, hf.lookup, ht, Tenure.owner, hg, hv, refuse]
      · rw [askReply_bound he hf ht hg hv, Policy.refusalFor_closed p hp]
        rfl
      · rw [askReply_bound he hf ht hg hv, Policy.refusalFor_notMember hp hmem]
        rfl
      · rw [askReply_bound he hf ht hg hv, ha.refusalFor]
        simp [State.quotaAllows, Nat.not_lt.2 hq, refuse]
      · rw [askReply_bound he hf ht hg hv, ha.refusalFor]
        simp [State.quotaAllows, hq, State.freeIndex_none hfull, refuse]
    have hst : st.isRefusal = decide (¬ (st = .miss ∨ st = .already)) := by
      rcases hcase with ⟨-, rfl, -⟩ | ⟨i, b, -, ⟨-, rfl, -⟩ | ⟨g, x, -, -, rfl, -⟩ | ⟨-, rfl, -⟩ | ⟨g, -, -, ⟨-, rfl, -⟩
        | ⟨-, -, rfl, -⟩ | ⟨-, -, -, rfl, -⟩ | ⟨-, -, -, rfl, -⟩ | ⟨-, -, -, -, rfl, -⟩⟩⟩ <;> rfl
    obtain ⟨t, hrun, hans, hc, hch, -⟩ := hin.unchanged (.ask ⟨f, none⟩ d k h hb) (by rw [hb]; rfl) hreply
    refine ⟨t, hrun, hans, ?_, hch⟩
    rw [hc.counter _ (by simp)]
    by_cases h : st = .miss ∨ st = .already <;> simp [hst, h]

/-! ### The settling of a transfer -/

/-- A transfer has been settled: its slot holds the binding `c`, and its entry is FREE (R73). -/
structure State.Settles (s u : State) (i : Nat) (x : TransferIndex) (c : Binding) : Prop where
  slot : u.slot i = .occupied c
  others : s.OtherSlots u i
  entry : ∀ y, u.entry y = if y = x then none else s.entry y
  expiryList : x ∉ u.transfers.expiryList
  frame : s.ChangesOnly u [.directory, .arbiter, .transfers]
  orphanTotal : u.directory.orphanTotal = s.directory.orphanTotal

theorem State.grantToTaker_settles {s : State} (h : s.directory.wf = true) (i : Nat) (b : Binding) (e : Transfer)
    (x : TransferIndex) (o : TransferOutcome) :
    s.Settles ((s.grantToTaker i b e).endTransfer x e o b.domain b.key) i x
      { b with tenure := .bound e.taker, handle := e.handle, touched := true, idle := 0 } := by
  refine ⟨?_, fun j hj => ?_, fun y => ?_, not_mem_filter_ne _ x, fun y hy => ?_, rfl⟩
  · rw [State.endTransfer_slot, State.grantToTaker_slot_same h]
  · rw [State.endTransfer_slot, State.grantToTaker_slot_other s hj]
  · rw [State.endTransfer_entry]
    rfl
  · cases y <;> simp [State.Same] at hy ⊢

theorem State.returnToGiver_settles {s : State} (h : s.directory.wf = true) (i : Nat) (b : Binding) (g : Port) (e : Transfer)
    (x : TransferIndex) (o : TransferOutcome) :
    s.Settles ((s.returnToGiver i b g).endTransfer x e o b.domain b.key) i x { b with tenure := .bound g } := by
  refine ⟨?_, fun j hj => ?_, fun y => ?_, not_mem_filter_ne _ x, fun y hy => ?_, rfl⟩
  · rw [State.endTransfer_slot]
    exact State.putBinding_slot_same h i _
  · rw [State.endTransfer_slot]
    exact State.putBinding_slot_other s hj _
  · rw [State.endTransfer_entry]
    rfl
  · cases y <;> simp [State.Same] at hy ⊢

theorem State.returnToGiver_end_owned (s : State) (i : Nat) (b : Binding) (g : Port) (x : TransferIndex) (e : Transfer)
    (o : TransferOutcome) (q : Port) : ((s.returnToGiver i b g).endTransfer x e o b.domain b.key).owned q = s.owned q := rfl

theorem State.Settles.after {s u t : State} {i : Nat} {x : TransferIndex} {c : Binding} {l : List Report} {p : Port}
    {rq : RequestFrame} {st : Status} {res : Result} (h : s.Settles u i x c) (hc : s.Course u t l p rq st res) :
    t.slot i = .occupied c ∧ s.OtherSlots t i ∧ t.entry x = none ∧ (∀ y, y ≠ x → t.entry y = s.entry y)
      ∧ x ∉ t.transfers.expiryList ∧ t.domains = s.domains
      ∧ s.ChangesOnly t [.directory, .arbiter, .transfers, .ports, .notices, .portCounters, .deviceCounters] :=
  ⟨(hc.slot i).trans h.slot, fun j hj => (hc.slot j).trans (h.others j hj), by rw [hc.entry, h.entry, if_pos rfl],
    fun y hy => by rw [hc.entry, h.entry, if_neg hy], by rw [hc.transfers]; exact h.expiryList,
    hc.domains.trans (h.frame .domains (by simp)), (hc.changes h.frame).mono (by simp)⟩

/-! ### HANDOVER_REPLY -/

@[simp] theorem asIndex_val (x : TransferIndex) : asIndex x.val = x := by
  revert x
  decide

theorem replyToTransfer_settles {s : State} {p : Port} {x : TransferIndex} {f : List Nat} {e : Transfer} {b : Binding}
    {settle : Transfer → Binding → State → Reply} (hx : s.entry x = some e) (hp : e.giver = p)
    (hb : s.slot e.slot = .occupied b) (hf : e.slot ∉ f) : replyToTransfer p x f s settle = settle e b s := by
  simp [replyToTransfer, hx, hp, hb, hf]

/-- Settles O45: the taker's session state and quota decide. -/
theorem handoverReplyGrantSettles : Obligations.HandoverReplyGrantSettles := by
  unfold Obligations.HandoverReplyGrantSettles
  intro s p v rq f x e b hin hb hx hgp htp hslot hf hwf
  subst hgp
  have hrow : Instr.handoverReplyGrant e.giver ⟨f, none⟩ = rq.body.row e.giver ⟨f, none⟩ := by rw [hb]; rfl
  have hact := GrantedAct.replyGrant (p := e.giver) (v := v) ⟨f, none⟩ x.val 1 hb
  rw [asIndex_val] at hact
  have hrep := replyToTransfer_settles (settle := settleGrant v x) hx rfl hslot hf
  by_cases hgo : v.session.get e.taker = .online ∧ s.owned e.taker < s.settings.quota.get e.taker
  · obtain ⟨ho, hq⟩ := hgo
    rw [settleGrant, State.takerRefusal_eq_none ho hq] at hrep
    obtain ⟨t, hrun, hc⟩ := hin.course hact hrow hrep
      (State.endTransfer_grant (s := s.grantToTaker e.slot b e) (g := .fresh (.executor e.giver) v) (by simp [hin.grant]) x e _ b)
    obtain ⟨h1, h2, h3, h4, h5, h6, h7⟩ := (State.grantToTaker_settles hwf e.slot b e x .granted).after hc
    refine ⟨t, hrun, h2, h3, h4, h5, h6, h7, fun _ _ => ⟨h1, hc.answers (by simp), fun q => ?_, ?_,
      hc.hands _ _ e.giver (by simp [transferReports]) State.receives_directed,
      hc.hands _ _ e.taker (by simp [transferReports]) State.receives_directed⟩, fun h => absurd h (by simp [ho, hq])⟩
    · rw [hc.owned, State.endTransfer_owned, State.grantToTaker_owned (Ne.symm htp)]
    · rw [hc.counted (by simp) (by simp)]
      simp [transferReports, TransferOutcome.counter, Grant.fresh]
  · have hno : v.session.get e.taker ≠ .online ∨ s.settings.quota.get e.taker ≤ s.owned e.taker := by
      by_cases ho : v.session.get e.taker = .online
      · exact .inr (Nat.not_lt.1 fun hq => hgo ⟨ho, hq⟩)
      · exact .inl ho
    rw [settleGrant, State.takerRefusal_eq_some hno] at hrep
    have hcount : (if v.session.get e.taker = .online then TransferOutcome.quota else .takerGone).counter
        = .device .transfersEnded := by split <;> rfl
    generalize (if v.session.get e.taker = .online then TransferOutcome.quota else .takerGone) = o at hrep hcount ⊢
    obtain ⟨t, hrun, hc⟩ := hin.course hact hrow hrep
      (State.endTransfer_grant (s := s.returnToGiver e.slot b e.giver) (g := .fresh (.executor e.giver) v) (by simp [hin.grant]) x
        e _ b)
    obtain ⟨h1, h2, h3, h4, h5, h6, h7⟩ := (State.returnToGiver_settles hwf e.slot b e.giver e x o).after hc
    refine ⟨t, hrun, h2, h3, h4, h5, h6, h7, fun h8 h9 => absurd ⟨h8, h9⟩ hgo, fun _ => ⟨h1, hc.answers (by simp),
      fun q => ?_, ?_⟩⟩
    · rw [hc.owned, State.returnToGiver_end_owned]
    · rw [hc.counted (by simp) (by simp)]
      simp [transferReports, hcount, Grant.fresh]

/-- Settles O46: REFUSE returns the binding, and both decisions meet the same two refusals. -/
theorem handoverReplyRefuseReturns : Obligations.HandoverReplyRefuseReturns := by
  unfold Obligations.HandoverReplyRefuseReturns
  intro s p v rq f x hin hwf
  refine ⟨fun e b hb hx hgp hslot hf => ?_, fun c hc => ?_⟩
  · subst hgp
    have hact := GrantedAct.replyRefuse (p := e.giver) (v := v) ⟨f, none⟩ x.val hb
    rw [asIndex_val] at hact
    have hrep := replyToTransfer_settles (settle := settleRefuse x) hx rfl hslot hf
    obtain ⟨t, hrun, hc⟩ := hin.course hact (by rw [hb]; rfl) hrep
      (State.endTransfer_grant (s := s.returnToGiver e.slot b e.giver) (g := .fresh (.executor e.giver) v) (by simp [hin.grant]) x
        e _ b)
    obtain ⟨h1, h2, h3, h4, h5, h6, h7⟩ := (State.returnToGiver_settles hwf e.slot b e.giver e x .refused).after hc
    refine ⟨t, hrun, h2, h1, hc.answers (by simp), h3, h4, h5, ⟨fun q => ?_, ?_, h6⟩,
      hc.hands _ _ e.giver (by simp [transferReports]) State.receives_directed,
      fun _ => hc.hands _ _ e.taker (by simp [transferReports]) State.receives_directed, ?_, h7⟩
    · rw [hc.owned, State.returnToGiver_end_owned]
    · rw [hc.orphanTotal]
      rfl
    · rw [hc.counted (by simp) (by simp)]
      simp [transferReports, TransferOutcome.counter, Grant.fresh]
  · obtain ⟨settle, hact, hrow⟩ : ∃ settle, GrantedAct p v rq c none (fun t => replyToTransfer p x f t settle)
        ∧ c = rq.body.row p ⟨f, none⟩ := by
      rcases hc with ⟨hb, rfl⟩ | ⟨hb, rfl⟩
      · have := GrantedAct.replyRefuse (p := p) (v := v) ⟨f, none⟩ x.val hb
        rw [asIndex_val] at this
        exact ⟨_, this, by rw [hb]; rfl⟩
      · have := GrantedAct.replyGrant (p := p) (v := v) ⟨f, none⟩ x.val 1 hb
        rw [asIndex_val] at this
        exact ⟨_, this, by rw [hb]; rfl⟩
    refine ⟨fun e hx hg => ?_, fun hx => ?_⟩
    · obtain ⟨t, hrun, hans, -, hch, -⟩ := hin.unchanged hact hrow
        (show replyToTransfer p x f s settle = ⟨s, .notOwner, .none⟩ by simp [replyToTransfer, hx, hg, refuse])
      exact ⟨t, hrun, hans, hch⟩
    · obtain ⟨t, hrun, hans, -, hch, -⟩ := hin.unchanged hact hrow
        (show replyToTransfer p x f s settle = ⟨s, .invalid, .none⟩ by simp [replyToTransfer, hx, refuse])
      exact ⟨t, hrun, hans, hch⟩

/-! ### The expiry resolution -/

/-- The whole of an expiry resolution: its operation, its reports, its end (R15, R86). -/
theorem exec_expiryResolution {s u : State} {v : View} {f : List Nat} {x : TransferIndex} {rest : List TransferIndex}
    {l : List Report} (hg : s.grant = some (.fresh .transferController v)) (hq : s.transfers.expiryList = x :: rest)
    (hu : resolveExpiry v x f s = u) (hl : u.grant = some ⟨.transferController, v, l, none⟩) :
    ∃ t, exec (.expiryResolution ⟨f, none⟩) s = .next t ∧ s.Delivered u t l
      ∧ u.ChangesOnly t [.arbiter, .notices, .portCounters, .deviceCounters] := by
  have ha := resolveExpiry_acts v x f s .p0
  rw [hu] at ha
  have hports : u.ports = s.ports := by rw [← hu]; simp
  have hnotices : u.notices = s.notices := ha.frame .notices (by simp)
  have hon : s.Onward u := .of_eq hports hnotices
  have hrun : exec (.expiryResolution ⟨f, none⟩) s = .next ((u.acted .resolution).advance none) := by
    have hof : s.grantOf .transferController = some (.fresh .transferController v) := State.grantOf_eq_some.2 ⟨hg, rfl⟩
    simp only [exec, execExpiryResolution, runResolution, hof, hq]
    rw [← hu]
    rfl
  rw [State.advance_none (g := ⟨.transferController, v, l, some .resolution⟩) (e := .resolution) (by simp [hl]) rfl] at hrun
  refine ⟨_, hrun, ⟨?_, ?_, ?_, fun d hd => ?_, fun a n q hn hr => ?_⟩, fun y hy => ?_⟩
  · simp [State.conclude]
  · simp [State.conclude]
  · simp [State.conclude]
  · have hc : (u.acted .resolution).counter d = s.counter d :=
      State.counter_congr (ha.frame .portCounters (by simp)) (ha.frame .deviceCounters (by simp)) d
    rw [State.endGrant_counter, ← hc]
    exact (State.counter_congr (by rfl) (by rfl) d).trans (State.deliverAll_counter (u.acted .resolution) l hd)
  · have hrec : (u.port q).session = .online → (u.acted .resolution).receives a q = true := fun ho => by
      rw [State.receives_congr (s := s) (by exact hports)]
      rw [State.port, hports] at ho
      exact hr ho
    exact ((State.deliverAll_hands (s := u.acted .resolution) hn hrec).before (hon.trans (.of_eq (by rfl) (by rfl)))).after
      ((State.Onward.of_eq (by rfl) (by rfl)).trans (State.endGrant_onward _))
  · cases y <;> simp [State.Same, State.conclude] at hy ⊢

theorem resolveExpiry_settles {s : State} {v : View} {x : TransferIndex} {f : List Nat} {e : Transfer} {b : Binding}
    (hx : s.entry x = some e) (hb : s.slot e.slot = .occupied b) (hf : e.slot ∉ f) :
    resolveExpiry v x f s = settleExpiry v x e b s := by
  simp [resolveExpiry, hx, hb, hf]

/-- Settles O47: the outcome of R86's table grants or returns the binding. -/
theorem expiryResolutionSettles : Obligations.ExpiryResolutionSettles := by
  unfold Obligations.ExpiryResolutionSettles
  intro s v f x rest e b hg hq hx hslot hf hwf hne
  have hres := resolveExpiry_settles (v := v) hx hslot hf
  obtain ⟨u, c, hu, hset, hgr, hown⟩ : ∃ u c, settleExpiry v x e b s = u ∧ s.Settles u e.slot x c
      ∧ u.grant = some ⟨.transferController, v, transferReports x e (s.expiryOutcome v e) b, none⟩
      ∧ if s.expiryOutcome v e = .giverGone
        then c = { b with tenure := .bound e.taker, handle := e.handle, touched := true, idle := 0 }
          ∧ ∀ q, u.owned q = if q = e.taker then s.owned q + 1 else if q = e.giver then s.owned q - 1 else s.owned q
        else c = { b with tenure := .bound e.giver } ∧ ∀ q, u.owned q = s.owned q := by
    have hgrant : ∀ w : State, w.grant = s.grant → ∀ o, (w.endTransfer x e o b.domain b.key).grant
        = some ⟨.transferController, v, transferReports x e o b, none⟩ := fun w hw o =>
      State.endTransfer_grant (hw.trans hg) x e o b
    unfold settleExpiry
    split
    next ho =>
      rw [ho]
      exact ⟨_, _, rfl, State.grantToTaker_settles hwf e.slot b e x _, hgrant (s.grantToTaker e.slot b e) (by simp) _, rfl,
        fun q => State.grantToTaker_owned hne s e.slot b q⟩
    next o ho =>
      refine ⟨_, _, rfl, State.returnToGiver_settles hwf e.slot b e.giver e x _,
        hgrant (s.returnToGiver e.slot b e.giver) (by simp) _, ?_⟩
      rw [if_neg ho]
      exact ⟨rfl, fun q => rfl⟩
  obtain ⟨t, hrun, hd, hch⟩ := exec_expiryResolution (f := f) hg hq (hres.trans hu) hgr
  have hslot' : ∀ i, t.slot i = u.slot i := fun i => by rw [State.slot, hd.directory, State.slot]
  have hentry : ∀ y, t.entry y = u.entry y := fun y => by rw [State.entry, hd.transfers, State.entry]
  have howned : ∀ q, t.owned q = u.owned q := fun q => by rw [State.owned, hd.directory, State.owned]
  refine ⟨t, hrun, fun j hj => (hslot' j).trans (hset.others j hj), by rw [hentry, hset.entry, if_pos rfl],
    fun y hy => by rw [hentry, hset.entry, if_neg hy], by rw [hd.transfers]; exact hset.expiryList,
    (hset.frame.trans hch).mono (by simp), fun o granted hcase => ?_⟩
  have ho : s.expiryOutcome v e = o ∧ (granted = true ↔ o = .giverGone) := by
    rcases hcase with ⟨h1, rfl, rfl⟩ | ⟨h1, h2, rfl, rfl⟩ | ⟨h1, h2, h3, rfl, rfl⟩ | ⟨h1, h2, h3, rfl, rfl⟩
    · simp [State.expiryOutcome, h1]
    · simp [State.expiryOutcome, h1, State.takerRefusal, h2]
    · simp [State.expiryOutcome, h1, State.takerRefusal, h2, State.quotaAllows, Nat.not_lt.2 h3]
    · simp [State.expiryOutcome, h1, State.takerRefusal, h2, State.quotaAllows, h3]
  obtain ⟨ho, hgr⟩ := ho
  rw [ho] at hd hown
  refine ⟨(hd.hands _ _ e.giver (by simp [transferReports]) State.receives_directed).queues,
    (hd.hands _ _ e.taker (by simp [transferReports]) State.receives_directed).queues, fun h => ?_, fun h => ?_⟩
  · have hout := hgr.1 h
    rw [if_pos hout] at hown
    obtain ⟨rfl, hown⟩ := hown
    refine ⟨(hslot' _).trans hset.slot, fun q => (howned q).trans (hown q), ?_⟩
    rw [hd.counter _ (by simp), hout]
    simp [transferReports, TransferOutcome.counter]
  · have hout : o ≠ .giverGone := fun h' => by
      have := hgr.2 h'
      rw [h] at this
      cases this
    rw [if_neg hout] at hown
    obtain ⟨rfl, hown⟩ := hown
    refine ⟨(hslot' _).trans hset.slot, fun q => (howned q).trans (hown q), ?_⟩
    have hcount : o.counter = .device .transfersEnded := by
      rcases hcase with ⟨-, rfl, -⟩ | ⟨-, -, rfl, -⟩ | ⟨-, -, -, rfl, -⟩ | ⟨-, -, -, rfl, -⟩
      · rfl
      · rfl
      · rfl
      · exact absurd rfl hout
    rw [hd.counter _ (by simp)]
    simp [transferReports, hcount]

end Sys2Proof.Machine
end

section
/-! SUPPORT. A grant that stops between two of its reports and goes on (R15, R160, R189). -/

namespace Sys2Proof.Machine

/-! ### The row of a client, begun and gone on with -/

/-- The row `row` acts in the fresh grant of `client` and leaves `w`, in which the grant has the reports `reports` to hand over
and then ends by `e`; in a state in which it has acted, the row only goes on. -/
structure State.ActsBy (s w : State) (client : Client) (v : View) (row : GrantStep → Instr) (failing : List Nat)
    (reports : List Report) (e : Ending) : Prop where
  acted : s.Acted w (.fresh client v)
  grant : w.grant = some ⟨client, v, reports, some e⟩
  starts : ∀ m, exec (row ⟨failing, m⟩) s = .next (w.advance m)
  goesOn : ∀ (u : State) (l : List Report), u.grant = some ⟨client, v, l, some e⟩ → u.ports = w.ports →
    u.maintenance = w.maintenance → ∀ f m, exec (row ⟨f, m⟩) u = .next (u.advance m)

/-- Every request that reads slots has one rule, wherever its row's steps stop. -/
theorem GrantedAct.exists_act {p : Port} {rq : RequestFrame} (h : rq.body.readsSlots = true) (v : View)
    (failing : List Nat) : ∃ act, ∀ m, GrantedAct p v rq (rq.body.row p ⟨failing, m⟩) m act := by
  cases hb : rq.body with
  | resolve d k cl hd => exact ⟨resolveReply v p ⟨asDomain d, k, hd, false, false⟩ cl failing, fun m => .resolve ⟨failing, m⟩ d k cl hd hb⟩
  | claim d k hd pin force => exact ⟨claimReply v p ⟨asDomain d, k, hd, pin, force⟩ failing, fun m => .claim ⟨failing, m⟩ d k hd pin force hb⟩
  | release d k => exact ⟨releaseReply v p (asDomain d) k failing, fun m => .release ⟨failing, m⟩ d k hb⟩
  | touch d k => exact ⟨touchReply p (asDomain d) k failing, fun m => .touch ⟨failing, m⟩ d k hb⟩
  | readSlot i => exact ⟨readSlotReply i failing, fun m => .readSlot ⟨failing, m⟩ i hb⟩
  | scanNext n a b c =>
    cases hf : scanFilterOf a b c with
    | some f => exact ⟨scanReply n f failing, fun m => .scan ⟨failing, m⟩ n a b c f hb hf⟩
    | none => exact ⟨_, fun m => .scanInvalid ⟨failing, m⟩ n a b c hb hf⟩
  | handoverAsk d k hd => exact ⟨askReply v p rq.tag (asDomain d) k hd failing, fun m => .ask ⟨failing, m⟩ d k hd hb⟩
  | handoverReply x n =>
    by_cases hn : n = 2
    · subst hn
      exact ⟨_, fun m => by simpa [Request.row] using GrantedAct.replyRefuse ⟨failing, m⟩ x hb⟩
    · exact ⟨_, fun m => by simpa [Request.row, hn] using GrantedAct.replyGrant ⟨failing, m⟩ x n hb⟩
  | _ => simp [hb, Request.readsSlots] at h

/-- A request's row acts in its port's grant (R13). -/
theorem State.request_actsBy {s : State} {p : Port} {v : View} {rq : RequestFrame}
    (hg : s.grant = some (.fresh (.executor p) v)) (he : (s.port p).executor = .busy rq)
    (hr : rq.body.readsSlots = true) (failing : List Nat) :
    ∃ w l e, s.ActsBy w (.executor p) v (rq.body.row p) failing l e := by
  obtain ⟨act, hact⟩ := GrantedAct.exists_act (p := p) hr v failing
  have ha : s.Acted (s.actRequest v p rq act) (.fresh (.executor p) v) :=
    .of_acts hg (checkedReply_actsWide ((hact none).actsWide s)) _
  obtain ⟨l, e, hl⟩ := ha.grant
  refine ⟨_, l, e, ha, hl, fun m => ?_, fun u l' hu hports _ f m => ?_⟩
  · obtain ⟨row, hexec, hrow⟩ := (hact m).exists_row rfl s
    rw [hexec, runGranted_eq hg rfl he hrow]
    rfl
  · obtain ⟨act', hact'⟩ := GrantedAct.exists_act (p := p) hr v f
    obtain ⟨row, hexec, hrow⟩ := (hact' m).exists_row rfl u
    have hbusy : (u.port p).executor = .busy rq := by
      rw [State.port, hports]
      rcases ha.ports with h | ⟨q, h⟩
      · rw [h]; exact he
      · rw [h]
        have := State.takeCredit_port s q p
        rw [State.port] at this
        rw [this]
        split
        next hpq => exact hpq ▸ he
        · exact he
    rw [hexec, runGranted_eq hu rfl hbusy hrow]
    rfl

/-- Every job has a rule for the slots of its bucket, wherever its row's steps stop (R95). -/
theorem BucketAct.exists_act (j : Job) (v : View) (failing : List Nat) :
    ∃ f, ∀ m, BucketAct v j (j.row ⟨failing, m⟩) m f := by
  cases hw : j.work with
  | sweep => exact ⟨_, fun m => by simpa [Job.row, hw] using BucketAct.sweep ⟨failing, m⟩ hw⟩
  | purge x => exact ⟨_, fun m => by simpa [Job.row, hw] using BucketAct.purge ⟨failing, m⟩ x hw⟩
  | clear =>
    by_cases hid : j.id = 0
    · exact ⟨_, fun m => by simpa [Job.row, hw, hid] using BucketAct.startup ⟨failing, m⟩ hw hid⟩
    · exact ⟨_, fun m => by simpa [Job.row, hw, hid] using BucketAct.rewrite ⟨failing, m⟩ hw hid⟩
  | orphan p c => exact ⟨_, fun m => by simpa [Job.row, hw] using BucketAct.orphan ⟨failing, m⟩ p c hw⟩

/-- A bucket's row acts in the Maintenance Engine's grant (R95). -/
theorem State.bucket_actsBy {s : State} {v : View} {j : Job} {rest : List Job}
    (hg : s.grant = some (.fresh .maintenance v)) (hq : s.maintenance.queue = j :: rest) (failing : List Nat) :
    ∃ w l e, s.ActsBy w .maintenance v j.row failing l e := by
  obtain ⟨f, hf⟩ := BucketAct.exists_act j v failing
  have ha : s.Acted (s.actBucket j f) (.fresh .maintenance v) := State.actBucket_acted hg hq (hf none).actsInBucket
  have hm : (s.actBucket j f).maintenance = s.maintenance := State.actBucket_maintenance hq (hf none)
  obtain ⟨l, e, hl⟩ := ha.grant
  refine ⟨_, l, e, ha, hl, fun m => BucketAct.exec_eq hg hq (hf m), fun u l' hu _ hmaint f' m => ?_⟩
  obtain ⟨f'', hf''⟩ := BucketAct.exists_act j v f'
  exact BucketAct.exec_cases hu rfl (by rw [hmaint, hm, hq]) (hf'' m)

/-- The row of an expiry resolution acts in the Transfer Controller's grant (R86). -/
theorem State.resolution_actsBy {s : State} {v : View} (hg : s.grant = some (.fresh .transferController v))
    (hx : s.transfers.expiryList ≠ []) (failing : List Nat) :
    ∃ w l e, s.ActsBy w .transferController v .expiryResolution failing l e := by
  obtain ⟨x, rest, hq⟩ := List.exists_cons_of_ne_nil hx
  have ha := resolveExpiry_acted hg x failing
  obtain ⟨l, e, hl⟩ := ha.grant
  refine ⟨_, l, e, ha, hl, fun m => ?_, fun u l' hu _ _ f m => ?_⟩
  · have hof : s.grantOf .transferController = some (.fresh .transferController v) := State.grantOf_eq_some.2 ⟨hg, rfl⟩
    simp only [exec, execExpiryResolution, runResolution, hof, hq]
    rfl
  · have hof : u.grantOf .transferController = some ⟨.transferController, v, l', some e⟩ :=
      State.grantOf_eq_some.2 ⟨hu, rfl⟩
    simp only [exec, execExpiryResolution, runResolution, hof]
    rfl

/-- Every client's row acts in its grant (R13, R15). -/
theorem State.RowOf.actsBy {s : State} {client : Client} {v : View} {row : GrantStep → Instr}
    (h : s.RowOf client row) (hg : s.grant = some (.fresh client v)) (failing : List Nat) :
    ∃ w l e, s.ActsBy w client v row failing l e := by
  cases client with
  | executor p =>
    obtain ⟨rq, he, hr, hrow⟩ := h
    obtain rfl : row = rq.body.row p := funext hrow
    exact State.request_actsBy hg he hr failing
  | maintenance =>
    obtain ⟨j, rest, hq, rfl⟩ := h
    exact State.bucket_actsBy hg hq failing
  | transferController =>
    obtain ⟨hx, rfl⟩ := h
    exact State.resolution_actsBy hg hx failing

/-! ### Stopping and going on -/

/-- The state in which a grant has handed over its first `n` reports. -/
def State.stoppedAt (w : State) (g : Grant) (n : Nat) : State :=
  ((g.reports.take n).foldl State.deliver w).withGrant (some { g with reports := g.reports.drop n })

section
variable {w : State} {g : Grant} {n : Nat}

theorem State.stoppedAt_grant : (w.stoppedAt g n).grant = some { g with reports := g.reports.drop n } := rfl

theorem State.stoppedAt_zero (hg : w.grant = some g) : w.stoppedAt g 0 = w := by
  rw [State.stoppedAt, List.take_zero, List.drop_zero, List.foldl_nil, ← hg]
  rfl

/-- The next report goes out. -/
theorem State.stoppedAt_succ {r : Report} (hr : g.reports[n]? = some r) :
    w.stoppedAt g (n + 1)
      = ((w.stoppedAt g n).withGrant (some { g with reports := g.reports.drop (n + 1) })).deliver r := by
  unfold State.stoppedAt
  rw [State.deliver_withGrant, State.deliver_withGrant, List.take_add_one, hr, List.foldl_append]
  rfl

/-- A delivery of several reports stops and goes on. -/
theorem State.stoppedAt_stoppedAt (m : Nat) :
    (w.stoppedAt g n).stoppedAt { g with reports := g.reports.drop n } m = w.stoppedAt g (n + m) := by
  unfold State.stoppedAt
  rw [State.deliverAll_withGrant, List.take_add, List.foldl_append, List.drop_drop]
  rfl

/-- Whatever has been handed over, the rest of the grant leads to the same end. -/
theorem State.advance_none_stoppedAt {e : Ending} (hg : w.grant = some g) (he : g.ending = some e) :
    (w.stoppedAt g n).advance none = w.advance none := by
  rw [State.advance_none State.stoppedAt_grant he, State.advance_none hg he]
  unfold State.stoppedAt
  rw [State.deliverAll_withGrant, ← List.foldl_append, List.take_append_drop]
  rfl

/-- What a grant does after it has stopped is what it would have done undivided. -/
theorem State.advance_some_stoppedAt {e : Ending} (hg : w.grant = some g) (he : g.ending = some e)
    (hn : n ≤ g.reports.length) (m : Nat) : (w.stoppedAt g n).advance (some m) = w.advance (some (n + m)) := by
  rcases Nat.lt_or_ge g.reports.length (n + m) with hlt | hge
  · have hlt' : (g.reports.drop n).length < m := by
      rw [List.length_drop]
      omega
    rw [State.advance_beyond hg hlt, State.advance_beyond State.stoppedAt_grant hlt', State.advance_none_stoppedAt hg he]
  · have hge' : m ≤ (g.reports.drop n).length := by
      rw [List.length_drop]
      omega
    rw [State.advance_some hg hge, State.advance_some State.stoppedAt_grant hge']
    exact State.stoppedAt_stoppedAt m

end

/-- Settles O60: a step stops at `stoppedAt`, from where the rest of the reports leads to the same states. -/
theorem grantHandsOverOneByOne : Obligations.GrantHandsOverOneByOne := by
  unfold Obligations.GrantHandsOverOneByOne
  intro s client v row failing hg hrow
  obtain ⟨w, reports, e, hw⟩ := hrow.actsBy hg failing
  refine ⟨reports, e, fun n hn => ⟨w.stoppedAt ⟨client, v, reports, some e⟩ n, ?_, rfl, fun h0 => ?_, fun r hr => ?_,
    fun f m => ?_, fun f => ?_, fun hp hrst => ?_⟩⟩
  · rw [hw.starts, State.advance_some hw.grant hn]
    rfl
  · subst h0
    rw [State.stoppedAt_zero hw.grant]
    exact ⟨hw.acted.frame .notices (by simp), hw.acted.frame .portCounters (by simp),
      hw.acted.frame .deviceCounters (by simp)⟩
  · have hlen : n + 1 ≤ reports.length := (List.getElem?_eq_some_iff.1 hr).1
    rw [hw.starts, State.advance_some hw.grant hlen]
    exact congrArg Host.Outcome.next (State.stoppedAt_succ hr)
  · rw [hw.goesOn _ _ State.stoppedAt_grant (by simp [State.stoppedAt]) (by simp [State.stoppedAt]), hw.starts,
      State.advance_some_stoppedAt hw.grant rfl hn]
  · rw [hw.goesOn _ _ State.stoppedAt_grant (by simp [State.stoppedAt]) (by simp [State.stoppedAt]), hw.starts,
      State.advance_none_stoppedAt hw.grant rfl]
  · have hpend : w.pending = s.pending := hw.acted.frame .pending (by simp)
    have hheld : w.resetHeld = s.resetHeld := hw.acted.frame .resetHeld (by simp)
    have hmid : (w.stoppedAt ⟨client, v, reports, some e⟩ n).midGrant = true := rfl
    have hheld' : (w.stoppedAt ⟨client, v, reports, some e⟩ n).resetHeld = false := by
      simp [State.stoppedAt, hheld, hrst]
    have hpend' : (w.stoppedAt ⟨client, v, reports, some e⟩ n).pending = [] := by
      simp [State.stoppedAt, hpend, hp]
    rw [step, hpend', State.idle, hheld', hmid, hw.starts, ← State.advance_none_stoppedAt hw.grant rfl]
    rfl

end Sys2Proof.Machine
end

section
/-! SUPPORT. One written slot: what the slots, the counts of R10 to R12 and R21, and the transfers of R69 become. -/

namespace Sys2Proof.Machine

/-! ### Weights -/

/-- One for a slot with a property, and none for another. -/
def Slot.weight (g : Slot → Bool) (x : Slot) : Nat := if g x then 1 else 0

/-- The binding of a slot has a property. -/
def Slot.holds (f : Binding → Bool) (x : Slot) : Bool := x.binding?.any f

/-- One for a listed slot with a property. -/
def weightOf (g : Slot → Bool) : Option Slot → Nat
  | some x => x.weight g
  | none => 0

/-- Writing one slot of a rising list moves the number of listed slots with a property by that slot alone. -/
theorem writeCells_countP {l : List (Nat × Slot)} (h : risingCells l = true) (g : Slot → Bool) (i : Nat)
    (v : Option Slot) :
    (writeCells l i v).countP (fun c => g c.2) + weightOf g (readCells l i)
      = l.countP (fun c => g c.2) + weightOf g v := by
  induction l with
  | nil => cases v <;> simp [writeCells, readCells, weightOf, Slot.weight, List.countP_cons]
  | cons d rest ih =>
    obtain ⟨j, y⟩ := d
    obtain ⟨hd, hr⟩ := risingCells_cons.1 h
    have ih := ih hr
    unfold writeCells readCells
    by_cases hlt : j < i
    · rw [if_pos hlt, if_neg (Nat.ne_of_lt hlt), List.countP_cons, List.countP_cons]
      omega
    · rw [if_neg hlt]
      by_cases he : j = i
      · subst he
        cases v <;> simp [weightOf, Slot.weight, List.countP_cons]
        omega
      · have hnone : readCells rest i = none := readCells_none_of_above fun c hc => by
          have := hd c hc
          dsimp only at this
          omega
        rw [if_neg he, hnone]
        cases v <;> simp [weightOf, Slot.weight, he, List.countP_cons]

/-- How many slots of a directory have a property. -/
def Directory.tally (d : Directory) (g : Slot → Bool) : Nat := d.cells.countP (fun c => g c.2)

theorem weightOf_listed {g : Slot → Bool} (hf : g .free = false) (hu : g .undefined = false) (x : Slot) :
    weightOf g x.listed = x.weight g := by
  cases x <;> simp [Slot.listed, weightOf, Slot.weight, hf, hu]

theorem weightOf_readCells {g : Slot → Bool} (hf : g .free = false) (hu : g .undefined = false) (d : Directory) (i : Nat) :
    weightOf g (readCells d.cells i) = (d.read i).weight g := by
  unfold Directory.read
  cases readCells d.cells i with
  | some x => rfl
  | none =>
    unfold Directory.unlisted
    simp only [Option.getD_none]
    split <;> simp [weightOf, Slot.weight, hf, hu]

/-- A written slot moves a tally by its own weight. -/
theorem Directory.tally_write {d : Directory} (h : d.wf = true) {g : Slot → Bool} (hf : g .free = false)
    (hu : g .undefined = false) (i : Nat) (y : Slot) :
    (d.write i y).tally g + (d.read i).weight g = d.tally g + y.weight g := by
  rw [← weightOf_readCells hf hu, ← weightOf_listed hf hu y]
  exact writeCells_countP (Directory.wf_rising h) g i y.listed

theorem Directory.weight_le_tally {d : Directory} (h : d.wf = true) {g : Slot → Bool} (hf : g .free = false)
    (hu : g .undefined = false) (i : Nat) : (d.read i).weight g ≤ d.tally g := by
  have := Directory.tally_write h hf hu i .free
  have h0 : Slot.free.weight g = 0 := by simp [Slot.weight, hf]
  omega

theorem Directory.bindings_countP (d : Directory) (f : Binding → Bool) :
    d.bindings.countP f = d.tally (Slot.holds f) := by
  unfold Directory.bindings Directory.tally
  rw [List.countP_filterMap]
  refine List.countP_congr fun c _ => ?_
  unfold Slot.holds
  cases c.2.binding? <;> simp

/-! ### The counts law as tallies -/

/-- The binding is one of port `p`'s (R5, R10). -/
def Binding.ownedBy (p : Port) (b : Binding) : Bool := decide (b.tenure.owner = some p)

/-- The binding is ORPHANED. -/
def Binding.isOrphan (b : Binding) : Bool := decide (b.tenure = .orphaned)

/-- The binding stands in a domain. -/
def Binding.isIn (d : DomainId) (b : Binding) : Bool := decide (b.domain = d)

/-- The binding stands in a domain and is ORPHANED. -/
def Binding.isOrphanIn (d : DomainId) (b : Binding) : Bool := decide (b.domain = d ∧ b.tenure = .orphaned)

/-- The slot is DEFECTIVE. -/
def Slot.isDefective (x : Slot) : Bool := decide (x = .defective)

theorem State.CountsLaw.iff {s : State} : s.CountsLaw ↔
    (∀ p, s.owned p = s.directory.tally (Slot.holds (Binding.ownedBy p)))
      ∧ s.directory.orphanTotal = s.directory.tally (Slot.holds Binding.isOrphan)
      ∧ s.directory.defectiveCount = s.directory.tally Slot.isDefective
      ∧ (∀ d, (s.domain d).count = s.directory.tally (Slot.holds (Binding.isIn d)))
      ∧ ∀ d, (s.domain d).orphans = s.directory.tally (Slot.holds (Binding.isOrphanIn d)) := by
  simp only [← Directory.bindings_countP]
  exact ⟨fun ⟨h1, h2, h3, h4, h5⟩ => ⟨h1, h2, h3, h4, h5⟩, fun ⟨h1, h2, h3, h4, h5⟩ => ⟨h1, h2, h3, h4, h5⟩⟩

/-- The counts move as a slot does that was `x` and becomes `y` (R12, R21). -/
structure State.CountsMoved (s t : State) (x y : Slot) : Prop where
  owned : ∀ p, x.weight (Slot.holds (Binding.ownedBy p)) ≤ s.owned p →
    t.owned p + x.weight (Slot.holds (Binding.ownedBy p)) = s.owned p + y.weight (Slot.holds (Binding.ownedBy p))
  orphanTotal : x.weight (Slot.holds Binding.isOrphan) ≤ s.directory.orphanTotal →
    t.directory.orphanTotal + x.weight (Slot.holds Binding.isOrphan)
      = s.directory.orphanTotal + y.weight (Slot.holds Binding.isOrphan)
  defective : x.weight Slot.isDefective ≤ s.directory.defectiveCount →
    t.directory.defectiveCount + x.weight Slot.isDefective
      = s.directory.defectiveCount + y.weight Slot.isDefective
  count : ∀ d, x.weight (Slot.holds (Binding.isIn d)) ≤ (s.domain d).count →
    (t.domain d).count + x.weight (Slot.holds (Binding.isIn d))
      = (s.domain d).count + y.weight (Slot.holds (Binding.isIn d))
  orphans : ∀ d, x.weight (Slot.holds (Binding.isOrphanIn d)) ≤ (s.domain d).orphans →
    (t.domain d).orphans + x.weight (Slot.holds (Binding.isOrphanIn d))
      = (s.domain d).orphans + y.weight (Slot.holds (Binding.isOrphanIn d))

/-- A written slot whose counts move with it keeps the counts law. -/
theorem State.CountsLaw.write {s t : State} (h : s.CountsLaw) (hwf : s.directory.wf = true) {i : Nat} {y : Slot}
    (hc : t.directory.cells = (s.directory.write i y).cells) (hm : s.CountsMoved t (s.slot i) y) : t.CountsLaw := by
  have step : ∀ g : Slot → Bool, g .free = false → g .undefined = false →
      (s.slot i).weight g ≤ s.directory.tally g
        ∧ t.directory.tally g + (s.slot i).weight g = s.directory.tally g + y.weight g := fun g hf hu => by
    refine ⟨Directory.weight_le_tally hwf hf hu i, ?_⟩
    have := Directory.tally_write hwf hf hu i y
    unfold Directory.tally at this ⊢
    rw [hc]
    exact this
  obtain ⟨h1, h2, h3, h4, h5⟩ := State.CountsLaw.iff.1 h
  refine State.CountsLaw.iff.2 ⟨fun p => ?_, ?_, ?_, fun d => ?_, fun d => ?_⟩
  · obtain ⟨hle, he⟩ := step (Slot.holds (Binding.ownedBy p)) rfl rfl
    have := hm.owned p (by rw [h1]; exact hle)
    rw [h1] at this
    omega
  · obtain ⟨hle, he⟩ := step (Slot.holds Binding.isOrphan) rfl rfl
    have := hm.orphanTotal (by rw [h2]; exact hle)
    rw [h2] at this
    omega
  · obtain ⟨hle, he⟩ := step Slot.isDefective rfl rfl
    have := hm.defective (by rw [h3]; exact hle)
    rw [h3] at this
    omega
  · obtain ⟨hle, he⟩ := step (Slot.holds (Binding.isIn d)) rfl rfl
    have := hm.count d (by rw [h4]; exact hle)
    rw [h4] at this
    omega
  · obtain ⟨hle, he⟩ := step (Slot.holds (Binding.isOrphanIn d)) rfl rfl
    have := hm.orphans d (by rw [h5]; exact hle)
    rw [h5] at this
    omega

/-! ### How the counts move (R12, R21) -/

section
variable (f : Binding → Bool) (b : Binding)

@[simp] theorem Slot.weight_occupied : (Slot.occupied b).weight (Slot.holds f) = if f b then 1 else 0 := rfl

@[simp] theorem Slot.weight_free : Slot.free.weight (Slot.holds f) = 0 := rfl

@[simp] theorem Slot.weight_undefined : Slot.undefined.weight (Slot.holds f) = 0 := rfl

@[simp] theorem Slot.weight_defective : Slot.defective.weight (Slot.holds f) = 0 := rfl

@[simp] theorem Slot.weight_isDefective (x : Slot) : x.weight Slot.isDefective = if x = .defective then 1 else 0 := by
  simp [Slot.weight, Slot.isDefective]

end

/-- The counts of R10 and R21 are the same. -/
def State.SameTallies (s t : State) : Prop :=
  t.directory.ownedCount = s.directory.ownedCount ∧ t.directory.orphanTotal = s.directory.orphanTotal
    ∧ t.directory.defectiveCount = s.directory.defectiveCount ∧ t.domains = s.domains

section
variable {s t u w : State} {x y : Slot}

theorem State.SameTallies.each (h : s.SameTallies t) : (∀ p, t.owned p = s.owned p)
    ∧ t.directory.orphanTotal = s.directory.orphanTotal ∧ t.directory.defectiveCount = s.directory.defectiveCount
    ∧ ∀ d, t.domain d = s.domain d := by
  obtain ⟨h1, h2, h3, h4⟩ := h
  exact ⟨fun p => by rw [State.owned, h1, State.owned], h2, h3, fun d => by rw [State.domain, h4, State.domain]⟩

theorem State.CountsMoved.congr (h : s.CountsMoved t x y) (hs : w.SameTallies s) (ht : t.SameTallies u) :
    w.CountsMoved u x y := by
  obtain ⟨s1, s2, s3, s4⟩ := hs.each
  obtain ⟨t1, t2, t3, t4⟩ := ht.each
  obtain ⟨h1, h2, h3, h4, h5⟩ := h
  simp only [s1, s2, s3, s4] at h1 h2 h3 h4 h5
  exact ⟨by simpa only [t1] using h1, by simpa only [t2] using h2, by simpa only [t3] using h3,
    by simpa only [t4] using h4, by simpa only [t4] using h5⟩

/-- Slots that weigh alike need no count moved. -/
theorem State.CountsMoved.still (h : s.SameTallies t) (hb : ∀ f : Binding → Bool, (∀ b c : Binding, c.domain = b.domain →
      c.tenure.owner = b.tenure.owner → f c = f b) → y.weight (Slot.holds f) = x.weight (Slot.holds f))
    (hd : y.weight Slot.isDefective = x.weight Slot.isDefective) : s.CountsMoved t x y := by
  obtain ⟨h1, h2, h3, h4⟩ := h.each
  have horphan : ∀ b c : Binding, c.tenure.owner = b.tenure.owner → (c.tenure = .orphaned ↔ b.tenure = .orphaned) := by
    intro b c ho
    cases hb : b.tenure <;> cases hc : c.tenure <;> simp [hb, hc, Tenure.owner] at ho ⊢
  refine ⟨fun p _ => ?_, fun _ => ?_, fun _ => ?_, fun d _ => ?_, fun d _ => ?_⟩
  · rw [h1, hb _ fun b c _ ho => by simp [Binding.ownedBy, ho]]
  · rw [h2, hb _ fun b c _ ho => by simp [Binding.isOrphan, horphan b c ho]]
  · rw [h3, hd]
  · rw [h4, hb _ fun b c hd _ => by simp [Binding.isIn, hd]]
  · rw [h4, hb _ fun b c hd ho => by simp [Binding.isOrphanIn, hd, horphan b c ho]]

theorem State.CountsMoved.remark {b c : Binding} (h : s.SameTallies t) (hd : c.domain = b.domain)
    (ho : c.tenure.owner = b.tenure.owner) : s.CountsMoved t (.occupied b) (.occupied c) :=
  .still h (fun f hf => by simp [hf b c hd ho]) (by simp)

/-- A slot becomes DEFECTIVE besides. -/
theorem State.CountsMoved.faulty (h : s.CountsMoved t x .free) (ho : u.directory.ownedCount = t.directory.ownedCount)
    (hn : u.directory.orphanTotal = t.directory.orphanTotal)
    (hf : u.directory.defectiveCount = t.directory.defectiveCount + 1) (hd : u.domains = t.domains) :
    s.CountsMoved u x .defective := by
  obtain ⟨h1, h2, h3, h4, h5⟩ := h
  refine ⟨fun p => ?_, ?_, fun hle => ?_, fun d => ?_, fun d => ?_⟩
  · simpa [State.owned, ho] using h1 p
  · simpa [hn] using h2
  · have := h3 hle
    simp only [Slot.weight_isDefective, reduceCtorEq, if_false, if_true] at this ⊢
    omega
  · simpa [State.domain, hd] using h4 d
  · simpa [State.domain, hd] using h5 d

theorem Tenure.owner_eq_none {x : Tenure} : x.owner = none ↔ x = .orphaned := by cases x <;> simp [Tenure.owner]

theorem State.countRemoval_moves (s : State) (b : Binding) : s.CountsMoved (s.countRemoval b) (.occupied b) .free := by
  refine ⟨fun p => ?_, ?_, fun _ => ?_, fun d => ?_, fun d => ?_⟩
  · rw [State.countRemoval_owned]
    simp only [Slot.weight_occupied, Slot.weight_free, Binding.ownedBy, decide_eq_true_eq]
    split <;> omega
  · rw [State.countRemoval_orphanTotal]
    simp only [Slot.weight_occupied, Slot.weight_free, Binding.isOrphan, decide_eq_true_eq, Tenure.owner_eq_none]
    split <;> omega
  · unfold State.countRemoval
    split <;> rfl
  · rw [State.countRemoval_domain]
    simp only [Slot.weight_occupied, Slot.weight_free, Binding.isIn, decide_eq_true_eq]
    by_cases h : d = b.domain
    · subst h
      simp only [if_true]
      omega
    · rw [if_neg h, if_neg (Ne.symm h)]
      omega
  · rw [State.countRemoval_domain]
    simp only [Slot.weight_occupied, Slot.weight_free, Binding.isOrphanIn, decide_eq_true_eq, Tenure.owner_eq_none]
    by_cases h : d = b.domain
    · subst h
      simp only [if_true, true_and]
      split <;> omega
    · rw [if_neg h, if_neg fun k => h k.1.symm]
      omega

theorem State.countCreation_moves (s : State) {c : Binding} {p : Port} (h : c.tenure = .bound p) :
    s.CountsMoved (s.countCreation c.domain p) .free (.occupied c) := by
  refine ⟨fun q _ => ?_, fun _ => ?_, fun _ => rfl, fun d _ => ?_, fun d _ => ?_⟩
  · rw [State.countCreation_owned]
    simp only [Slot.weight_occupied, Slot.weight_free, Binding.ownedBy, decide_eq_true_eq, h, Tenure.owner,
      Option.some.injEq, eq_comm (a := p)]
    split <;> rfl
  · simp [Binding.isOrphan, h]
  · rw [State.countCreation_domain]
    simp only [Slot.weight_occupied, Slot.weight_free, Binding.isIn, decide_eq_true_eq, eq_comm (a := c.domain)]
    split
    next hd => rw [hd]
    · rfl
  · rw [State.countCreation_domain]
    simp only [Slot.weight_occupied, Slot.weight_free, Binding.isOrphanIn, h, reduceCtorEq, and_false]
    split
    next hd => rw [hd]; rfl
    · rfl

theorem State.countOwnerChange_moves (s : State) {b c : Binding} {p q : Port} (hpq : p ≠ q) (hd : c.domain = b.domain)
    (hb : b.tenure.owner = some p) (hc : c.tenure.owner = some q) :
    s.CountsMoved (s.countOwnerChange p q) (.occupied b) (.occupied c) := by
  have hb' : b.tenure ≠ .orphaned := fun h => by simp [h, Tenure.owner] at hb
  have hc' : c.tenure ≠ .orphaned := fun h => by simp [h, Tenure.owner] at hc
  refine ⟨fun r => ?_, fun _ => ?_, fun _ => ?_, fun d _ => ?_, fun d _ => ?_⟩
  · rw [State.countOwnerChange_owned hpq]
    simp only [Slot.weight_occupied, Binding.ownedBy, decide_eq_true_eq, hb, hc, Option.some.injEq, eq_comm (a := p),
      eq_comm (a := q)]
    by_cases h : r = q
    · subst h
      rw [if_neg (Ne.symm hpq)]
      simp
    · rw [if_neg h, if_neg h]
      split <;> omega
  · simp [Binding.isOrphan, hb', hc']
  · simp [State.countOwnerChange, State.modifyOwned]
  · simp [State.domain, Binding.isIn, hd]
  · simp [State.domain, Binding.isOrphanIn, hb', hc']

theorem State.countHold_moves (s : State) {b c : Binding} {p : Port} (hd : c.domain = b.domain)
    (hb : b.tenure.owner = some p) (hc : c.tenure = .orphaned) :
    s.CountsMoved (s.countHold p b.domain) (.occupied b) (.occupied c) := by
  have hb' : b.tenure ≠ .orphaned := fun h => by simp [h, Tenure.owner] at hb
  have hc' : c.tenure.owner = none := Tenure.owner_eq_none.2 hc
  refine ⟨fun r => ?_, fun _ => ?_, fun _ => ?_, fun d _ => ?_, fun d _ => ?_⟩
  · rw [State.countHold_owned]
    simp only [Slot.weight_occupied, Binding.ownedBy, decide_eq_true_eq, hb, hc', Option.some.injEq,
      eq_comm (a := p), reduceCtorEq, if_false]
    split <;> omega
  · simp [Binding.isOrphan, hb', hc]
  · simp [State.countHold, State.modifyOrphans, State.modifyOwned]
  · rw [State.countHold_domain]
    simp only [Slot.weight_occupied, Binding.isIn, hd]
    split
    next h => rw [h]; rfl
    · rfl
  · rw [State.countHold_domain]
    simp only [Slot.weight_occupied, Binding.isOrphanIn, hd, hb', hc, and_false, and_true, decide_eq_true_eq,
      decide_false, eq_comm (a := b.domain)]
    split
    next h => rw [h]; rfl
    · rfl

theorem State.countOrphanAdoption_moves (s : State) {b c : Binding} {q : Port} (hd : c.domain = b.domain)
    (hb : b.tenure = .orphaned) (hc : c.tenure.owner = some q) :
    s.CountsMoved (s.countOrphanAdoption q b.domain) (.occupied b) (.occupied c) := by
  have hc' : c.tenure ≠ .orphaned := fun h => by simp [h, Tenure.owner] at hc
  have hb' : b.tenure.owner = none := Tenure.owner_eq_none.2 hb
  refine ⟨fun r _ => ?_, fun hle => ?_, fun _ => ?_, fun d _ => ?_, fun d hle => ?_⟩
  · rw [State.countOrphanAdoption_owned]
    simp only [Slot.weight_occupied, Binding.ownedBy, decide_eq_true_eq, hb', hc, Option.some.injEq,
      eq_comm (a := q), reduceCtorEq, if_false]
    split <;> omega
  · simp only [Slot.weight_occupied, Binding.isOrphan, hb, hc', decide_true, decide_false, if_true,
      State.countOrphanAdoption_orphanTotal] at hle ⊢
    simp
    omega
  · simp [State.countOrphanAdoption, State.modifyOrphans, State.modifyOwned]
  · rw [State.countOrphanAdoption_domain]
    simp only [Slot.weight_occupied, Binding.isIn, hd]
    split
    next h => rw [h]; rfl
    · rfl
  · rw [State.countOrphanAdoption_domain]
    simp only [Slot.weight_occupied, Binding.isOrphanIn, hd, hb, hc', and_false, and_true, decide_eq_true_eq,
      decide_false, eq_comm (a := b.domain)] at hle ⊢
    split
    next h =>
      rw [if_pos h, h] at hle
      rw [h]
      simp
      omega
    next h => rfl

end

end Sys2Proof.Machine
end

section
/-! SUPPORT. What an operation keeps of the directory's laws: each operation is a chain of written slots, and each written
slot moves its counts and its transfer with it. -/

namespace Sys2Proof.Machine

/-! ### The transfer of a slot (R69) -/

/-- The giver and the entry of a binding in TRANSFER. -/
def Tenure.transfer? : Tenure → Option (Port × TransferIndex)
  | .transfer g x => some (g, x)
  | .bound _ => none
  | .orphaned => none

/-- The giver and the entry of a slot whose binding is in TRANSFER. -/
def Slot.transfer? (x : Slot) : Option (Port × TransferIndex) := x.binding?.bind fun b => b.tenure.transfer?

theorem Tenure.transfer?_eq_some {x : Tenure} {g : Port} {z : TransferIndex} :
    x.transfer? = some (g, z) ↔ x = .transfer g z := by cases x <;> simp [Tenure.transfer?]

@[simp] theorem Slot.transfer?_occupied (b : Binding) : (Slot.occupied b).transfer? = b.tenure.transfer? := rfl

@[simp] theorem Slot.transfer?_free : Slot.free.transfer? = none := rfl

@[simp] theorem Slot.transfer?_undefined : Slot.undefined.transfer? = none := rfl

@[simp] theorem Slot.transfer?_defective : Slot.defective.transfer? = none := rfl

@[simp] theorem Tenure.transfer?_bound (p : Port) : (Tenure.bound p).transfer? = none := rfl

@[simp] theorem Tenure.transfer?_orphaned : Tenure.orphaned.transfer? = none := rfl

@[simp] theorem Tenure.transfer?_transfer (p : Port) (x : TransferIndex) : (Tenure.transfer p x).transfer? = some (p, x) := rfl

theorem Slot.transfer?_eq_some {y : Slot} {g : Port} {z : TransferIndex} :
    y.transfer? = some (g, z) ↔ ∃ b, y = .occupied b ∧ b.tenure = .transfer g z := by
  cases y <;> simp [Slot.transfer?, Slot.binding?, Tenure.transfer?_eq_some]

section
variable {s t u : State} {i : Nat} {y : Slot}

theorem State.TransferLaw.iff : s.TransferLaw ↔
    (∀ i g x, (s.slot i).transfer? = some (g, x) → ∃ e, s.entry x = some e ∧ e.slot = i)
      ∧ ∀ x e, s.entry x = some e → e.giver ≠ e.taker ∧ (s.slot e.slot).transfer? = some (e.giver, x) := by
  refine ⟨fun ⟨h1, h2⟩ => ⟨fun i g x h => ?_, fun x e he => ?_⟩, fun ⟨h1, h2⟩ => ⟨fun i b g x hi hb => ?_, fun x e he => ?_⟩⟩
  · obtain ⟨b, hi, hb⟩ := Slot.transfer?_eq_some.1 h
    exact h1 i b g x hi hb
  · exact ⟨(h2 x e he).1, Slot.transfer?_eq_some.2 (h2 x e he).2⟩
  · exact h1 i g x (Slot.transfer?_eq_some.2 ⟨b, hi, hb⟩)
  · exact ⟨(h2 x e he).1, Slot.transfer?_eq_some.1 (h2 x e he).2⟩

/-- The entry of a binding in TRANSFER: it names the slot, and its giver is the binding's owner. -/
theorem State.TransferLaw.entry (h : s.TransferLaw) {b : Binding} {g : Port} {x : TransferIndex}
    (hi : s.slot i = .occupied b) (hb : b.tenure = .transfer g x) :
    ∃ e, s.entry x = some e ∧ e.slot = i ∧ e.giver = g ∧ g ≠ e.taker := by
  obtain ⟨h1, h2⟩ := State.TransferLaw.iff.1 h
  have hg : (s.slot i).transfer? = some (g, x) := Slot.transfer?_eq_some.2 ⟨b, hi, hb⟩
  obtain ⟨e, he, hes⟩ := h1 i g x hg
  obtain ⟨hne, hs⟩ := h2 x e he
  rw [hes, hg] at hs
  obtain rfl : g = e.giver := (Prod.mk.inj (Option.some.inj hs)).1
  exact ⟨e, he, hes, rfl, hne⟩

/-- How the entries follow a slot that is written: they stay, or the entry of its transfer is freed, or one is created. -/
inductive State.EntriesFollow (s t : State) (i : Nat) (y : Slot) : Prop where
  | kept : y.transfer? = (s.slot i).transfer? → (∀ w, t.entry w = s.entry w) → s.EntriesFollow t i y
  | ended (g : Port) (z : TransferIndex) : (s.slot i).transfer? = some (g, z) → y.transfer? = none →
      (∀ w, t.entry w = if w = z then none else s.entry w) → s.EntriesFollow t i y
  | offered (z : TransferIndex) (e : Transfer) : (s.slot i).transfer? = none → y.transfer? = some (e.giver, z) →
      s.entry z = none → e.slot = i → e.giver ≠ e.taker → (∀ w, t.entry w = if w = z then some e else s.entry w) →
      s.EntriesFollow t i y

theorem State.TransferLaw.write (h : s.TransferLaw) (he : s.EntriesFollow t i y)
    (ht : ∀ j, t.slot j = if j = i then y else s.slot j) : t.TransferLaw := by
  obtain ⟨h1, h2⟩ := State.TransferLaw.iff.1 h
  refine State.TransferLaw.iff.2 ?_
  have hsame : t.slot i = y := by rw [ht, if_pos rfl]
  have hother : ∀ j, j ≠ i → t.slot j = s.slot j := fun j hj => by rw [ht, if_neg hj]
  cases he with
  | kept hy he =>
    have hall : ∀ j, (t.slot j).transfer? = (s.slot j).transfer? := fun j => by
      by_cases hj : j = i
      · rw [hj, hsame, hy]
      · rw [hother j hj]
    simp only [hall, he]
    exact ⟨h1, h2⟩
  | ended g z hi hy he =>
    obtain ⟨e0, hz, hz'⟩ := h1 i g z hi
    refine ⟨fun j g' x hj => ?_, fun x e hx => ?_⟩
    · have hji : j ≠ i := fun hji => by simp [hji, hsame, hy] at hj
      rw [hother j hji] at hj
      obtain ⟨e, hx, hes⟩ := h1 j g' x hj
      have hxz : x ≠ z := fun hxz => hji (by
        rw [hxz, hz] at hx
        rw [← hes, ← hz', Option.some.inj hx])
      exact ⟨e, by rw [he, if_neg hxz, hx], hes⟩
    · have hxz : x ≠ z := fun hxz => by simp [he, hxz] at hx
      rw [he, if_neg hxz] at hx
      obtain ⟨hne, hs⟩ := h2 x e hx
      have hei : e.slot ≠ i := fun hei => by
        rw [hei, hi] at hs
        exact hxz (Prod.mk.inj (Option.some.inj hs)).2.symm
      exact ⟨hne, by rw [hother _ hei, hs]⟩
  | offered z e hi hy hz hes hne he =>
    refine ⟨fun j g' x hj => ?_, fun x e' hx => ?_⟩
    · by_cases hji : j = i
      · subst hji
        rw [hsame, hy] at hj
        obtain ⟨-, rfl⟩ := Prod.mk.inj (Option.some.inj hj)
        exact ⟨e, by rw [he, if_pos rfl], hes⟩
      · rw [hother j hji] at hj
        obtain ⟨e', hx, hes'⟩ := h1 j g' x hj
        exact ⟨e', by rw [he, if_neg (fun hxz => by simp [hxz, hz] at hx), hx], hes'⟩
    · rw [he] at hx
      split at hx
      next hxz =>
        obtain rfl := Option.some.inj hx
        exact ⟨hne, by rw [hes, hsame, hy, hxz]⟩
      next hxz =>
        obtain ⟨hne', hs⟩ := h2 x e' hx
        exact ⟨hne', by rw [hother _ (fun hei => by rw [hei, hi] at hs; cases hs), hs]⟩

/-- Entries that keep their parties and their slots keep the law of transfers. -/
theorem State.TransferLaw.of_parties (h : s.TransferLaw) (hs : ∀ j, (t.slot j).transfer? = (s.slot j).transfer?)
    (he : ∀ w, (t.entry w).map (fun e => (e.slot, e.giver, e.taker)) = (s.entry w).map (fun e => (e.slot, e.giver, e.taker))) :
    t.TransferLaw := by
  obtain ⟨h1, h2⟩ := State.TransferLaw.iff.1 h
  refine State.TransferLaw.iff.2 ⟨fun j g x hj => ?_, fun x e hx => ?_⟩
  · obtain ⟨e, hx, hes⟩ := h1 j g x (by rw [← hs, hj])
    have := he x
    rw [hx, Option.map_some, Option.map_eq_some_iff] at this
    obtain ⟨e', hx', heq⟩ := this
    exact ⟨e', hx', (Prod.mk.inj heq).1.trans hes⟩
  · have := (he x).symm
    rw [hx, Option.map_some, Option.map_eq_some_iff] at this
    obtain ⟨e', hx', heq⟩ := this
    obtain ⟨hne, hj⟩ := h2 x e' hx'
    obtain ⟨h3, h4⟩ := Prod.mk.inj heq
    obtain ⟨h4, h5⟩ := Prod.mk.inj h4
    rw [hs, ← h3, ← h4, ← h5]
    exact ⟨hne, hj⟩

/-! ### How a slot turns -/

/-- How a slot may change in an operation that creates no binding (R3, R4); unlike `MayBecome` it chains. -/
def Slot.MayTurn : Slot → Slot → Prop
  | .undefined, y => y = .undefined ∨ y = .free ∨ y = .defective
  | .free, y => y = .free ∨ y = .defective
  | .occupied b, y => y = .free ∨ y = .defective ∨ ∃ c, y = .occupied c ∧ c.Holds b.domain b.key
  | .defective, y => y = .defective ∨ y = .free

theorem Slot.MayTurn.refl (x : Slot) : x.MayTurn x := by
  cases x <;> simp [Slot.MayTurn, Binding.Holds]

theorem Slot.MayTurn.trans {x y z : Slot} (h : x.MayTurn y) (k : y.MayTurn z) : x.MayTurn z := by
  cases x with
  | undefined => rcases h with rfl | rfl | rfl <;> simp [Slot.MayTurn] at k ⊢ <;> tauto
  | free => rcases h with rfl | rfl <;> simp [Slot.MayTurn] at k ⊢ <;> tauto
  | defective => rcases h with rfl | rfl <;> simp [Slot.MayTurn] at k ⊢ <;> tauto
  | occupied b =>
    rcases h with rfl | rfl | ⟨c, rfl, hc⟩
    · exact k.elim .inl fun k => .inr (.inl k)
    · exact k.elim (fun k => .inr (.inl k)) .inl
    · rcases k with k | k | ⟨e, k, he⟩
      · exact .inl k
      · exact .inr (.inl k)
      · exact .inr (.inr ⟨e, k, he.1.trans hc.1, he.2.trans hc.2⟩)

theorem Slot.MayTurn.mayBecome {x y : Slot} (h : x.MayTurn y) : x.MayBecome y := by
  cases x with
  | free => exact h.elim .inl fun h => .inr (.inl h)
  | _ => exact h

/-- A slot that still holds a binding held one of the same identifier. -/
theorem Slot.MayTurn.occupied {x : Slot} {c : Binding} (h : x.MayTurn (.occupied c)) :
    ∃ b, x = .occupied b ∧ c.Holds b.domain b.key := by
  cases x with
  | occupied b => simpa [Slot.MayTurn] using h
  | _ => simp [Slot.MayTurn] at h

/-! ### What an operation keeps -/

/-- The laws of the slots: their form, counts, transfers, places and identifiers. -/
structure State.SlotLaws (s : State) : Prop where
  form : s.directory.wf = true
  counts : s.CountsLaw
  transfers : s.TransferLaw
  place : s.PlaceLaw
  unique : s.UniqueLaw

theorem State.DirectoryLaw.iff : s.DirectoryLaw ↔ s.StoreLaw ∧ s.SlotLaws :=
  ⟨fun h => ⟨h.store, h.store.form, h.counts, h.transfers, h.place, h.unique⟩,
    fun h => ⟨h.1, h.2.counts, h.2.transfers, h.2.place, h.2.unique⟩⟩

/-- An operation of the directory keeps the policies and the settings, and no count passes its bound (R10, R11). -/
structure State.KeepsBounds (s t : State) : Prop where
  owned : ∀ p, t.owned p ≤ s.owned p ∨ t.owned p ≤ s.settings.quota.get p
  count : ∀ d, (t.domain d).count ≤ (s.domain d).count ∨ (t.domain d).count ≤ (s.domain d).policy.cap
  settings : t.settings = s.settings
  policy : ∀ d, (t.domain d).policy = (s.domain d).policy

/-- What an operation of the directory keeps. -/
structure State.KeepsLaws (s t : State) : Prop extends s.KeepsBounds t where
  form : s.directory.wf = true → t.directory.wf = true
  laws : s.SlotLaws → t.SlotLaws
  idle : s.directory.wf = true → s.IdleLaw → t.IdleLaw

/-- What an operation of the directory that creates no binding keeps. -/
structure State.Keeps (s t : State) : Prop extends s.KeepsLaws t where
  turns : s.directory.wf = true → ∀ i, (s.slot i).MayTurn (t.slot i)

theorem State.KeepsBounds.trans (h : s.KeepsBounds t) (k : t.KeepsBounds u) : s.KeepsBounds u where
  owned p := by
    have h1 := h.owned p
    have h2 := k.owned p
    rw [h.settings] at h2
    omega
  count d := by
    have h1 := h.count d
    have h2 := k.count d
    rw [h.policy] at h2
    omega
  settings := k.settings.trans h.settings
  policy d := (k.policy d).trans (h.policy d)

theorem State.KeepsLaws.trans (h : s.KeepsLaws t) (k : t.KeepsLaws u) : s.KeepsLaws u where
  toKeepsBounds := h.toKeepsBounds.trans k.toKeepsBounds
  form hs := k.form (h.form hs)
  laws hs := k.laws (h.laws hs)
  idle hs hi := k.idle (h.form hs) (h.idle hs hi)

theorem State.Keeps.trans (h : s.Keeps t) (k : t.Keeps u) : s.Keeps u :=
  ⟨h.toKeepsLaws.trans k.toKeepsLaws, fun hs i => (h.turns hs i).trans (k.turns (h.form hs) i)⟩

theorem State.PlaceLaw.congr (h : s.PlaceLaw) (hx : t.settings = s.settings)
    (ht : ∀ i c, t.slot i = .occupied c → ∃ b, s.slot i = .occupied b ∧ c.Holds b.domain b.key) : t.PlaceLaw := by
  intro i c hc
  obtain ⟨b, hb, hd, hk⟩ := ht i c hc
  rw [State.slotsOf, hx, hd, hk]
  exact h i b hb

theorem State.UniqueLaw.congr (h : s.UniqueLaw)
    (ht : ∀ i c, t.slot i = .occupied c → ∃ b, s.slot i = .occupied b ∧ c.Holds b.domain b.key) : t.UniqueLaw := by
  intro i j b c hb hc hd hk
  obtain ⟨b', hb', h1, h2⟩ := ht i b hb
  obtain ⟨c', hc', h3, h4⟩ := ht j c hc
  exact h i j b' c' hb' hc' (by rw [← h1, ← h3, hd]) (by rw [← h2, ← h4, hk])

/-- An operation that leaves the slots, the counts and the parties of the transfers. -/
theorem State.Keeps.of_parties (hd : t.directory = s.directory) (hdom : t.domains = s.domains)
    (he : ∀ w, (t.entry w).map (fun e => (e.slot, e.giver, e.taker)) = (s.entry w).map (fun e => (e.slot, e.giver, e.taker)))
    (hx : t.settings = s.settings) : s.Keeps t := by
  have hslot : ∀ i, t.slot i = s.slot i := fun i => by rw [State.slot, hd, State.slot]
  have hdomain : ∀ d, t.domain d = s.domain d := fun d => by rw [State.domain, hdom, State.domain]
  have howned : ∀ p, t.owned p = s.owned p := fun p => by rw [State.owned, hd, State.owned]
  have hocc : ∀ i c, t.slot i = .occupied c → ∃ b, s.slot i = .occupied b ∧ c.Holds b.domain b.key :=
    fun i c hc => ⟨c, by rw [← hslot, hc], rfl, rfl⟩
  refine ⟨⟨⟨fun p => .inl (howned p).le, fun d => .inl (by rw [hdomain]), hx, fun d => by rw [hdomain]⟩,
    fun hs => by rw [hd, hs], fun hs => ⟨by rw [hd]; exact hs.form, ⟨?_, ?_, ?_, ?_, ?_⟩, hs.transfers.of_parties (fun i => by rw [hslot]) he,
    hs.place.congr hx hocc, hs.unique.congr hocc⟩, fun _ hi => ⟨fun d => by rw [hdomain]; exact hi.limits d, fun i b hb => hi.idle i b
    (by rw [← hslot, hb])⟩⟩, fun _ i => by rw [hslot]; exact .refl _⟩
  · exact fun p => by rw [howned, hd]; exact hs.counts.owned p
  · rw [hd]; exact hs.counts.orphanTotal
  · rw [hd]; exact hs.counts.defective
  · exact fun d => by rw [hdomain, hd]; exact hs.counts.count d
  · exact fun d => by rw [hdomain, hd]; exact hs.counts.orphans d

/-- An operation that leaves the directory, the domains, the transfers and the settings. -/
theorem State.Keeps.of_same (hd : t.directory = s.directory) (hdom : t.domains = s.domains) (he : t.transfers = s.transfers)
    (hx : t.settings = s.settings) : s.Keeps t :=
  .of_parties hd hdom (fun w => by rw [State.entry, he, State.entry]) hx

theorem State.Keeps.refl (s : State) : s.Keeps s := .of_same rfl rfl rfl rfl

/-! ### A written slot -/

/-- Slot `i` is written as `y`, and the counts and the entries follow it. -/
structure State.Writes (s t : State) (i : Nat) (y : Slot) : Prop extends s.KeepsBounds t where
  cells : t.directory.cells = (s.directory.write i y).cells
  cleared : t.directory.cleared = s.directory.cleared
  inRange : s.directory.wf = true → i < Config.ways * s.directory.cleared
  notUndefined : y ≠ .undefined
  identity : s.directory.wf = true → ∀ c, y = .occupied c → (∃ b, s.slot i = .occupied b ∧ c.Holds b.domain b.key)
    ∨ (i ∈ s.slotsOf c.domain c.key ∧ ∀ j ∈ s.slotsOf c.domain c.key, ∀ b, s.slot j = .occupied b →
        ¬ b.Holds c.domain c.key)
  counts : s.directory.wf = true → s.TransferLaw → s.CountsMoved t (s.slot i) y
  entries : s.directory.wf = true → s.TransferLaw → s.EntriesFollow t i y
  idle : s.IdleLaw → ∀ c, y = .occupied c → c.idle ≤ 15 ∧ (c.cls = .pinned → c.idle = 0)

theorem Directory.write_read {d : Directory} (h : d.wf = true) {i : Nat} (hi : i < Config.ways * d.cleared) {y : Slot}
    (hy : y ≠ .undefined) (j : Nat) : (d.write i y).read j = if j = i then y else d.read j := by
  by_cases hj : j = i
  · subst hj
    rw [if_pos rfl]
    cases y with
    | undefined => exact absurd rfl hy
    | free => exact Directory.read_write_free h hi
    | occupied b => exact Directory.read_write_listed h j rfl
    | defective => exact Directory.read_write_listed h j rfl
  · rw [if_neg hj, Directory.read_write_other d hj]

/-- A directory's form and reading depend on its slots alone. -/
theorem Directory.congr_cells {d e : Directory} (hc : d.cells = e.cells) (hl : d.cleared = e.cleared) :
    d.wf = e.wf ∧ ∀ j, d.read j = e.read j := by
  refine ⟨by rw [Directory.wf, hc, hl, Directory.wf], fun j => ?_⟩
  rw [Directory.read, Directory.unlisted, hc, hl, Directory.read, Directory.unlisted]

theorem State.Writes.slot (h : s.Writes t i y) (hs : s.directory.wf = true) (j : Nat) :
    t.slot j = if j = i then y else s.slot j := by
  obtain ⟨-, hr⟩ := Directory.congr_cells (e := s.directory.write i y) h.cells h.cleared
  rw [State.slot, hr, Directory.write_read hs (h.inRange hs) h.notUndefined, State.slot]

theorem State.Writes.form (h : s.Writes t i y) (hs : s.directory.wf = true) : t.directory.wf = true := by
  obtain ⟨hw, -⟩ := Directory.congr_cells (e := s.directory.write i y) h.cells h.cleared
  rw [hw]
  exact Directory.write_wf hs (h.inRange hs) y

theorem State.Writes.placeLaw (h : s.Writes t i y) (hs : s.directory.wf = true) (hp : s.PlaceLaw) : t.PlaceLaw := by
  intro j c hc
  rw [State.slotsOf, h.settings]
  rw [h.slot hs] at hc
  split at hc
  next hj =>
    subst hj
    rcases h.identity hs c hc with ⟨b, hb, hd, hk⟩ | ⟨hi, -⟩
    · rw [hd, hk]
      exact hp j b hb
    · exact hi
  · exact hp j c hc

theorem State.Writes.uniqueLaw (h : s.Writes t i y) (hs : s.directory.wf = true) (hp : s.PlaceLaw) (hu : s.UniqueLaw) :
    t.UniqueLaw := by
  have key : ∀ j b c, j ≠ i → s.slot j = .occupied b → y = .occupied c → b.domain = c.domain → b.key = c.key → False := by
    intro j b c hj hb hc hd hk
    rcases h.identity hs c hc with ⟨b', hb', hd', hk'⟩ | ⟨-, hno⟩
    · exact hj (hu j i b b' hb hb' (hd.trans hd') (hk.trans hk'))
    · exact hno j (by rw [← hd, ← hk]; exact hp j b hb) b hb ⟨hd, hk⟩
  intro j k b c hb hc hd hk
  rw [h.slot hs] at hb hc
  split at hb <;> split at hc
  next hj hk' => rw [hj, hk']
  next hk' => exact (key k c b hk' hc hb hd.symm hk.symm).elim
  next hj _ => exact (key j b c hj hb hc hd hk).elim
  · exact hu j k b c hb hc hd hk

/-- A written slot keeps the laws. -/
theorem State.Writes.keepsLaws (h : s.Writes t i y) : s.KeepsLaws t where
  toKeepsBounds := h.toKeepsBounds
  form := h.form
  laws hs := ⟨h.form hs.form, hs.counts.write hs.form h.cells (h.counts hs.form hs.transfers),
    hs.transfers.write (h.entries hs.form hs.transfers) (h.slot hs.form), h.placeLaw hs.form hs.place,
    h.uniqueLaw hs.form hs.place hs.unique⟩
  idle hs hi := by
    refine ⟨fun d => by rw [h.policy]; exact hi.limits d, fun j c hc => ?_⟩
    rw [h.slot hs] at hc
    split at hc
    · exact h.idle hi c hc
    · exact hi.idle j c hc

/-- A written slot that creates no binding. -/
theorem State.Writes.keeps (h : s.Writes t i y) (ht : s.directory.wf = true → (s.slot i).MayTurn y) : s.Keeps t :=
  ⟨h.keepsLaws, fun hs j => by
    rw [h.slot hs]
    split
    next hj => exact hj ▸ ht hs
    · exact .refl _⟩

theorem State.Keeps.same (h : s.Keeps t) (hd : u.directory = t.directory) (hdom : u.domains = t.domains)
    (he : u.transfers = t.transfers) (hx : u.settings = t.settings) : s.Keeps u := h.trans (.of_same hd hdom he hx)

end

end Sys2Proof.Machine
end

section
/-! SUPPORT. Each operation on a slot, as a written slot that keeps the directory's laws (R3, R8, R12, R19, R32, R35 to R37,
R44 to R47, R73 to R75, R78, R101, R102, R145 to R150). -/

namespace Sys2Proof.Machine

/-! ### What counting leaves -/

/-- Two states differ in counts, entries and reports alone. -/
structure State.Recounts (s t : State) : Prop where
  cells : t.directory.cells = s.directory.cells
  cleared : t.directory.cleared = s.directory.cleared
  policy : ∀ d, (t.domain d).policy = (s.domain d).policy
  settings : t.settings = s.settings

section
variable {s t u : State}

theorem State.Recounts.same (h : s.Recounts t) (hd : u.directory = t.directory) (hdom : u.domains = t.domains)
    (hx : u.settings = t.settings) : s.Recounts u :=
  ⟨by rw [hd, h.cells], by rw [hd, h.cleared], fun d => by rw [State.domain, hdom]; exact h.policy d, hx.trans h.settings⟩

theorem State.countRemoval_recounts (s : State) (b : Binding) : s.Recounts (s.countRemoval b) := by
  refine ⟨?_, ?_, fun d => ?_, by simp⟩
  · unfold State.countRemoval
    split <;> rfl
  · unfold State.countRemoval
    split <;> rfl
  · rw [State.countRemoval_domain]
    split
    next h => rw [h]
    · rfl

theorem State.countOwnerChange_recounts (s : State) (p q : Port) : s.Recounts (s.countOwnerChange p q) :=
  ⟨rfl, rfl, fun _ => rfl, rfl⟩

theorem State.countCreation_recounts (s : State) (d : DomainId) (p : Port) : s.Recounts (s.countCreation d p) := by
  refine ⟨rfl, rfl, fun e => ?_, rfl⟩
  rw [State.countCreation_domain]
  split
  next h => rw [h]
  · rfl

theorem State.countHold_recounts (s : State) (p : Port) (d : DomainId) : s.Recounts (s.countHold p d) := by
  refine ⟨rfl, rfl, fun e => ?_, rfl⟩
  rw [State.countHold_domain]
  split
  next h => rw [h]
  · rfl

theorem State.countOrphanAdoption_recounts (s : State) (q : Port) (d : DomainId) :
    s.Recounts (s.countOrphanAdoption q d) := by
  refine ⟨rfl, rfl, fun e => ?_, rfl⟩
  rw [State.countOrphanAdoption_domain]
  split
  next h => rw [h]
  · rfl

theorem State.modifyDefective_recounts (s : State) (f : Nat → Nat) : s.Recounts (s.modifyDefective f) :=
  ⟨rfl, rfl, fun _ => rfl, rfl⟩

theorem State.Recounts.refl (s : State) : s.Recounts s := ⟨rfl, rfl, fun _ => rfl, rfl⟩

theorem State.Recounts.trans (h : s.Recounts t) (k : t.Recounts u) : s.Recounts u :=
  ⟨k.cells.trans h.cells, k.cleared.trans h.cleared, fun d => (k.policy d).trans (h.policy d), k.settings.trans h.settings⟩

/-! ### A binding that is removed or lost -/

/-- The ending of the transfer of a binding frees its entry, and no other (R8, R73). -/
theorem State.endTransferOf_entry (s : State) (b : Binding) (o : TransferOutcome) (w : TransferIndex) :
    (s.endTransferOf b o).entry w = if b.tenure.transfer?.map Prod.snd = some w then none else s.entry w := by
  unfold State.endTransferOf
  cases hb : b.tenure with
  | bound p => simp
  | orphaned => simp
  | transfer g z =>
    simp only [Tenure.transfer?_transfer, Option.map_some, Option.some.injEq, eq_comm (a := z)]
    cases he : s.entry z with
    | some e => exact State.endTransfer_entry s z e o _ _ w
    | none =>
      simp only
      split
      next h => rw [h, he]
      · rfl

variable {i : Nat} {b c : Binding} {y : Slot}

theorem State.EntriesFollow.of_removed (hi : s.slot i = .occupied b) (hy : y.transfer? = none)
    (he : ∀ w, t.entry w = if b.tenure.transfer?.map Prod.snd = some w then none else s.entry w) : s.EntriesFollow t i y := by
  cases hb : b.tenure.transfer? with
  | none => exact .kept (by rw [hi, Slot.transfer?_occupied, hb, hy]) fun w => by simp [he, hb]
  | some gz =>
    refine .ended gz.1 gz.2 (by rw [hi, Slot.transfer?_occupied, hb]) hy fun w => ?_
    simp [he, hb, eq_comm (a := gz.2)]

theorem State.inRange_of_slot (hi : s.slot i ≠ .undefined) (hs : s.directory.wf = true) :
    i < Config.ways * s.directory.cleared := Directory.read_inRange hs hi

/-- A removed or lost binding leaves its slot FREE or DEFECTIVE, and its counts and its entry follow (R8, R19). -/
theorem State.Writes.removal (hi : s.slot i = .occupied b) (hy : y = .free ∨ y = .defective)
    (hr : (s.writeSlot i y).Recounts t) (hc : s.CountsMoved t (.occupied b) y)
    (hown : ∀ p, t.owned p ≤ s.owned p) (hcount : ∀ d, (t.domain d).count ≤ (s.domain d).count)
    (he : ∀ w, t.entry w = if b.tenure.transfer?.map Prod.snd = some w then none else s.entry w) : s.Writes t i y where
  cells := hr.cells
  cleared := hr.cleared
  inRange := State.inRange_of_slot (by simp [hi])
  notUndefined := by rcases hy with rfl | rfl <;> simp
  identity _ := by rcases hy with rfl | rfl <;> simp
  counts _ _ := by rwa [hi]
  entries _ _ := .of_removed hi (by rcases hy with rfl | rfl <;> rfl) he
  idle := by rcases hy with rfl | rfl <;> simp
  owned p := .inl (hown p)
  count d := .inl (hcount d)
  settings := hr.settings
  policy := hr.policy

theorem Slot.MayTurn.vanishes (b : Binding) (hy : y = .free ∨ y = .defective) : (Slot.occupied b).MayTurn y := by
  rcases hy with rfl | rfl <;> simp [Slot.MayTurn]

theorem State.countRemoval_owned_le (s : State) (b : Binding) (p : Port) : (s.countRemoval b).owned p ≤ s.owned p := by
  rw [State.countRemoval_owned]
  split <;> omega

theorem State.countRemoval_count_le (s : State) (b : Binding) (d : DomainId) :
    ((s.countRemoval b).domain d).count ≤ (s.domain d).count := by
  rw [State.countRemoval_domain]
  split
  next h => rw [h]; exact Nat.sub_le _ _
  · exact le_rfl

/-- A removal, with what follows it in the entries and the reports (R8). -/
theorem State.removeBinding_keeps (hi : s.slot i = .occupied b) (hd : t.directory = (s.removeBinding i b).directory)
    (hdom : t.domains = (s.removeBinding i b).domains) (hx : t.settings = s.settings)
    (he : ∀ w, t.entry w = if b.tenure.transfer?.map Prod.snd = some w then none else s.entry w) : s.Keeps t := by
  have hr : (s.writeSlot i .free).Recounts t :=
    ((s.writeSlot i .free).countRemoval_recounts b).same hd hdom (by simp [hx])
  refine (State.Writes.removal hi (.inl rfl) hr ?_ (fun p => ?_) (fun d => ?_) he).keeps (fun _ => hi ▸ Slot.MayTurn.vanishes b (.inl rfl))
  · exact ((s.writeSlot i .free).countRemoval_moves b).congr ⟨rfl, rfl, rfl, rfl⟩
      ⟨by rw [hd]; rfl, by rw [hd]; rfl, by rw [hd]; rfl, hdom⟩
  · rw [State.owned, hd]
    exact (s.writeSlot i .free).countRemoval_owned_le b p
  · rw [State.domain, hdom]
    exact (s.writeSlot i .free).countRemoval_count_le b d

/-! ### A failed check (R19) -/

theorem State.slotFails_directory (hi : s.slot i = .occupied b) : (s.slotFails i).directory
    = (((s.writeSlot i .defective).modifyDefective (· + 1)).countRemoval b).directory := by
  simp [State.slotFails, hi, State.loseBinding, State.reportSlotFault]

theorem State.slotFails_domains (hi : s.slot i = .occupied b) : (s.slotFails i).domains
    = (((s.writeSlot i .defective).modifyDefective (· + 1)).countRemoval b).domains := by
  simp [State.slotFails, hi, State.loseBinding, State.reportSlotFault]

theorem State.slotFails_entry (hi : s.slot i = .occupied b) (w : TransferIndex) :
    (s.slotFails i).entry w = if b.tenure.transfer?.map Prod.snd = some w then none else s.entry w := by
  have ht : (s.slotFails i).transfers
      = ((((s.writeSlot i .defective).modifyDefective (· + 1)).countRemoval b).endTransferOf b .removed).transfers := by
    simp [State.slotFails, hi, State.loseBinding, State.reportSlotFault]
  rw [State.entry, ht, ← State.entry, State.endTransferOf_entry]
  simp [State.entry]

theorem State.slotFails_occupied_keeps (hi : s.slot i = .occupied b) : s.Keeps (s.slotFails i) := by
  have hd := State.slotFails_directory hi
  have hdom := State.slotFails_domains hi
  have hr : (s.writeSlot i .defective).Recounts (s.slotFails i) :=
    ((State.modifyDefective_recounts _ _).trans (State.countRemoval_recounts _ b)).same hd hdom (by simp)
  refine (State.Writes.removal hi (.inr rfl) hr ?_ (fun p => ?_) (fun d => ?_) (State.slotFails_entry hi)).keeps
    (fun _ => hi ▸ Slot.MayTurn.vanishes b (.inr rfl))
  · have hfree := (s.countRemoval_moves b)
    refine hfree.faulty ?_ ?_ ?_ ?_
    · rw [hd]; unfold State.countRemoval; split <;> rfl
    · rw [hd]; unfold State.countRemoval; split <;> rfl
    · rw [hd]; unfold State.countRemoval; split <;> rfl
    · rw [hdom]; unfold State.countRemoval; split <;> rfl
  · rw [State.owned, hd]
    exact State.countRemoval_owned_le _ b p
  · rw [State.domain, hdom]
    exact State.countRemoval_count_le _ b d

/-- A slot that is written, and holds no binding before or after. -/
theorem State.Writes.bare (hr : (s.writeSlot i y).Recounts t) (hin : s.directory.wf = true → i < Config.ways * s.directory.cleared)
    (hx : s.directory.wf = true → ∀ b, s.slot i ≠ .occupied b) (hy : y = .free ∨ y = .defective)
    (hc : s.directory.wf = true → s.CountsMoved t (s.slot i) y)
    (hown : ∀ p, t.owned p = s.owned p) (hdom : ∀ d, t.domain d = s.domain d) (he : ∀ w, t.entry w = s.entry w) :
    s.Writes t i y where
  cells := hr.cells
  cleared := hr.cleared
  inRange := hin
  notUndefined := by rcases hy with rfl | rfl <;> simp
  identity _ := by rcases hy with rfl | rfl <;> simp
  counts hs _ := hc hs
  entries hs _ := by
    refine .kept ?_ he
    cases h : s.slot i with
    | occupied b => exact absurd h (hx hs b)
    | _ => rcases hy with rfl | rfl <;> rfl
  idle := by rcases hy with rfl | rfl <;> simp
  owned p := .inl (hown p).le
  count d := .inl (by rw [hdom])
  settings := hr.settings
  policy := hr.policy

/-- A slot without a binding becomes DEFECTIVE, and is counted (R21, R22). -/
theorem State.defect_keeps (hx : s.directory.wf = true → s.slot i = .undefined ∨ s.slot i = .free)
    (hin : s.directory.wf = true → i < Config.ways * s.directory.cleared) :
    s.Keeps (((s.writeSlot i .defective).modifyDefective (· + 1)).reportSlotFault i) := by
  have hr : (s.writeSlot i .defective).Recounts
      (((s.writeSlot i .defective).modifyDefective (· + 1)).reportSlotFault i) :=
    ((s.writeSlot i .defective).modifyDefective_recounts (· + 1)).same rfl rfl rfl
  refine (State.Writes.bare hr hin (fun hs => ?_) (.inr rfl) (fun hs => ?_) (fun _ => rfl) (fun _ => rfl)
    fun _ => rfl).keeps fun hs => ?_
  · rcases hx hs with h | h <;> simp [h]
  · have hw : s.CountsMoved s (s.slot i) .free := by
      rcases hx hs with h | h <;> rw [h] <;> exact .still ⟨rfl, rfl, rfl, rfl⟩ (fun _ _ => rfl) rfl
    exact hw.faulty rfl rfl rfl rfl
  · rcases hx hs with h | h <;> rw [h] <;> simp [Slot.MayTurn]

/-- A slot without a binding is written FREE (R22, R24). -/
theorem State.blank_keeps (hx : s.directory.wf = true → s.slot i = .undefined ∨ s.slot i = .free)
    (hin : s.directory.wf = true → i < Config.ways * s.directory.cleared) : s.Keeps (s.writeSlot i .free) := by
  refine (State.Writes.bare (.refl _) hin (fun hs => ?_) (.inl rfl) (fun hs => ?_) (fun _ => rfl) (fun _ => rfl)
    fun _ => rfl).keeps fun hs => ?_
  · rcases hx hs with h | h <;> simp [h]
  · rcases hx hs with h | h <;> rw [h] <;> exact .still ⟨rfl, rfl, rfl, rfl⟩ (fun _ _ => rfl) rfl
  · rcases hx hs with h | h <;> rw [h] <;> simp [Slot.MayTurn]

/-- A DEFECTIVE slot passes its retest and is FREE again (R22). -/
theorem State.mend_keeps (hx : s.slot i = .defective) :
    s.Keeps ((s.writeSlot i .free).modifyDefective (· - 1)) := by
  have hr := (s.writeSlot i .free).modifyDefective_recounts (· - 1)
  refine (State.Writes.bare hr (State.inRange_of_slot (by simp [hx])) (fun _ => by simp [hx]) (.inl rfl) (fun _ => ?_)
    (fun _ => rfl) (fun _ => rfl) fun _ => rfl).keeps fun _ => by rw [hx]; simp [Slot.MayTurn]
  rw [hx]
  refine ⟨fun _ _ => rfl, fun _ => rfl, fun hle => ?_, fun _ _ => rfl, fun _ _ => rfl⟩
  have h1 : ((s.writeSlot i .free).modifyDefective (· - 1)).directory.defectiveCount = s.directory.defectiveCount - 1 := rfl
  rw [h1]
  simp only [Slot.weight_isDefective, reduceCtorEq, if_false, if_true] at hle ⊢
  omega

/-- The start-up clear reaches a bucket (R24). -/
theorem State.reachBucket_slot (s : State) (n j : Nat) : (s.reachBucket n).slot j = s.slot j
    ∨ (s.slot j = .undefined ∧ (s.reachBucket n).slot j = .free) := by
  simp only [State.slot, State.reachBucket, State.withDirectory_directory, Directory.read]
  cases readCells s.directory.cells j with
  | some x => exact .inl rfl
  | none =>
    simp only [Option.getD_none, Directory.unlisted]
    by_cases h : j < Config.ways * s.directory.cleared
    · have h' : j < Config.ways * max s.directory.cleared (n + 1) :=
        h.trans_le (Nat.mul_le_mul_left _ (Nat.le_max_left _ _))
      simp [h, h']
    · rw [if_neg h]
      split <;> simp

theorem State.reachBucket_keeps {n : Nat} (hn : n < Config.buckets) : s.Keeps (s.reachBucket n) := by
  have hocc : ∀ i c, (s.reachBucket n).slot i = .occupied c → ∃ b, s.slot i = .occupied b ∧ c.Holds b.domain b.key :=
    fun i c hc => by
      rcases s.reachBucket_slot n i with h | ⟨-, h⟩
      · exact ⟨c, by rw [← h, hc], rfl, rfl⟩
      · rw [h] at hc
        cases hc
  have hform : s.directory.wf = true → (s.reachBucket n).directory.wf = true := fun hs => by
    simp only [Directory.wf, Bool.and_eq_true, List.all_eq_true, decide_eq_true_eq] at hs ⊢
    obtain ⟨⟨hrise, hcells⟩, hb⟩ := hs
    exact ⟨⟨hrise, fun c hc => ⟨(hcells c hc).1.trans_le (Nat.mul_le_mul_left _ (Nat.le_max_left _ _)), (hcells c hc).2⟩⟩,
      max_le hb hn⟩
  refine ⟨⟨⟨fun _ => .inl le_rfl, fun _ => .inl le_rfl, rfl, fun _ => rfl⟩, hform, fun hs => ⟨hform hs.form, ⟨hs.counts.owned, hs.counts.orphanTotal, hs.counts.defective, hs.counts.count,
    hs.counts.orphans⟩, hs.transfers.of_parties (fun j => ?_) fun _ => rfl, hs.place.congr rfl hocc, hs.unique.congr hocc⟩,
    fun _ hi => ⟨hi.limits, fun i c hc => ?_⟩⟩, fun _ j => ?_⟩
  · rcases s.reachBucket_slot n j with h | ⟨h1, h2⟩
    · rw [h]
    · rw [h1, h2]
      rfl
  · rcases s.reachBucket_slot n i with h | ⟨-, h⟩
    · exact hi.idle i c (by rw [← h, hc])
    · rw [h] at hc
      cases hc
  · rcases s.reachBucket_slot n j with h | ⟨h1, h2⟩
    · rw [h]
      exact .refl _
    · rw [h1, h2]
      simp [Slot.MayTurn]

/-- A failed check keeps the laws (R19). -/
theorem State.slotFails_keeps (h : s.slot i = .free ∨ ∃ b, s.slot i = .occupied b) : s.Keeps (s.slotFails i) := by
  rcases h with h | ⟨b, h⟩
  · have : s.slotFails i = ((s.writeSlot i .defective).modifyDefective (· + 1)).reportSlotFault i := by
      simp [State.slotFails, h]
    rw [this]
    exact State.defect_keeps (fun _ => .inr h) (State.inRange_of_slot (by simp [h]))
  · exact State.slotFails_occupied_keeps h

/-! ### A binding that stays -/

/-- A binding that stays in its slot, with its counts and its entry (R3, R12). -/
theorem State.Writes.staying (hi : s.slot i = .occupied b) (hid : c.Holds b.domain b.key)
    (hr : (s.writeSlot i (.occupied c)).Recounts t)
    (hc : s.TransferLaw → s.CountsMoved t (.occupied b) (.occupied c)) (he : s.TransferLaw → s.EntriesFollow t i (.occupied c))
    (hidle : s.IdleLaw → c.idle ≤ 15 ∧ (c.cls = .pinned → c.idle = 0))
    (hown : ∀ p, t.owned p ≤ s.owned p ∨ t.owned p ≤ s.settings.quota.get p)
    (hcount : ∀ d, (t.domain d).count = (s.domain d).count) : s.Writes t i (.occupied c) where
  cells := hr.cells
  cleared := hr.cleared
  inRange := State.inRange_of_slot (by simp [hi])
  notUndefined := by simp
  identity _ := by
    rintro _ ⟨rfl⟩
    exact .inl ⟨b, hi, hid⟩
  counts _ h := by
    rw [hi]
    exact hc h
  entries _ := he
  idle := by
    rintro h _ ⟨rfl⟩
    exact hidle h
  owned := hown
  count d := .inl (hcount d).le
  settings := hr.settings
  policy := hr.policy

theorem Slot.MayTurn.stays (h : c.Holds b.domain b.key) : (Slot.occupied b).MayTurn (.occupied c) :=
  .inr (.inr ⟨c, rfl, h⟩)

/-- The binding of a slot is marked (R27, R32, R47, R101). -/
theorem State.putBinding_keeps (hi : s.slot i = .occupied b) (hid : c.Holds b.domain b.key) (ht : c.tenure = b.tenure)
    (hidle : s.IdleLaw → c.idle ≤ 15 ∧ (c.cls = .pinned → c.idle = 0)) : s.Keeps (s.putBinding i c) :=
  (State.Writes.staying hi hid (.refl _) (fun _ => .remark ⟨rfl, rfl, rfl, rfl⟩ hid.1 (by rw [ht]))
    (fun _ => .kept (by rw [hi, Slot.transfer?_occupied, Slot.transfer?_occupied, ht]) fun _ => rfl) hidle (fun _ => .inl le_rfl)
    fun _ => rfl).keeps (fun _ => hi ▸ .stays hid)

theorem State.countOwnerChange_owned_le (s : State) (p q r : Port) :
    (s.countOwnerChange p q).owned r ≤ s.owned r ∨ (r = q ∧ (s.countOwnerChange p q).owned r ≤ s.owned q + 1) := by
  rw [State.countOwnerChange, State.modifyOwned_owned]
  split
  next h =>
    subst h
    rw [State.modifyOwned_owned]
    split
    next h => subst h; exact .inr ⟨rfl, by omega⟩
    · exact .inr ⟨rfl, le_rfl⟩
  next h =>
    rw [State.modifyOwned_owned]
    split
    next h => subst h; exact .inl (Nat.sub_le _ _)
    · exact .inl le_rfl

theorem State.ownerChange_bounded (s : State) {p q : Port} (hq : s.owned q < s.settings.quota.get q)
    (hd : t.directory = ((s.putBinding i c).countOwnerChange p q).directory) (r : Port) :
    t.owned r ≤ s.owned r ∨ t.owned r ≤ s.settings.quota.get r := by
  have ht : t.owned r = ((s.putBinding i c).countOwnerChange p q).owned r := by rw [State.owned, hd, State.owned]
  rw [ht]
  rcases (s.putBinding i c).countOwnerChange_owned_le p q r with h | ⟨rfl, h⟩
  · exact .inl h
  · exact .inr (h.trans (Nat.succ_le_of_lt hq))

/-- A binding goes from one owner to another, with what follows in the entries and the reports (R35, R36, R74, R148). -/
theorem State.ownerChange_keeps {p q : Port} (hi : s.slot i = .occupied b) (hid : c.Holds b.domain b.key)
    (hc : c.tenure = .bound q) (hq : s.owned q < s.settings.quota.get q)
    (hidle : s.IdleLaw → c.idle ≤ 15 ∧ (c.cls = .pinned → c.idle = 0))
    (hd : t.directory = ((s.putBinding i c).countOwnerChange p q).directory) (hdom : t.domains = s.domains)
    (hx : t.settings = s.settings) (hp : s.TransferLaw → p ≠ q ∧ b.tenure.owner = some p)
    (he : s.TransferLaw → s.EntriesFollow t i (.occupied c)) : s.Keeps t := by
  have hr : (s.writeSlot i (.occupied c)).Recounts t :=
    ((s.putBinding i c).countOwnerChange_recounts p q).same hd hdom hx
  refine (State.Writes.staying hi hid hr (fun hl => ?_) he hidle (State.ownerChange_bounded s hq hd) fun d => ?_).keeps
    (fun _ => hi ▸ .stays hid)
  · exact ((s.putBinding i c).countOwnerChange_moves (hp hl).1 hid.1 (hp hl).2 (by rw [hc]; rfl)).congr ⟨rfl, rfl, rfl, rfl⟩
      ⟨by rw [hd], by rw [hd], by rw [hd], hdom⟩
  · rw [State.domain, hdom, State.domain]

/-- A binding that is not in TRANSFER, before and after. -/
theorem State.EntriesFollow.still (hi : s.slot i = .occupied b) (hb : b.tenure.transfer? = none) (hc : c.tenure.transfer? = none)
    (he : t.transfers = s.transfers) : s.EntriesFollow t i (.occupied c) :=
  .kept (by rw [hi, Slot.transfer?_occupied, Slot.transfer?_occupied, hb, hc]) fun w => by rw [State.entry, he, State.entry]

/-- A binding is held (R146). -/
theorem State.hold_keeps {p : Port} (hi : s.slot i = .occupied b) (hb : b.tenure = .bound p)
    (hd : t.directory = ((s.putBinding i { b with tenure := .orphaned }).countHold p b.domain).directory)
    (hdom : t.domains = ((s.putBinding i { b with tenure := .orphaned }).countHold p b.domain).domains)
    (hx : t.settings = s.settings) (he : t.transfers = s.transfers) : s.Keeps t := by
  have hr : (s.writeSlot i (.occupied { b with tenure := .orphaned })).Recounts t :=
    ((s.putBinding i { b with tenure := .orphaned }).countHold_recounts p b.domain).same hd hdom hx
  refine (State.Writes.staying hi (c := { b with tenure := .orphaned }) ⟨rfl, rfl⟩ hr (fun _ => ?_)
    (fun _ => .still hi (by rw [hb]; rfl) rfl he) (fun hl => hl.idle i b hi) (fun r => .inl ?_) fun d => ?_).keeps
    (fun _ => hi ▸ .stays ⟨rfl, rfl⟩)
  · exact ((s.putBinding i { b with tenure := .orphaned }).countHold_moves (b := b) (c := { b with tenure := .orphaned }) rfl
      (by rw [hb]; rfl) rfl).congr ⟨rfl, rfl, rfl, rfl⟩ ⟨by rw [hd], by rw [hd], by rw [hd], hdom⟩
  · rw [State.owned, hd, ← State.owned, State.countHold_owned]
    split
    · exact Nat.sub_le _ _
    · exact le_rfl
  · rw [State.domain, hdom, ← State.domain, State.countHold_domain]
    split
    next h => rw [h]; rfl
    · rfl

/-- An ORPHANED binding is adopted (R36). -/
theorem State.orphanAdoption_keeps {q : Port} (hi : s.slot i = .occupied b) (hid : c.Holds b.domain b.key)
    (hb : b.tenure = .orphaned) (hc : c.tenure = .bound q) (hq : s.owned q < s.settings.quota.get q)
    (hidle : s.IdleLaw → c.idle ≤ 15 ∧ (c.cls = .pinned → c.idle = 0))
    (hd : t.directory = ((s.putBinding i c).countOrphanAdoption q b.domain).directory)
    (hdom : t.domains = ((s.putBinding i c).countOrphanAdoption q b.domain).domains)
    (hx : t.settings = s.settings) (he : t.transfers = s.transfers) : s.Keeps t := by
  have hr : (s.writeSlot i (.occupied c)).Recounts t :=
    ((s.putBinding i c).countOrphanAdoption_recounts q b.domain).same hd hdom hx
  refine (State.Writes.staying hi hid hr (fun _ => ?_) (fun _ => .still hi (by rw [hb]; rfl) (by rw [hc]; rfl) he) hidle
    (fun r => ?_) fun d => ?_).keeps (fun _ => hi ▸ .stays hid)
  · exact ((s.putBinding i c).countOrphanAdoption_moves hid.1 hb (by rw [hc]; rfl)).congr ⟨rfl, rfl, rfl, rfl⟩
      ⟨by rw [hd], by rw [hd], by rw [hd], hdom⟩
  · rw [State.owned, hd, ← State.owned, State.countOrphanAdoption_owned]
    split
    next h => subst h; exact .inr (Nat.succ_le_of_lt hq)
    · exact .inl le_rfl
  · rw [State.domain, hdom, ← State.domain, State.countOrphanAdoption_domain]
    split
    next h => rw [h]; rfl
    · rfl

/-! ### Transfers -/

theorem State.EntriesFollow.of_ended {x : TransferIndex} {g : Port} (hi : s.slot i = .occupied b) (hb : b.tenure = .transfer g x)
    (hc : c.tenure.transfer? = none) (he : ∀ w, t.entry w = if w = x then none else s.entry w) :
    s.EntriesFollow t i (.occupied c) :=
  .ended g x (by rw [hi, Slot.transfer?_occupied, hb]; rfl) hc he

/-- A binding in TRANSFER is handed to the taker, and the transfer ends (R73, R74). -/
theorem State.grantToTaker_keeps {x : TransferIndex} {e : Transfer} (hi : s.slot i = .occupied b)
    (hb : s.TransferLaw → b.tenure = .transfer e.giver x ∧ e.giver ≠ e.taker)
    (hq : s.owned e.taker < s.settings.quota.get e.taker) (o : TransferOutcome) :
    s.Keeps ((s.grantToTaker i b e).endTransfer x e o b.domain b.key) :=
  State.ownerChange_keeps (p := e.giver) hi
    (c := { b with tenure := .bound e.taker, handle := e.handle, touched := true, idle := 0 }) ⟨rfl, rfl⟩ rfl hq
    (fun _ => ⟨Nat.zero_le _, fun _ => rfl⟩) (by rw [State.endTransfer_directory]; rfl) (by simp) (by simp)
    (fun hl => ⟨(hb hl).2, by rw [(hb hl).1]; rfl⟩)
    fun hl => .of_ended hi (hb hl).1 rfl fun w => by rw [State.endTransfer_entry]; rfl

/-- A binding in TRANSFER is returned to its giver, and the transfer ends (R73, R75). -/
theorem State.returnToGiver_keeps {x : TransferIndex} {e : Transfer} {g : Port} (hi : s.slot i = .occupied b)
    (hb : s.TransferLaw → b.tenure = .transfer g x) (o : TransferOutcome) :
    s.Keeps ((s.returnToGiver i b g).endTransfer x e o b.domain b.key) := by
  have hr : (s.writeSlot i (.occupied { b with tenure := .bound g })).Recounts
      ((s.returnToGiver i b g).endTransfer x e o b.domain b.key) :=
    (State.Recounts.refl _).same (by rw [State.endTransfer_directory]; rfl) (by simp) (by simp)
  refine (State.Writes.staying hi (c := { b with tenure := .bound g }) ⟨rfl, rfl⟩ hr (fun hl => ?_) (fun hl => ?_)
    (fun hl => hl.idle i b hi) (fun r => .inl ?_) fun d => ?_).keeps (fun _ => hi ▸ .stays ⟨rfl, rfl⟩)
  · exact .remark ⟨by rw [State.endTransfer_directory]; rfl, by rw [State.endTransfer_directory]; rfl,
      by rw [State.endTransfer_directory]; rfl, by simp⟩ rfl (by rw [hb hl]; rfl)
  · exact .of_ended hi (hb hl) rfl fun w => by rw [State.endTransfer_entry]; rfl
  · exact le_of_eq (State.returnToGiver_end_owned s i b g x e o r)
  · simp [State.domain]

/-- An offer puts the binding in TRANSFER under a FREE entry (R78). -/
theorem State.offer_keeps {p g : Port} {x : TransferIndex} (h : Handle) (tag : Byte) (hi : s.slot i = .occupied b)
    (hb : b.tenure = .bound g) (hx : s.entry x = none) (hgp : g ≠ p) : s.Keeps (s.offered p h tag i b g x) := by
  have hr : (s.writeSlot i (.occupied { b with tenure := .transfer g x })).Recounts (s.offered p h tag i b g x) :=
    (State.Recounts.refl _).same rfl rfl rfl
  refine (State.Writes.staying hi (c := { b with tenure := .transfer g x }) ⟨rfl, rfl⟩ hr (fun _ => ?_) (fun _ => ?_)
    (fun hl => hl.idle i b hi) (fun r => .inl le_rfl) fun d => rfl).keeps (fun _ => hi ▸ .stays ⟨rfl, rfl⟩)
  · exact .remark ⟨rfl, rfl, rfl, rfl⟩ rfl (by rw [hb]; rfl)
  · exact .offered x ⟨.pending, i, g, p, s.settings.transferTimeout, tag, h⟩ (by rw [hi, Slot.transfer?_occupied, hb]; rfl) rfl hx
      rfl hgp fun w => State.offered_entry s p h tag i b g x w

end

end Sys2Proof.Machine
end

section
/-! SUPPORT. What the readings of slots, the requests in their grants and the buckets of the jobs keep of the directory's
laws. -/

namespace Sys2Proof.Machine

section
variable {s t u : State} {i : Nat} {b c : Binding} {f l : List Nat} {d : DomainId} {k : Key}

/-! ### Readings of slots (R18, R19) -/

/-- A reading leaves every slot as it was, or DEFECTIVE. -/
structure State.ReadsSlots (s t : State) : Prop extends s.Keeps t where
  fails : s.directory.wf = true → ∀ j, t.slot j = s.slot j ∨ t.slot j = .defective

theorem State.ReadsSlots.refl (s : State) : s.ReadsSlots s := ⟨.refl s, fun _ _ => .inl rfl⟩

theorem State.ReadsSlots.trans (h : s.ReadsSlots t) (k : t.ReadsSlots u) : s.ReadsSlots u :=
  ⟨h.toKeeps.trans k.toKeeps, fun hs j => by
    rcases k.fails (h.form hs) j with hj | hj
    · rw [hj]
      exact h.fails hs j
    · exact .inr hj⟩

theorem State.ReadsSlots.of_same (hd : t.directory = s.directory) (hdom : t.domains = s.domains)
    (he : t.transfers = s.transfers) (hx : t.settings = s.settings) : s.ReadsSlots t :=
  ⟨.of_same hd hdom he hx, fun _ j => .inl (by rw [State.slot, hd, State.slot])⟩

theorem State.slotFails_slot (hs : s.directory.wf = true) (h : s.slot i = .free ∨ ∃ b, s.slot i = .occupied b) (j : Nat) :
    (s.slotFails i).slot j = if j = i then .defective else s.slot j := by
  have hin : i < Config.ways * s.directory.cleared :=
    State.inRange_of_slot (by rcases h with h | ⟨b, h⟩ <;> simp [h]) hs
  have hw : (s.directory.write i .defective).read j = if j = i then .defective else s.slot j :=
    Directory.write_read hs hin (by simp) j
  rcases h with h | ⟨b, h⟩
  · have : s.slotFails i = ((s.writeSlot i .defective).modifyDefective (· + 1)).reportSlotFault i := by
      simp [State.slotFails, h]
    rw [this, ← hw]
    rfl
  · rw [State.slot, State.slotFails_directory h, ← State.slot, State.countRemoval_slot, State.modifyDefective_slot, ← hw]
    rfl

theorem State.slotFails_readsSlots (h : s.slot i = .free ∨ ∃ b, s.slot i = .occupied b) : s.ReadsSlots (s.slotFails i) :=
  ⟨State.slotFails_keeps h, fun hs j => by
    rw [State.slotFails_slot hs h]
    split
    · exact .inr rfl
    · exact .inl rfl⟩

theorem State.lookupIn_readsSlots (s : State) (f : List Nat) (d : DomainId) (k : Key) (l : List Nat) :
    s.ReadsSlots (s.lookupIn f d k l).1 := by
  induction l generalizing s with
  | nil => exact .refl s
  | cons i rest ih =>
    unfold State.lookupIn
    split
    next b hb =>
      split
      · exact (State.slotFails_readsSlots (.inr ⟨b, hb⟩)).trans (ih _)
      · split
        · exact .refl s
        · exact ih s
    all_goals exact ih s

theorem State.freeWayIn_readsSlots (s : State) (f l : List Nat) : s.ReadsSlots (s.freeWayIn f l).1 := by
  induction l generalizing s with
  | nil => exact .refl s
  | cons i rest ih =>
    unfold State.freeWayIn
    split
    next hi =>
      split
      · exact (State.slotFails_readsSlots (.inl hi)).trans (ih _)
      · exact .refl s
    all_goals exact ih s

theorem State.scanIn_readsSlots (s : State) (f : List Nat) (x : ScanFilter) (l : List Nat) :
    s.ReadsSlots (s.scanIn f x l).1 := by
  induction l generalizing s with
  | nil => exact .refl s
  | cons i rest ih =>
    unfold State.scanIn
    split
    next b hb =>
      split
      · exact (State.slotFails_readsSlots (.inr ⟨b, hb⟩)).trans (ih _)
      · split
        · exact .refl s
        · exact ih s
    all_goals exact ih s

/-- After a lookup that misses, no slot of its list holds the identifier (R6). -/
theorem State.lookupIn_missed (hs : s.directory.wf = true) (h : (s.lookupIn f d k l).2 = none) :
    ∀ j ∈ l, ∀ b, (s.lookupIn f d k l).1.slot j = .occupied b → ¬ b.Holds d k := by
  induction l generalizing s with
  | nil => exact fun j hj => absurd hj List.not_mem_nil
  | cons i rest ih =>
    intro j hj b hb
    cases hc : s.slot i with
    | occupied c =>
      simp only [State.lookupIn, hc] at h hb
      by_cases hf : f.contains i = true
      · simp only [hf, if_true] at h hb
        have hr := State.slotFails_readsSlots (.inr ⟨c, hc⟩)
        rcases List.mem_cons.1 hj with rfl | hj
        · have hdef : (s.slotFails j).slot j = .defective := by
            rw [State.slotFails_slot hs (.inr ⟨c, hc⟩), if_pos rfl]
          rcases ((s.slotFails j).lookupIn_readsSlots f d k rest).fails (hr.form hs) j with h' | h' <;>
            rw [h'] at hb <;> simp [hdef] at hb
        · exact ih (hr.form hs) h j hj b hb
      · simp only [hf, Bool.false_eq_true, if_false] at h hb
        by_cases hm : c.domain = d ∧ c.key = k
        · simp [hm] at h
        · simp only [hm, if_false] at h hb
          rcases List.mem_cons.1 hj with rfl | hj
          · rcases (s.lookupIn_readsSlots f d k rest).fails hs j with h' | h' <;> rw [h'] at hb
            · rw [hc] at hb
              cases hb
              exact hm
            · cases hb
          · exact ih hs h j hj b hb
    | undefined | free | defective =>
      simp only [State.lookupIn, hc] at h hb
      rcases List.mem_cons.1 hj with rfl | hj
      · rcases (s.lookupIn_readsSlots f d k rest).fails hs j with h' | h' <;> rw [h'] at hb <;> simp [hc] at hb
      · exact ih hs h j hj b hb

/-- What an insertion finds is a FREE slot of its list (R7); FREE slots that fail move no count. -/
theorem State.freeWayIn_found (s : State) (f l : List Nat) (h : (s.freeWayIn f l).2 = some i) :
    i ∈ l ∧ (s.freeWayIn f l).1.slot i = .free := by
  induction l generalizing s with
  | nil => simp [State.freeWayIn] at h
  | cons j rest ih =>
    cases hc : s.slot j with
    | free =>
      simp only [State.freeWayIn, hc] at h ⊢
      by_cases hf : f.contains j = true
      · simp only [hf, if_true] at h ⊢
        exact ⟨List.mem_cons_of_mem _ (ih _ h).1, (ih _ h).2⟩
      · simp only [hf, Bool.false_eq_true, if_false, Option.some.injEq] at h ⊢
        subst h
        exact ⟨List.mem_cons_self, hc⟩
    | occupied c | undefined | defective =>
      simp only [State.freeWayIn, hc] at h ⊢
      exact ⟨List.mem_cons_of_mem _ (ih _ h).1, (ih _ h).2⟩

theorem State.freeWayIn_tallies (s : State) (f l : List Nat) :
    (s.freeWayIn f l).1.directory.ownedCount = s.directory.ownedCount ∧ (s.freeWayIn f l).1.domains = s.domains := by
  induction l generalizing s with
  | nil => exact ⟨rfl, rfl⟩
  | cons i rest ih =>
    unfold State.freeWayIn
    split
    next hi =>
      split
      · obtain ⟨h1, h2⟩ := ih (s.slotFails i)
        rw [h1, h2]
        simp only [State.slotFails, hi]
        exact ⟨rfl, rfl⟩
      · exact ⟨rfl, rfl⟩
    all_goals exact ih s

/-! ### A creation (R7, R37) -/

/-- An operation that may create a binding in a FREE slot. -/
structure State.Inserts (s t : State) : Prop extends s.KeepsLaws t where
  becomes : s.directory.wf = true → ∀ j, (s.slot j).MayBecome (t.slot j)

theorem State.Keeps.inserts (h : s.Keeps t) : s.Inserts t := ⟨h.toKeepsLaws, fun hs j => (h.turns hs j).mayBecome⟩

theorem State.Inserts.same (h : s.Inserts t) (hd : u.directory = t.directory) (hdom : u.domains = t.domains)
    (he : u.transfers = t.transfers) (hx : u.settings = t.settings) : s.Inserts u :=
  ⟨h.toKeepsLaws.trans (State.Keeps.of_same hd hdom he hx).toKeepsLaws, fun hs j => by
    have hj : u.slot j = t.slot j := by rw [State.slot, hd, State.slot]
    exact hj ▸ h.becomes hs j⟩

theorem State.creation_bounds {p : Port} (hq : s.owned p < s.settings.quota.get p)
    (hcap : (s.domain c.domain).count < (s.domain c.domain).policy.cap)
    (hd : t.directory = ((s.putBinding i c).countCreation c.domain p).directory)
    (hdom : t.domains = ((s.putBinding i c).countCreation c.domain p).domains)
    (hx : t.settings = s.settings) : s.KeepsBounds t where
  owned r := by
    have ht : t.owned r = ((s.putBinding i c).countCreation c.domain p).owned r := by rw [State.owned, hd, State.owned]
    rw [ht, State.countCreation_owned]
    split
    next h => subst h; exact .inr (Nat.succ_le_of_lt hq)
    · exact .inl le_rfl
  count e := by
    have ht : t.domain e = ((s.putBinding i c).countCreation c.domain p).domain e := by rw [State.domain, hdom, State.domain]
    rw [ht, State.countCreation_domain]
    split
    next h => subst h; exact .inr (Nat.succ_le_of_lt hcap)
    · exact .inl le_rfl
  settings := hx
  policy e := by
    have ht : t.domain e = ((s.putBinding i c).countCreation c.domain p).domain e := by rw [State.domain, hdom, State.domain]
    rw [ht, ((s.putBinding i c).countCreation_recounts c.domain p).policy]
    rfl

/-- A new binding is written into a FREE slot of the bucket of its identifier, which no slot of the bucket holds. -/
theorem State.creation_writes {p : Port} (hb : s.KeepsBounds t) (hi : s.slot i = .free) (hc : c.tenure = .bound p)
    (hidle : c.idle = 0) (hin : i ∈ s.slotsOf c.domain c.key)
    (hno : ∀ j ∈ s.slotsOf c.domain c.key, ∀ b, s.slot j = .occupied b → ¬ b.Holds c.domain c.key)
    (hd : t.directory = ((s.putBinding i c).countCreation c.domain p).directory)
    (hdom : t.domains = ((s.putBinding i c).countCreation c.domain p).domains) (he : t.transfers = s.transfers) :
    s.Writes t i (.occupied c) where
  toKeepsBounds := hb
  cells := by rw [hd]; rfl
  cleared := by rw [hd]; rfl
  inRange := State.inRange_of_slot (by simp [hi])
  notUndefined := by simp
  identity _ := by
    rintro _ ⟨rfl⟩
    exact .inr ⟨hin, hno⟩
  counts _ _ := by
    rw [hi]
    exact ((s.putBinding i c).countCreation_moves hc).congr ⟨rfl, rfl, rfl, rfl⟩ ⟨by rw [hd], by rw [hd], by rw [hd], hdom⟩
  entries _ _ := .kept (by rw [hi, Slot.transfer?_occupied, hc]; rfl) fun w => by rw [State.entry, he, State.entry]
  idle := by
    rintro _ _ ⟨rfl⟩
    simp [hidle]

/-- A creation after readings of slots. -/
theorem State.ReadsSlots.creates (h : s.ReadsSlots u) {p : Port} (hi : u.slot i = .free) (hb : u.KeepsBounds t)
    (hw : s.directory.wf = true → u.Writes t i (.occupied c)) (hc : c.tenure = .bound p) (htouched : c.touched = true)
    (hidle : c.idle = 0) : s.Inserts t := by
  refine ⟨⟨h.toKeepsBounds.trans hb, fun hs => (hw hs).form (h.form hs),
    fun hs => (hw hs.form).keepsLaws.laws (h.laws hs), fun hs hl => (hw hs).keepsLaws.idle (h.form hs) (h.idle hs hl)⟩,
    fun hs j => ?_⟩
  rw [(hw hs).slot (h.form hs)]
  split
  next hj =>
    subst hj
    rcases h.fails hs j with hj | hj
    · rw [← hj, hi]
      exact .inr (.inr ⟨c, p, rfl, hc, htouched, hidle⟩)
    · rw [hi] at hj
      cases hj
  · exact (h.turns hs j).mayBecome

theorem createBinding_inserts (v : View) (p : Port) (a : ClaimArgs) (st : Status) (f : List Nat) (h : s.ReadsSlots u)
    (hno : s.directory.wf = true → ∀ j ∈ u.slotsOf a.domain a.key, ∀ b, u.slot j = .occupied b → ¬ b.Holds a.domain a.key) :
    s.Inserts (createBinding v p a st f u).state := by
  have hfree := u.freeWayIn_readsSlots f (u.slotsOf a.domain a.key)
  obtain ⟨hown, hdom⟩ := u.freeWayIn_tallies f (u.slotsOf a.domain a.key)
  unfold createBinding
  split
  · exact h.toKeeps.inserts
  next hcap =>
  split
  · exact h.toKeeps.inserts
  next hq =>
  split
  · exact (h.toKeeps.same (u := (throttle u p).state) rfl rfl rfl rfl).inserts
  split
  next w he =>
    rw [he] at hfree
    exact (h.trans hfree).toKeeps.inserts
  next w i he =>
    obtain ⟨hin, hi⟩ := u.freeWayIn_found f _ (by rw [he])
    rw [he] at hfree hi hown hdom
    have hslots : w.slotsOf a.domain a.key = u.slotsOf a.domain a.key := by
      rw [State.slotsOf, hfree.settings, State.slotsOf]
    have hb : w.KeepsBounds ((((w.putBinding i ⟨a.domain, a.key, .bound p, a.handle, classAfter a.pin .leased, true, 0⟩).countCreation
        a.domain p).takeCredit p).countInGrant (.port p .claims)) := by
      refine State.creation_bounds (c := ⟨a.domain, a.key, .bound p, a.handle, classAfter a.pin .leased, true, 0⟩) (p := p)
        (i := i) ?_ ?_ rfl rfl rfl
      · rw [State.owned, hown, hfree.settings, ← State.owned]
        simpa [State.quotaAllows] using hq
      · rw [State.domain, hdom, ← State.domain]
        simpa using hcap
    refine (h.trans hfree).creates (c := ⟨a.domain, a.key, .bound p, a.handle, classAfter a.pin .leased, true, 0⟩) hi hb
      (fun hs => ?_) (p := p) rfl rfl rfl
    have hu : u.directory.wf = true := h.form hs
    refine State.creation_writes (p := p) hb hi rfl rfl (hslots ▸ hin) (fun j hj b hj' hh => ?_) rfl rfl rfl
    obtain ⟨b', hb', hd, hk⟩ := Slot.MayTurn.occupied (hj' ▸ hfree.turns hu j)
    exact hno hs j (hslots ▸ hj) b' hb' ⟨hd.symm.trans hh.1, hk.symm.trans hh.2⟩

/-! ### The requests in their grants -/

theorem State.lookup_readsSlots (s : State) (f : List Nat) (d : DomainId) (k : Key) : s.ReadsSlots (s.lookup f d k).1 :=
  s.lookupIn_readsSlots f d k _

theorem State.lookup_found (h : s.lookup f d k = (u, some (i, b))) : u.slot i = .occupied b := by
  have h2 : (s.lookupIn f d k (s.slotsOf d k)).2 = some (i, b) := congrArg Prod.snd h
  have h1 : (s.lookupIn f d k (s.slotsOf d k)).1 = u := congrArg Prod.fst h
  obtain ⟨-, -, -, -, hs⟩ := State.lookupIn_found h2
  rwa [h1] at hs

theorem State.lookup_missed (hs : s.directory.wf = true) (h : s.lookup f d k = (u, none)) :
    ∀ j ∈ u.slotsOf d k, ∀ b, u.slot j = .occupied b → ¬ b.Holds d k := by
  have h2 : (s.lookupIn f d k (s.slotsOf d k)).2 = none := congrArg Prod.snd h
  have h1 : (s.lookupIn f d k (s.slotsOf d k)).1 = u := congrArg Prod.fst h
  have hslots : u.slotsOf d k = s.slotsOf d k := by
    rw [State.slotsOf, ← h1, (s.lookupIn_readsSlots f d k _).settings, State.slotsOf]
  rw [hslots, ← h1]
  exact State.lookupIn_missed hs h2

theorem createBinding_after_lookup (v : View) (p : Port) (a : ClaimArgs) (st : Status) {w : State}
    (h : s.lookup f a.domain a.key = (u, none)) (hd : w.directory = u.directory) (hdom : w.domains = u.domains)
    (he : w.transfers = u.transfers) (hx : w.settings = u.settings) : s.Inserts (createBinding v p a st f w).state := by
  have hr := s.lookup_readsSlots f a.domain a.key
  rw [h] at hr
  have hrw : s.ReadsSlots w := hr.trans (.of_same hd hdom he hx)
  refine createBinding_inserts v p a st f hrw fun hs j hj b hb => ?_
  rw [State.slotsOf, hx] at hj
  rw [State.slot, hd] at hb
  exact State.lookup_missed hs h j hj b hb

theorem State.IdleLaw.fresh {m : BindingClass} : (0 : Nat) ≤ 15 ∧ (m = .pinned → (0 : Nat) = 0) := ⟨Nat.zero_le _, fun _ => rfl⟩

/-- The branch of a CLAIM whose lookup hits (R32, R35, R36). -/
theorem claimHit_keeps (v : View) (p : Port) (a : ClaimArgs) (hi : s.slot i = .occupied b) :
    s.Keeps (claimHit v p a i b s).state := by
  have hadopt : b.tenure.transfer? = none → (∀ o, b.tenure = .bound o → o ≠ p) → s.Keeps (adoptBinding v p a i b s).state := by
    intro ht ho
    unfold adoptBinding
    split
    · exact .refl s
    next hq =>
    have hq : s.owned p < s.settings.quota.get p := by simpa [State.quotaAllows] using hq
    split
    · exact .of_same rfl rfl rfl rfl
    · dsimp only
      split
      next o hb =>
        exact State.ownerChange_keeps (p := o) hi (c := takenBinding p a b) ⟨rfl, rfl⟩ rfl hq (fun _ => State.IdleLaw.fresh)
          rfl rfl rfl (fun _ => ⟨ho o hb, by rw [hb]; rfl⟩) fun _ => .still hi ht rfl rfl
      next g x hb => simp [hb] at ht
      next hb =>
        exact State.orphanAdoption_keeps hi (c := takenBinding p a b) ⟨rfl, rfl⟩ hb rfl hq (fun _ => State.IdleLaw.fresh)
          rfl rfl rfl rfl
  unfold claimHit
  split
  · exact .refl s
  next hb => exact hadopt (by rw [hb]; rfl) fun o ho => by rw [hb] at ho; cases ho
  next o hb =>
    split
    · exact State.putBinding_keeps hi
        (c := { b with handle := a.handle, touched := true, idle := 0, cls := classAfter a.pin b.cls }) ⟨rfl, rfl⟩ rfl
        fun _ => State.IdleLaw.fresh
    next hop =>
    split
    · exact hadopt (by rw [hb]; rfl) fun o' ho => by
        rw [hb] at ho
        cases ho
        exact hop
    split
    · unfold preemptBinding
      split
      · exact .refl s
      next hq =>
      have hq : s.owned p < s.settings.quota.get p := by simpa [State.quotaAllows] using hq
      split
      · exact .of_same rfl rfl rfl rfl
      · exact State.ownerChange_keeps (p := o) hi (c := takenBinding p a b) ⟨rfl, rfl⟩ rfl hq (fun _ => State.IdleLaw.fresh)
          rfl rfl rfl (fun _ => ⟨hop, by rw [hb]; rfl⟩) fun _ => .still hi (by rw [hb]; rfl) rfl rfl
    · exact .refl s

theorem resolveReply_inserts (v : View) (p : Port) (a : ClaimArgs) (cl : Bool) (f : List Nat) (s : State) :
    s.Inserts (resolveReply v p a cl f s).state := by
  have hr := s.lookup_readsSlots f a.domain a.key
  unfold resolveReply
  dsimp only
  split
  · exact (State.Keeps.refl s).inserts
  split
  next u i b h =>
    rw [h] at hr
    have hi := State.lookup_found h
    have hcount : s.Keeps (u.countInGrant (.port p .resolveHits)) := hr.toKeeps.same rfl rfl rfl rfl
    split
    · exact (hcount.trans (State.putBinding_keeps (c := { b with touched := true, idle := 0 }) hi ⟨rfl, rfl⟩ rfl fun _ => State.IdleLaw.fresh)).inserts
    · exact hcount.inserts
  next u h =>
    rw [h] at hr
    have hcount : s.Keeps (u.countInGrant (.port p .resolveMisses)) := hr.toKeeps.same rfl rfl rfl rfl
    split
    · split
      · exact hcount.inserts
      · exact createBinding_after_lookup v p a .claimed h rfl rfl rfl rfl
    · exact hcount.inserts

theorem claimReply_inserts (v : View) (p : Port) (a : ClaimArgs) (f : List Nat) (s : State) :
    s.Inserts (claimReply v p a f s).state := by
  have hr := s.lookup_readsSlots f a.domain a.key
  unfold claimReply
  dsimp only
  split
  · exact (State.Keeps.refl s).inserts
  split
  · exact (State.Keeps.refl s).inserts
  split
  · exact (State.Keeps.refl s).inserts
  split
  next u i b h =>
    rw [h] at hr
    exact (hr.toKeeps.trans (claimHit_keeps v p a (State.lookup_found h))).inserts
  next u h => exact createBinding_after_lookup v p a .ok h rfl rfl rfl rfl

theorem State.takerRefusal_quota {v : View} {e : Transfer} (h : s.takerRefusal v e = none) :
    s.owned e.taker < s.settings.quota.get e.taker := by
  unfold State.takerRefusal at h
  split at h
  · cases h
  · simpa [State.quotaAllows] using h

theorem releaseReply_keeps (v : View) (p : Port) (d : DomainId) (k : Key) (f : List Nat) (s : State) :
    s.Keeps (releaseReply v p d k f s).state := by
  have hr := s.lookup_readsSlots f d k
  unfold releaseReply
  split
  · exact .refl s
  split
  next u h =>
    rw [h] at hr
    exact hr.toKeeps
  next u i b h =>
    rw [h] at hr
    have hi := State.lookup_found h
    refine hr.toKeeps.trans ?_
    split
    · exact .refl u
    next o hb =>
      split
      · exact State.removeBinding_keeps hi (by simp [State.notifyReleased]) (by simp [State.notifyReleased])
          (by simp [State.notifyReleased]) fun w => by simp [hb, State.notifyReleased, State.entry]
      · exact .refl u
    next g x hb =>
      split
      · split
        next e he =>
          have hT : u.TransferLaw → e.giver = g ∧ g ≠ e.taker := fun hl => by
            obtain ⟨e', he', -, hg, hne⟩ := hl.entry hi hb
            obtain rfl : e' = e := Option.some.inj (he'.symm.trans he)
            exact ⟨hg, hne⟩
          unfold releaseTransfer
          split
          next ho =>
            exact State.grantToTaker_keeps hi (fun hl => ⟨by rw [hb, (hT hl).1], (hT hl).1 ▸ (hT hl).2⟩)
              (State.takerRefusal_quota ho) .granted
          next o _ =>
            refine State.removeBinding_keeps hi ?_ ?_ ?_ fun w => ?_
            · simp [State.notifyReleased]
            · simp [State.notifyReleased]
            · simp [State.notifyReleased]
            · have : (((u.removeBinding i b).endTransfer x e o b.domain b.key).notifyReleased p i b).entry w
                  = ((u.removeBinding i b).endTransfer x e o b.domain b.key).entry w := rfl
              rw [this, State.endTransfer_entry, hb]
              simp [State.entry, eq_comm (a := x)]
        · exact .refl u
      · exact .refl u

theorem touchReply_keeps (p : Port) (d : DomainId) (k : Key) (f : List Nat) (s : State) :
    s.Keeps (touchReply p d k f s).state := by
  have hr := s.lookup_readsSlots f d k
  unfold touchReply
  split
  · exact .refl s
  split
  next u h =>
    rw [h] at hr
    exact hr.toKeeps
  next u i b h =>
    rw [h] at hr
    split
    · exact hr.toKeeps.trans (State.putBinding_keeps (State.lookup_found h) ⟨rfl, rfl⟩ rfl fun _ => State.IdleLaw.fresh)
    · exact hr.toKeeps

theorem readSlotReply_keeps (i : Nat) (f : List Nat) (s : State) : s.Keeps (readSlotReply i f s).state := by
  unfold readSlotReply
  split
  · exact .refl s
  · exact .refl s
  next h =>
    split
    · exact State.slotFails_keeps (.inl h)
    · exact .refl s
  next b h =>
    split
    · exact State.slotFails_keeps (.inr ⟨b, h⟩)
    · exact .refl s

theorem scanReply_keeps (n : Nat) (x : ScanFilter) (f : List Nat) (s : State) : s.Keeps (scanReply n x f s).state := by
  have hr := s.scanIn_readsSlots f x (windowSlots n)
  unfold scanReply
  split
  next u i b h =>
    rw [h] at hr
    exact hr.toKeeps
  next u h =>
    rw [h] at hr
    split <;> exact hr.toKeeps

theorem askReply_keeps (v : View) (p : Port) (tag : Byte) (d : DomainId) (k : Key) (h : Handle) (f : List Nat) (s : State) :
    s.Keeps (askReply v p tag d k h f s).state := by
  have hr := s.lookup_readsSlots f d k
  unfold askReply
  dsimp only
  split
  · exact .refl s
  split
  next u he =>
    rw [he] at hr
    exact hr.toKeeps
  next u i b he =>
    rw [he] at hr
    have hi := State.lookup_found he
    refine hr.toKeeps.trans ?_
    split
    · exact .refl u
    next hown =>
    split
    · exact .refl u
    · exact .refl u
    next g hb =>
      split
      · exact .refl u
      split
      · exact .refl u
      split
      · exact .refl u
      split
      · exact .refl u
      next x hx =>
        have hfree : u.entry x = none := Option.isNone_iff_eq_none.1 (by
          rw [State.freeIndex] at hx
          exact List.find?_some (p := fun i => (u.entry i).isNone) hx)
        have hgp : g ≠ p := fun hgp => hown (by rw [hb, hgp]; rfl)
        rw [offerTransfer_eq]
        exact (State.offer_keeps h tag hi hb hfree hgp).same rfl rfl rfl rfl

/-- A reply to a transfer, and an expiry resolution: what settles the transfer in its slot (R82, R86). -/
theorem State.TransferLaw.ofEntry' (hl : s.TransferLaw) {x : TransferIndex} {e : Transfer} (he : s.entry x = some e)
    (hi : s.slot e.slot = .occupied b) : b.tenure = .transfer e.giver x ∧ e.giver ≠ e.taker := by
  obtain ⟨hne, b', hb', ht⟩ := hl.ofEntry x e he
  rw [hi] at hb'
  cases hb'
  exact ⟨ht, hne⟩

theorem replyToTransfer_keeps {p : Port} {x : TransferIndex} {settle : Transfer → Binding → State → Reply} (f : List Nat)
    (s : State) (h : ∀ e b, s.entry x = some e → s.slot e.slot = .occupied b → s.Keeps (settle e b s).state) :
    s.Keeps (replyToTransfer p x f s settle).state := by
  unfold replyToTransfer
  split
  · exact .refl s
  next e he =>
  split
  · exact .refl s
  split
  next b hb =>
    split
    · exact State.slotFails_keeps (.inr ⟨b, hb⟩)
    · exact h e b he hb
  all_goals exact .refl s

theorem settleGrant_keeps (v : View) {x : TransferIndex} {e : Transfer} (he : s.entry x = some e)
    (hi : s.slot e.slot = .occupied b) : s.Keeps (settleGrant v x e b s).state := by
  unfold settleGrant
  split
  next ho => exact State.grantToTaker_keeps hi (fun hl => hl.ofEntry' he hi) (State.takerRefusal_quota ho) _
  · exact State.returnToGiver_keeps hi (fun hl => (hl.ofEntry' he hi).1) _

/-- An entry that is FREE is freed: under the law of transfers, one that no binding names. -/
theorem State.freeEntry_keeps {x : TransferIndex} (h : s.TransferLaw → s.entry x = none) : s.Keeps (s.freeEntry x) where
  owned _ := .inl le_rfl
  count _ := .inl le_rfl
  settings := rfl
  policy _ := rfl
  form := id
  laws hs := by
    have hk : s.Keeps (s.freeEntry x) := .of_parties rfl rfl (fun w => by
      rw [State.freeEntry_entry]
      split
      next hw => rw [hw, h hs.transfers]
      · rfl) rfl
    exact hk.laws hs
  idle _ hi := ⟨hi.limits, hi.idle⟩
  turns _ _ := .refl _

theorem State.TransferLaw.entry_of_unbound (hl : s.TransferLaw) {x : TransferIndex} {e : Transfer} (he : s.entry x = some e)
    (hi : ∀ b, s.slot e.slot ≠ .occupied b) : False := by
  obtain ⟨-, b, hb, -⟩ := hl.ofEntry x e he
  exact hi b hb

theorem resolveExpiry_keeps (v : View) (x : TransferIndex) (f : List Nat) (s : State) : s.Keeps (resolveExpiry v x f s) := by
  unfold resolveExpiry
  split
  next he => exact State.freeEntry_keeps fun _ => he
  next e he =>
  split
  next b hb =>
    split
    · exact State.slotFails_keeps (.inr ⟨b, hb⟩)
    · unfold settleExpiry
      split
      next ho =>
        have hr : s.takerRefusal v e = none := by
          unfold State.expiryOutcome at ho
          split at ho
          · cases ho
          · split at ho
            next o hr =>
              unfold State.takerRefusal at hr
              split at hr
              · cases hr; cases ho
              · split at hr
                · cases hr; cases ho
                · cases hr
            next hr => exact hr
        exact State.grantToTaker_keeps hb (fun hl => hl.ofEntry' he hb) (State.takerRefusal_quota hr) _
      · exact State.returnToGiver_keeps hb (fun hl => (hl.ofEntry' he hb).1) _
  all_goals exact State.freeEntry_keeps fun hl => (hl.entry_of_unbound he (by simp [*])).elim

theorem settleRefuse_keeps {x : TransferIndex} {e : Transfer} (he : s.entry x = some e) (hi : s.slot e.slot = .occupied b) :
    s.Keeps (settleRefuse x e b s).state := State.returnToGiver_keeps hi (fun hl => (hl.ofEntry' he hi).1) _

/-! ### The buckets of the jobs -/

theorem State.readBinding_keeps {g : Binding → State → State} (f : List Nat) (i : Nat)
    (h : ∀ b, s.slot i = .occupied b → s.Keeps (g b s)) : s.Keeps (s.readBinding f i g) := by
  unfold State.readBinding
  split
  next b hb =>
    split
    · exact State.slotFails_keeps (.inr ⟨b, hb⟩)
    · exact h b hb
  all_goals exact .refl s

theorem State.examine_keeps (s : State) : s.Keeps s.examine := .of_same (by simp [State.examine]) (by simp [State.examine])
  (by simp [State.examine]) (by simp [State.examine])

theorem State.examine_slot (s : State) (i : Nat) : s.examine.slot i = s.slot i := by simp [State.slot, State.examine]

theorem State.ageBinding_keeps (hi : s.slot i = .occupied b) (hb : b.tenure.transfer? = none) : s.Keeps (s.ageBinding i b) := by
  unfold State.ageBinding
  split
  next hc => exact State.putBinding_keeps hi (c := { b with touched := false }) ⟨rfl, rfl⟩ rfl fun hl => hl.idle i b hi
  · exact State.putBinding_keeps hi (c := { b with touched := false, idle := 0 }) ⟨rfl, rfl⟩ rfl fun _ => State.IdleLaw.fresh
  next hc _ =>
    split
    · unfold State.expireBinding
      dsimp only
      refine State.removeBinding_keeps hi ?_ ?_ ?_ fun w => ?_
      · cases b.tenure.owner <;> simp
      · cases b.tenure.owner <;> simp
      · cases b.tenure.owner <;> simp
      · cases b.tenure.owner <;> simp [hb, State.entry]
    next hlt =>
      refine State.putBinding_keeps hi (c := { b with idle := b.idle + 1 }) ⟨rfl, rfl⟩ rfl fun hl => ⟨?_, fun h => ?_⟩
      · have := (hl.limits b.domain).2
        dsimp only
        omega
      · rw [show b.cls = .leased from hc] at h
        cases h

theorem sweepSlot_keeps (f : List Nat) (i : Nat) (s : State) : s.Keeps (sweepSlot f i s) := by
  refine s.readBinding_keeps f i fun b hi => ?_
  have hi' : s.examine.slot i = .occupied b := by rw [State.examine_slot, hi]
  split
  · exact .refl s
  next hb => exact s.examine_keeps.trans (State.ageBinding_keeps hi' (by rw [hb]; rfl))
  next hb => exact s.examine_keeps.trans (State.ageBinding_keeps hi' (by rw [hb]; rfl))

theorem State.removeByJob_keeps (hi : s.slot i = .occupied b) : s.Keeps (s.removeByJob i b) := by
  refine State.removeBinding_keeps hi (by simp [State.removeByJob]) (by simp [State.removeByJob]) (by simp [State.removeByJob])
    fun w => ?_
  rw [State.removeByJob, State.endTransferOf_entry]
  simp [State.entry]

theorem purgeSlot_keeps (x : PurgeFilter) (f : List Nat) (i : Nat) (s : State) : s.Keeps (purgeSlot x f i s) := by
  refine s.readBinding_keeps f i fun b hi => ?_
  split
  · exact s.examine_keeps.trans (State.removeByJob_keeps (by rw [State.examine_slot, hi]))
  · exact s.examine_keeps

/-- A slot that is no longer OCCUPIED is rewritten and retested (R22, R24). -/
theorem retestSlot_keeps {was : Slot} (f : List Nat)
    (h : was ≠ .defective → s.directory.wf = true → s.slot i = .undefined ∨ s.slot i = .free)
    (hd : was = .defective → s.slot i = .defective)
    (hin : s.directory.wf = true → i < Config.ways * s.directory.cleared) : s.Keeps (retestSlot f i was s) := by
  unfold retestSlot
  split
  · split
    · exact .refl s
    all_goals exact State.defect_keeps (h (by simp)) hin
  · split
    · exact State.mend_keeps (hd rfl)
    all_goals exact State.blank_keeps (h (by simp)) hin

/-- A directory that is not in its form has no law to keep but the bounds. -/
theorem State.Keeps.of_unformed (hs : ¬ s.directory.wf = true) (h : s.KeepsBounds t) : s.Keeps t :=
  ⟨⟨h, fun hw => absurd hw hs, fun hl => absurd hl.form hs, fun hw => absurd hw hs⟩, fun hw => absurd hw hs⟩

theorem retestSlot_bounds (f : List Nat) (i : Nat) (was : Slot) (s : State) : s.KeepsBounds (retestSlot f i was s) := by
  unfold retestSlot
  split
  · split
    all_goals exact ⟨fun _ => .inl le_rfl, fun _ => .inl le_rfl, rfl, fun _ => rfl⟩
  · split
    all_goals exact ⟨fun _ => .inl le_rfl, fun _ => .inl le_rfl, rfl, fun _ => rfl⟩

theorem State.removeByJob_slot_same (hs : s.directory.wf = true) (hi : s.slot i = .occupied b) :
    (s.removeByJob i b).slot i = .free := by
  have h : (s.removeByJob i b).directory = (s.removeBinding i b).directory := by simp [State.removeByJob]
  rw [State.slot, h]
  exact State.removeBinding_slot_same hs hi b

theorem rewriteSlot_keeps (f : List Nat) (i : Nat) (s : State) : s.Keeps (rewriteSlot f i s) := by
  unfold rewriteSlot
  split
  next b hi =>
    have hi' : s.examine.slot i = .occupied b := by rw [State.examine_slot, hi]
    have hrem := s.examine_keeps.trans (State.removeByJob_keeps hi')
    by_cases hs : s.directory.wf = true
    · have hfree := State.removeByJob_slot_same (s.examine_keeps.form hs) hi'
      exact hrem.trans (retestSlot_keeps f (fun _ _ => .inr hfree) (by simp) (State.inRange_of_slot (by simp [hfree])))
    · exact .of_unformed hs (hrem.toKeepsBounds.trans (retestSlot_bounds f i _ _))
  · exact .refl s
  next hi => exact retestSlot_keeps f (fun _ _ => .inr hi) (by simp) (State.inRange_of_slot (by simp [hi]))
  next hi => exact retestSlot_keeps f (by simp) (fun _ => hi) (State.inRange_of_slot (by simp [hi]))

theorem startupSlot_keeps {n : Nat} (f : List Nat) (s : State) (hn : n < Config.buckets) (hi : i ∈ bucketSlots n) :
    s.Keeps (startupSlot n f i s) := by
  have hin : i < Config.ways * (s.reachBucket n).directory.cleared :=
    (show i < Config.ways * (n + 1) from (mem_bucketSlots.1 hi).2).trans_le
      (Nat.mul_le_mul_left _ (Nat.le_max_right _ _))
  have hreach : s.slot i = .undefined ∨ s.slot i = .free →
      (s.reachBucket n).slot i = .undefined ∨ (s.reachBucket n).slot i = .free := fun h => by
    rcases s.reachBucket_slot n i with h' | ⟨-, h'⟩
    · rwa [h']
    · exact .inr h'
  unfold startupSlot
  split
  next h => exact (State.reachBucket_keeps hn).trans (retestSlot_keeps f (fun _ _ => hreach (.inl h)) (by simp) fun _ => hin)
  next h => exact (State.reachBucket_keeps hn).trans (retestSlot_keeps f (fun _ _ => hreach (.inr h)) (by simp) fun _ => hin)
  all_goals exact .refl s

/-! ### The ORPHAN job -/

theorem State.orphanHold_keeps {p : Port} (hi : s.slot i = .occupied b) (hb : b.tenure = .bound p) :
    s.Keeps (s.orphanHold p i b) :=
  State.hold_keeps hi hb (by simp [State.orphanHold]) (by simp [State.orphanHold]) (by simp [State.orphanHold])
    (by simp [State.orphanHold])

theorem State.orphanAction_keeps (v : View) {p : Port} (hi : s.slot i = .occupied b) (hb : b.tenure = .bound p) :
    s.Keeps (s.orphanAction v p i b) := by
  unfold State.orphanAction
  dsimp only
  split
  · exact State.removeBinding_keeps hi (by simp [State.orphanRemove]) (by simp [State.orphanRemove])
      (by simp [State.orphanRemove]) fun w => by simp [hb, State.orphanRemove, State.entry]
  · exact State.orphanHold_keeps hi hb
  · exact State.orphanHold_keeps hi hb
  · split
    next h =>
      simp only [State.standbyMayAdopt, Bool.and_eq_true, decide_eq_true_eq, State.quotaAllows] at h
      obtain ⟨⟨⟨-, hne⟩, hq⟩, -⟩ := h
      exact State.ownerChange_keeps (p := p) hi
        (c := { b with tenure := .bound (s.domain b.domain).policy.standby, touched := true, idle := 0 }) ⟨rfl, rfl⟩ rfl hq
        (fun _ => State.IdleLaw.fresh) (by simp [State.orphanAdopt]) (by simp [State.orphanAdopt])
        (by simp [State.orphanAdopt]) (fun _ => ⟨Ne.symm hne, by rw [hb]; rfl⟩)
        fun _ => .still hi (by rw [hb]; rfl) rfl (by simp [State.orphanAdopt])
    · exact State.orphanHold_keeps hi hb

theorem State.orphanAction_bounds (s : State) (v : View) (p : Port) (i : Nat) (b : Binding) :
    s.KeepsBounds (s.orphanAction v p i b) := by
  have hsame : ∀ {t u : State}, s.KeepsBounds t → u.directory = t.directory → u.domains = t.domains →
      u.settings = t.settings → s.KeepsBounds u := fun h hd hdom hx =>
    h.trans ⟨fun q => .inl (by rw [State.owned, hd, State.owned]), fun d => .inl (by rw [State.domain, hdom, State.domain]),
      hx, fun d => by rw [State.domain, hdom, State.domain]⟩
  have hhold : s.KeepsBounds (s.orphanHold p i b) := by
    have hc : s.KeepsBounds ((s.putBinding i { b with tenure := .orphaned }).countHold p b.domain) := by
      refine ⟨fun r => .inl ?_, fun d => .inl ?_, rfl, ((s.putBinding i _).countHold_recounts p b.domain).policy⟩
      · rw [State.countHold_owned]
        split
        · exact Nat.sub_le _ _
        · exact le_rfl
      · rw [State.countHold_domain]
        split
        next h => rw [h]; exact le_rfl
        · exact le_rfl
    exact hsame hc (by simp [State.orphanHold]) (by simp [State.orphanHold]) (by simp [State.orphanHold])
  unfold State.orphanAction
  dsimp only
  split
  · have hc : s.KeepsBounds (s.removeBinding i b) :=
      ⟨fun r => .inl ((s.writeSlot i .free).countRemoval_owned_le b r),
        fun d => .inl ((s.writeSlot i .free).countRemoval_count_le b d), by simp,
        ((s.writeSlot i .free).countRemoval_recounts b).policy⟩
    exact hsame hc (by simp [State.orphanRemove]) (by simp [State.orphanRemove]) (by simp [State.orphanRemove])
  · exact hhold
  · exact hhold
  · split
    next h =>
      simp only [State.standbyMayAdopt, Bool.and_eq_true, decide_eq_true_eq, State.quotaAllows] at h
      obtain ⟨⟨-, hq⟩, -⟩ := h
      have hdom : (s.orphanAdopt p (s.domain b.domain).policy.standby i b).domains = s.domains := by
        simp [State.orphanAdopt]
      exact ⟨State.ownerChange_bounded (i := i) (p := p) s hq
          (c := { b with tenure := .bound (s.domain b.domain).policy.standby, touched := true, idle := 0 })
          (by simp [State.orphanAdopt]), fun d => .inl (by rw [State.domain, hdom, State.domain]), by simp [State.orphanAdopt],
        fun d => by rw [State.domain, hdom, State.domain]⟩
    · exact hhold

theorem orphanSlot_keeps (v : View) (p : Port) (f : List Nat) (i : Nat) (s : State) : s.Keeps (orphanSlot v p f i s) := by
  refine s.readBinding_keeps f i fun b hi => ?_
  have hi' : s.examine.slot i = .occupied b := by rw [State.examine_slot, hi]
  split
  · exact .refl s
  next o hb =>
    split
    next ho => exact s.examine_keeps.trans (State.orphanAction_keeps v hi' (by rw [hb, ho]))
    · exact .refl s
  next g x hb =>
    split
    · exact .refl s
    next e he =>
      have hT : s.examine.TransferLaw → e.giver = g ∧ g ≠ e.taker := fun hl => by
        obtain ⟨e', he', -, hg, hne⟩ := hl.entry hi' hb
        have : e' = e := Option.some.inj (he'.symm.trans (by rw [← he]; simp [State.entry, State.examine]))
        exact ⟨this ▸ hg, this ▸ hne⟩
      split
      next hg =>
        refine s.examine_keeps.trans ?_
        unfold State.settleLostGiver
        split
        next hr =>
          exact State.grantToTaker_keeps hi' (fun hl => ⟨by rw [hb, (hT hl).1], (hT hl).1 ▸ (hT hl).2⟩)
            (State.takerRefusal_quota hr) _
        next o _ =>
          have hret := State.returnToGiver_keeps (x := x) (e := e) (g := p) hi' (fun _ => by rw [hb, hg]) o
          by_cases hs : s.examine.directory.wf = true
          · refine hret.trans (State.orphanAction_keeps v ?_ rfl)
            exact (State.returnToGiver_settles hs i b p e x o).slot
          · exact .of_unformed hs (hret.toKeepsBounds.trans (State.orphanAction_bounds _ v p i _))
      · split
        · refine s.examine_keeps.trans ?_
          exact State.returnToGiver_keeps hi' (fun hl => by rw [hb, (hT hl).1]) _
        · exact .refl s

end

end Sys2Proof.Machine
end

section
/-! SUPPORT. Every step keeps the directory's laws, the form of the slots, the cursors, the bounds and the idle law; and a
slot changes only as the table of R3 gives. -/

namespace Sys2Proof.Machine

/-! ### What leaves the store -/

/-- The directory, the domains and the parties of the transfers are the same, with the settings they rest on, and no cursor
has passed the last bucket. -/
structure State.SameStore (s t : State) : Prop where
  directory : t.directory = s.directory
  domains : t.domains = s.domains
  parties : ∀ w, (t.entry w).map (fun e => (e.slot, e.giver, e.taker)) = (s.entry w).map (fun e => (e.slot, e.giver, e.taker))
  hashSeed : t.settings.hashSeed = s.settings.hashSeed
  quota : t.settings.quota = s.settings.quota
  cursors : ∀ j ∈ t.maintenance.queue, j.cursor < Config.buckets ∨ ∃ i ∈ s.maintenance.queue, j.cursor = i.cursor

section
variable {s t u : State}

theorem State.SameStore.of_frame (hd : t.directory = s.directory) (hdom : t.domains = s.domains)
    (he : t.transfers = s.transfers) (hx : t.settings = s.settings)
    (hq : ∀ j ∈ t.maintenance.queue, j.cursor < Config.buckets ∨ ∃ i ∈ s.maintenance.queue, j.cursor = i.cursor) :
    s.SameStore t :=
  ⟨hd, hdom, fun w => by rw [State.entry, he, State.entry], by rw [hx], by rw [hx], hq⟩

theorem State.SameStore.of_eq (hd : t.directory = s.directory) (hdom : t.domains = s.domains) (he : t.transfers = s.transfers)
    (hx : t.settings = s.settings) (hm : t.maintenance.queue = s.maintenance.queue) : s.SameStore t :=
  .of_frame hd hdom he hx fun j hj => .inr ⟨j, hm ▸ hj, rfl⟩

theorem State.SameStore.refl (s : State) : s.SameStore s := .of_eq rfl rfl rfl rfl rfl

theorem State.SameStore.trans (h : s.SameStore t) (k : t.SameStore u) : s.SameStore u :=
  ⟨k.directory.trans h.directory, k.domains.trans h.domains, fun w => (k.parties w).trans (h.parties w),
    k.hashSeed.trans h.hashSeed, k.quota.trans h.quota, fun j hj => by
      rcases k.cursors j hj with hj | ⟨i, hi, he⟩
      · exact .inl hj
      · rw [he]
        exact h.cursors i hi⟩

theorem State.respond_sameStore (s : State) (p : Port) (rq : RequestFrame) (st : Status) (res : Result) :
    s.SameStore (s.respond p rq st res) := .of_eq (by simp) (by simp) (by simp) (by simp) (by simp)

/-- A job that joins the queue starts at bucket 0 (R92, R95). -/
theorem State.SameStore.enqueued {j : Job} (hd : t.directory = s.directory) (hdom : t.domains = s.domains)
    (he : t.transfers = s.transfers) (hx : t.settings = s.settings)
    (hq : t.maintenance.queue = s.maintenance.queue ++ [j]) (hj : j.cursor = 0) : s.SameStore t :=
  .of_frame hd hdom he hx fun k hk => by
    rw [hq, List.mem_append, List.mem_singleton] at hk
    rcases hk with hk | rfl
    · exact .inr ⟨k, hk, rfl⟩
    · rw [hj]
      exact .inl (by decide)

theorem State.leaveOnline_sameStore (s : State) (p : Port) (c : LeaveCause) : s.SameStore (s.leaveOnline p c).1 :=
  .enqueued (by simp) (by simp) (by simp) (by simp) (by rw [(s.leaveOnline_maintenance p c).1]) rfl

theorem State.enqueueJob_sameStore (s : State) (w : JobWork) (r : Option Port) : s.SameStore (s.enqueueJob w r).1 :=
  .enqueued (j := ⟨s.maintenance.newId, w, r, 0, JobCounts.zero⟩) (by simp) (by simp) (by simp) (by simp)
    (by simp [State.enqueueJob]) rfl

/-- A queue that has lost jobs. -/
theorem State.SameStore.shorter (hd : t.directory = s.directory) (hdom : t.domains = s.domains)
    (he : t.transfers = s.transfers) (hx : t.settings = s.settings)
    (hq : t.maintenance.queue ⊆ s.maintenance.queue) : s.SameStore t :=
  .of_frame hd hdom he hx fun j hj => .inr ⟨j, hq hj, rfl⟩

theorem State.AtOnceChange.sameStore {p : Port} (h : s.AtOnceChange p t) : s.SameStore t := by
  cases h with
  | same => exact .refl s
  | attach n m x =>
    unfold State.comeOnlineLinked
    have hc : s.SameStore (s.comeOnline p n m x) := .of_eq (by simp) (by simp) (by simp) (by simp) (by simp)
    split
    · exact hc
    · exact hc.trans (State.leaveOnline_sameStore _ p _)
  | leave q c => exact s.leaveOnline_sameStore q c
  | enqueue w => exact s.enqueueJob_sameStore w _
  | abort j rest hq =>
    refine .shorter (by simp) (by simp) (by simp) (by simp) ?_
    rw [State.finishHead_maintenance hq, hq]
    exact fun i hi => List.mem_cons_of_mem _ ((keptJobs_sublist rest).1.subset hi)
  | cancel j w rest hq =>
    refine .shorter (by simp) (by simp) (by simp) (by simp) ?_
    rw [State.closeJob_maintenance, hq]
    exact (List.erase_sublist.cons_cons j).subset
  | setting x hqt hs => exact ⟨rfl, rfl, fun _ => rfl, hs, hqt, fun j hj => .inr ⟨j, hj, rfl⟩⟩
  | renew | sweepInterval | creditCapacity | refillInterval | holdLease | freeLease | counter =>
    exact ⟨by simp [State.replaceParameters, setSweepInterval, setCreditCapacity, setRefillInterval],
      by simp [State.replaceParameters, setSweepInterval, setCreditCapacity, setRefillInterval],
      fun _ => by simp [State.entry, State.replaceParameters, setSweepInterval, setCreditCapacity, setRefillInterval],
      by simp [State.replaceParameters, setSweepInterval, setCreditCapacity, setRefillInterval],
      by simp [State.replaceParameters, setSweepInterval, setCreditCapacity, setRefillInterval],
      fun j hj => .inr ⟨j, by simpa [State.replaceParameters, setSweepInterval, setCreditCapacity, setRefillInterval] using hj,
        rfl⟩⟩

theorem State.advance_sameStore (s : State) (n : Option Nat) : s.SameStore (s.advance n) := by
  obtain ⟨d, hm, -⟩ := s.advance_ends n
  refine .of_frame (by simp) (by simp) (by simp) (by simp) fun j hj => ?_
  generalize (s.advance n).maintenance = m at hm hj
  cases hm with
  | same l => exact .inr ⟨j, hj, rfl⟩
  | head i rest k c l hq hc =>
    rcases List.mem_cons.1 hj with rfl | hj
    · rcases hc with hc | ⟨-, hc⟩
      · exact .inr ⟨i, by rw [hq]; exact List.mem_cons_self, hc⟩
      · exact .inl hc
    · exact .inr ⟨j, by rw [hq]; exact List.mem_cons_of_mem _ hj, rfl⟩
  | finish i rest o rs l hq =>
    exact .inr ⟨j, by rw [hq]; exact List.mem_cons_of_mem _ ((keptJobs_sublist rest).1.subset hj), rfl⟩

theorem State.linkIsLost_sameStore (s : State) (p : Port) : s.SameStore (s.linkIsLost p) := by
  unfold State.linkIsLost
  have hl : s.SameStore (s.loseLink p) := .of_eq rfl rfl rfl rfl rfl
  split
  · exact hl.trans (State.leaveOnline_sameStore _ p _)
  · exact hl

theorem State.expireKeepalive_sameStore (s : State) (p : Port) : s.SameStore (s.expireKeepalive p) := by
  unfold State.expireKeepalive
  split
  · exact s.leaveOnline_sameStore p _
  · exact .refl s

theorem State.expireSweep_sameStore (s : State) : s.SameStore s.expireSweep := by
  unfold State.expireSweep
  split
  · have hat : s.SameStore s.sweepAttempt := by
      unfold State.sweepAttempt
      split
      · exact .refl s
      · exact s.enqueueJob_sameStore _ _
    exact hat.trans (.of_eq rfl rfl rfl rfl rfl)
  · exact .refl s

theorem State.expireNextTransfer_sameStore (s : State) : s.SameStore s.expireNextTransfer := by
  refine ⟨by simp, by simp, fun w => ?_, by simp, by simp, fun j hj => .inr ⟨j, by simpa using hj, rfl⟩⟩
  unfold State.expireNextTransfer
  split
  next x _ =>
    have : (s.expireEntry x).entry w = (s.setEntry x ((s.entry x).map fun t => { t with phase := .expired })).entry w := rfl
    rw [this, State.entry_setEntry]
    split
    next h =>
      rw [h, Option.map_map]
      rfl
    · rfl
  · rfl

theorem State.tick_sameStore (s : State) : s.SameStore s.tick := by
  refine ⟨by simp, by simp, fun w => ?_, by simp, by simp, fun j hj => .inr ⟨j, by simpa [State.tick] using hj, rfl⟩⟩
  have : s.tick.entry w = (s.entry w).map Transfer.countDown := by
    simp [State.tick, State.entry]
  rw [this, Option.map_map]
  congr 1
  funext e
  unfold Transfer.countDown
  dsimp only [Function.comp]
  split <;> rfl

end

/-- A law that every change of the store keeps, every step keeps. -/
theorem State.Kept.of_store {L : State → Prop} (reset : L State.reset)
    (same : ∀ {s t : State}, L s → s.SameStore t → L t)
    (request : ∀ {s : State} {p : Port} {v : View} {rq : RequestFrame} {c : Instr} {u : Option Nat} {act : State → Reply}, L s →
      rq.body.inRange = true → GrantedAct p v rq c u act → L (act s).state)
    (bucket : ∀ {s : State} {v : View} {j : Job} {rest : List Job} {c : Instr} {u : Option Nat} {f : Nat → State → State}, L s →
      s.maintenance.queue = j :: rest → BucketAct v j c u f → L (s.actBucket j f))
    (resolution : ∀ {s : State} (v : View) (x : TransferIndex) (f : List Nat), L s → L (resolveExpiry v x f s)) :
    State.Kept L where
  reset := reset
  quiet hs h := same hs (.of_eq (h .directory (by simp)) (h .domains (by simp)) (h .transfers (by simp))
    (h .settings (by simp)) (by rw [show _ = _ from h .maintenance (by simp)]))
  refused st hs _ := same hs (State.respond_sameStore _ _ _ _ _)
  direct hs _ hc h := same (same hs (h.change hc).sameStore) (State.respond_sameStore _ _ _ _ _)
  abortWaits p hs := same hs (.of_eq rfl rfl rfl rfl rfl)
  request := request
  bucket := bucket
  resolution v x _ f hs _ := resolution v x f hs
  advance n hs := same hs (State.advance_sameStore _ n)
  startWindow p hs := same hs (.of_eq (by simp) (by simp) (by simp) (by simp) (by simp))
  linkUp p hs _ := same hs (.of_eq rfl rfl rfl rfl rfl)
  linkLost p hs _ := same hs (State.linkIsLost_sameStore _ p)
  arrival p f hs _ := same hs (.of_eq (by simp) (by simp) (by simp) (by simp) (by simp))
  take p rq rest hs _ _ _ := same hs (.of_eq (by simp [State.takeRequest]) (by simp [State.takeRequest])
    (by simp [State.takeRequest]) (by simp [State.takeRequest]) (by simp [State.takeRequest]))
  beginResponse p r hs _ _ := same hs (.of_eq rfl rfl rfl rfl rfl)
  sendNotice p n rest hs _ _ := same hs (.of_eq (by simp [State.sendNotice]) (by simp [State.sendNotice])
    (by simp [State.sendNotice]) (by simp [State.sendNotice]) (by simp [State.sendNotice]))
  frameSent p f hs _ := same hs (.of_eq rfl rfl rfl rfl rfl)
  keepalive p hs := same hs (State.expireKeepalive_sameStore _ p)
  refill p hs := same hs (.of_eq (by simp) (by simp) (by simp) (by simp) (by simp))
  transfer hs := same hs (State.expireNextTransfer_sameStore _)
  lease hs := same hs (.of_eq (by simp) (by simp) (by simp) (by simp) (by simp))
  sweep hs := same hs (State.expireSweep_sameStore _)
  tick hs := same hs (State.tick_sameStore _)

/-! ### What a grant does to the store -/

/-- DOMAIN_SET and the SETTING_SET rows that the directory's laws speak of, in range and not refused (R57, R182, R183). -/
inductive State.Reconfigured (s : State) : State → Prop where
  | policy (d : DomainId) (pol : Policy) : (s.domain d).count ≤ pol.cap → 1 ≤ pol.leaseLimit → pol.leaseLimit ≤ 15 →
      s.Reconfigured (s.modifyDomain d (fun r => { r with policy := pol }))
  | seed (x : Nat) : s.directory.occupied = 0 → s.Reconfigured (s.withSettings { s.settings with hashSeed := x })
  | quota (q : Port) (x : Nat) : s.owned q ≤ x →
      s.Reconfigured (s.withSettings { s.settings with quota := s.settings.quota.set q x })

section
variable {s t : State}

/-- A request in its grant keeps the laws, perhaps with a new binding, or sets a policy, the hash seed or a quota. -/
theorem GrantedAct.store {p : Port} {v : View} {rq : RequestFrame} {c : Instr} {u : Option Nat} {act : State → Reply}
    (h : GrantedAct p v rq c u act) (hr : rq.body.inRange = true) (s : State) :
    s.Inserts (act s).state ∨ s.Reconfigured (act s).state := by
  have same : s.Inserts s := (State.Keeps.refl s).inserts
  cases h with
  | resolve => exact .inl (resolveReply_inserts _ _ _ _ _ s)
  | claim => exact .inl (claimReply_inserts _ _ _ _ s)
  | release => exact .inl (releaseReply_keeps _ _ _ _ _ s).inserts
  | touch => exact .inl (touchReply_keeps _ _ _ _ s).inserts
  | readSlot => exact .inl (readSlotReply_keeps _ _ s).inserts
  | scan => exact .inl (scanReply_keeps _ _ _ s).inserts
  | ask => exact .inl (askReply_keeps _ _ _ _ _ _ _ s).inserts
  | replyGrant => exact .inl (replyToTransfer_keeps _ s fun e b he hi => settleGrant_keeps v he hi).inserts
  | replyRefuse => exact .inl (replyToTransfer_keeps _ s fun e b he hi => settleRefuse_keeps he hi).inserts
  | scanInvalid | domainGet | domainSetInvalid => exact .inl same
  | domainSet d en cp ms ps ns ac ll cap oa sb pol hb hp =>
    unfold domainSetReply
    split
    · exact .inl same
    next hc =>
      have hll : pol.leaseLimit = ll := by
        unfold policyOf at hp
        split at hp
        · cases hp
          rfl
        · cases hp
      have hrange : 1 ≤ ll ∧ ll ≤ 15 := by
        rw [hb] at hr
        simp only [Request.inRange, Bool.and_eq_true, decide_eq_true_eq] at hr
        omega
      exact .inr (.policy _ pol (not_lt.1 hc) (hll ▸ hrange.1) (hll ▸ hrange.2))
  | hashSeed x hb =>
    unfold setHashSeed
    split
    · exact .inl same
    next ho => exact .inr (.seed x (not_not.1 ho))
  | quota id x q hb hq =>
    unfold setQuota
    split
    · exact .inl same
    next ho => exact .inr (.quota q x (not_lt.1 ho))

theorem State.overSlots_keeps {f : Nat → State → State} {l : List Nat} (h : ∀ i ∈ l, ∀ s : State, s.Keeps (f i s)) (s : State) :
    s.Keeps (s.overSlots f l) := by
  induction l generalizing s with
  | nil => exact .refl s
  | cons i rest ih =>
    exact (h i List.mem_cons_self s).trans (ih (fun j hj => h j (List.mem_cons_of_mem _ hj)) (f i s))

/-- A bucket's operation keeps the laws at each slot of the bucket (R95). -/
theorem BucketAct.keeps {v : View} {j : Job} {c : Instr} {u : Option Nat} {f : Nat → State → State} (h : BucketAct v j c u f)
    (hj : j.cursor < Config.buckets) (i : Nat) (hi : i ∈ bucketSlots j.cursor) (s : State) : s.Keeps (f i s) := by
  cases h with
  | sweep => exact sweepSlot_keeps _ i s
  | purge => exact purgeSlot_keeps _ _ i s
  | rewrite => exact rewriteSlot_keeps _ i s
  | orphan => exact orphanSlot_keeps _ _ _ i s
  | startup => exact startupSlot_keeps _ s hj hi

theorem State.actBucket_keeps {v : View} {j : Job} {c : Instr} {u : Option Nat} {f : Nat → State → State}
    (h : BucketAct v j c u f) (hj : j.cursor < Config.buckets) (s : State) : s.Keeps (s.actBucket j f) :=
  (State.overSlots_keeps (h.keeps hj) s).same (by simp [State.actBucket]) (by simp [State.actBucket])
    (by simp [State.actBucket]) (by simp [State.actBucket])

/-! ### The form of the slots and the cursors -/

theorem State.SameStore.storeLaw (h : s.SameStore t) (hs : s.StoreLaw) : t.StoreLaw := by
  refine ⟨by rw [h.directory]; exact hs.form, fun j hj => ?_⟩
  rcases h.cursors j hj with hj | ⟨i, hi, he⟩
  · exact hj
  · rw [he]
    exact hs.cursors i hi

theorem State.StoreLaw.of_maintenance (hs : s.StoreLaw) (hf : t.directory.wf = true) (hm : t.maintenance = s.maintenance) :
    t.StoreLaw := ⟨hf, by rw [hm]; exact hs.cursors⟩

theorem State.Reconfigured.directory (h : s.Reconfigured t) : t.directory = s.directory := by cases h <;> rfl

/-- A law of the slots that every change of the store keeps, every step keeps beside the store law. -/
theorem State.Kept.of_keeps {M : State → Prop} (reset : M State.reset) (same : ∀ {s t : State}, s.SameStore t → M s → M t)
    (keeps : ∀ {s t : State}, s.directory.wf = true → s.KeepsLaws t → M s → M t)
    (reconfigured : ∀ {s t : State}, s.Reconfigured t → M s → M t) : State.Kept fun s => s.StoreLaw ∧ M s := by
  refine .of_store ⟨State.reset_directoryLaw.store, reset⟩ (fun hs h => ⟨h.storeLaw hs.1, same h hs.2⟩) ?_ ?_ ?_
  · intro s p v rq c u act hs hr h
    have hm : (act s).state.maintenance = s.maintenance := (h.actsWide s).frame .maintenance (by simp)
    rcases h.store hr s with hi | hi
    · exact ⟨hs.1.of_maintenance (hi.form hs.1.form) hm, keeps hs.1.form hi.toKeepsLaws hs.2⟩
    · exact ⟨hs.1.of_maintenance (by rw [hi.directory]; exact hs.1.form) hm, reconfigured hi hs.2⟩
  · intro s v j rest c u f hs hq h
    have hj : j.cursor < Config.buckets := hs.1.cursors j (by rw [hq]; exact List.mem_cons_self)
    have hk := State.actBucket_keeps h hj s
    exact ⟨hs.1.of_maintenance (hk.form hs.1.form) (State.actBucket_maintenance hq h), keeps hs.1.form hk.toKeepsLaws hs.2⟩
  · intro s v x f hs
    have hk := resolveExpiry_keeps v x f s
    exact ⟨hs.1.of_maintenance (hk.form hs.1.form) ((resolveExpiry_acts v x f s .p0).frame .maintenance (by simp)),
      keeps hs.1.form hk.toKeepsLaws hs.2⟩

/-- Settles O8: the store law needs nothing beside it. -/
theorem stepKeepsStoreLaw : Obligations.StepKeepsStoreLaw := by
  unfold Obligations.StepKeepsStoreLaw
  exact fun s t hs h => ((State.Kept.of_keeps (M := fun _ => True) trivial (fun _ _ => trivial) (fun _ _ _ => trivial)
    fun _ _ => trivial).step ⟨hs, trivial⟩ h).1

/-! ### The laws of the directory -/

theorem State.SameStore.slotLaws (h : s.SameStore t) (hs : s.SlotLaws) : t.SlotLaws := by
  have hslot : ∀ i, t.slot i = s.slot i := fun i => by rw [State.slot, h.directory, State.slot]
  have hdomain : ∀ d, t.domain d = s.domain d := fun d => by rw [State.domain, h.domains, State.domain]
  have howned : ∀ p, t.owned p = s.owned p := fun p => by rw [State.owned, h.directory, State.owned]
  obtain ⟨c1, c2, c3, c4, c5⟩ := hs.counts
  rw [← h.directory] at c1 c2 c3 c4 c5
  refine ⟨by rw [h.directory]; exact hs.form, ⟨fun p => by rw [howned]; exact c1 p, c2, c3,
    fun d => by rw [hdomain]; exact c4 d, fun d => by rw [hdomain]; exact c5 d⟩,
    hs.transfers.of_parties (fun j => by rw [hslot]) h.parties, fun i b hb => ?_, fun i j b c hb hc => ?_⟩
  · rw [State.slotsOf, h.hashSeed]
    exact hs.place i b (by rw [← hslot, hb])
  · exact hs.unique i j b c (by rw [← hslot, hb]) (by rw [← hslot, hc])

/-- A directory whose counts are 0 holds no binding (R182). -/
theorem State.CountsLaw.empty (h : s.CountsLaw) (ho : s.directory.occupied = 0) (i : Nat) (b : Binding) :
    s.slot i ≠ .occupied b := by
  intro hi
  obtain ⟨hown, horph⟩ := Directory.occupied_eq_zero.1 ho
  have hmem : b ∈ s.directory.bindings := by
    unfold Directory.bindings
    rw [List.mem_filterMap]
    have hr : readCells s.directory.cells i = some (.occupied b) := by
      rw [State.slot, Directory.read] at hi
      cases hc : readCells s.directory.cells i with
      | some x => simpa [hc] using hi
      | none =>
        rw [hc, Option.getD_none, Directory.unlisted] at hi
        split at hi <;> cases hi
    exact ⟨(i, .occupied b), readCells_mem hr, rfl⟩
  have hpos : ∀ f : Binding → Bool, f b = true → s.directory.bindings.countP f ≠ 0 := fun f hf h0 =>
    List.countP_eq_zero.1 h0 b hmem hf
  cases ht : b.tenure.owner with
  | some p => exact hpos _ (by simpa using ht) ((h.owned p).symm.trans (hown p))
  | none => exact hpos _ (by simpa using Tenure.owner_eq_none.1 ht) (h.orphanTotal.symm.trans horph)

theorem State.Reconfigured.slotLaws (h : s.Reconfigured t) (hs : s.SlotLaws) : t.SlotLaws := by
  cases h with
  | policy d pol =>
    have hcount : ∀ e, ((s.modifyDomain d fun r => { r with policy := pol }).domain e).count = (s.domain e).count
        ∧ ((s.modifyDomain d fun r => { r with policy := pol }).domain e).orphans = (s.domain e).orphans := fun e => by
      rw [State.domain_modifyDomain]
      split
      next h => rw [h]; exact ⟨rfl, rfl⟩
      · exact ⟨rfl, rfl⟩
    exact ⟨hs.form, ⟨hs.counts.owned, hs.counts.orphanTotal, hs.counts.defective,
      fun e => (hcount e).1.trans (hs.counts.count e), fun e => (hcount e).2.trans (hs.counts.orphans e)⟩,
      ⟨hs.transfers.ofBinding, hs.transfers.ofEntry⟩, hs.place, hs.unique⟩
  | seed x ho =>
    exact ⟨hs.form, ⟨hs.counts.owned, hs.counts.orphanTotal, hs.counts.defective, hs.counts.count, hs.counts.orphans⟩,
      ⟨hs.transfers.ofBinding, hs.transfers.ofEntry⟩, fun i b hb => absurd hb (hs.counts.empty ho i b), hs.unique⟩
  | quota q x _ =>
    exact ⟨hs.form, ⟨hs.counts.owned, hs.counts.orphanTotal, hs.counts.defective, hs.counts.count, hs.counts.orphans⟩,
      ⟨hs.transfers.ofBinding, hs.transfers.ofEntry⟩, hs.place, hs.unique⟩

theorem State.directoryLaw_kept : State.Kept fun s => s.StoreLaw ∧ s.SlotLaws :=
  .of_keeps (State.DirectoryLaw.iff.1 State.reset_directoryLaw).2 (fun h => h.slotLaws) (fun _ h => h.laws)
    fun h => h.slotLaws

/-- Settles O7: each operation writes slots one by one, and the counts and the entries follow each written slot. -/
theorem stepKeepsDirectoryLaw : Obligations.StepKeepsDirectoryLaw := by
  unfold Obligations.StepKeepsDirectoryLaw
  exact fun s t hs h => State.DirectoryLaw.iff.2 (State.directoryLaw_kept.step (State.DirectoryLaw.iff.1 hs) h)

/-! ### Idle -/

theorem State.IdleLaw.congr (hs : s.IdleLaw) (hslot : ∀ i, t.slot i = s.slot i)
    (hdom : ∀ d, 1 ≤ (t.domain d).policy.leaseLimit ∧ (t.domain d).policy.leaseLimit ≤ 15) : t.IdleLaw :=
  ⟨hdom, fun i b hb => hs.idle i b (by rw [← hslot, hb])⟩

theorem State.idleLaw_kept : State.Kept fun s => s.StoreLaw ∧ s.IdleLaw := by
  refine .of_keeps State.reset_idleLaw (fun h hs => ?_) (fun hf h hs => h.idle hf hs) fun h hs => ?_
  · exact hs.congr (fun i => by rw [State.slot, h.directory, State.slot]) fun d => by
      rw [State.domain, h.domains]
      exact hs.limits d
  · cases h with
    | policy d pol _ h1 h2 =>
      refine hs.congr (fun _ => rfl) fun e => ?_
      rw [State.domain_modifyDomain]
      split
      · exact ⟨h1, h2⟩
      · exact hs.limits e
    | seed | quota => exact hs.congr (fun _ => rfl) hs.limits

/-- Settles O10: only a SWEEP raises idle, of a LEASED binding and below the lease limit. -/
theorem stepKeepsIdleLaw : Obligations.StepKeepsIdleLaw := by
  unfold Obligations.StepKeepsIdleLaw
  exact fun s t hs hi h => (State.idleLaw_kept.step ⟨hs, hi⟩ h).2

/-! ### Bounds -/

theorem State.KeepsBounds.boundsLaw (h : s.KeepsBounds t) (hs : s.BoundsLaw) : t.BoundsLaw := by
  refine ⟨fun p => ?_, fun d => ?_⟩
  · rw [h.settings]
    exact (h.owned p).elim (fun ho => ho.trans (hs.quota p)) id
  · rw [h.policy]
    exact (h.count d).elim (fun hc => hc.trans (hs.cap d)) id

theorem startupSlot_bounds (n : Nat) (f : List Nat) (i : Nat) (s : State) : s.KeepsBounds (startupSlot n f i s) := by
  have hr : s.KeepsBounds (s.reachBucket n) := ⟨fun _ => .inl le_rfl, fun _ => .inl le_rfl, rfl, fun _ => rfl⟩
  unfold startupSlot
  split
  · exact hr.trans (retestSlot_bounds f i _ _)
  · exact hr.trans (retestSlot_bounds f i _ _)
  all_goals exact (State.Keeps.refl s).toKeepsBounds

theorem State.actBucket_bounds {v : View} {j : Job} {c : Instr} {u : Option Nat} {f : Nat → State → State}
    (h : BucketAct v j c u f) (s : State) : s.KeepsBounds (s.actBucket j f) := by
  have slot : ∀ (i : Nat) (w : State), w.KeepsBounds (f i w) := fun i w => by
    cases h with
    | sweep => exact (sweepSlot_keeps _ i w).toKeepsBounds
    | purge => exact (purgeSlot_keeps _ _ i w).toKeepsBounds
    | rewrite => exact (rewriteSlot_keeps _ i w).toKeepsBounds
    | orphan => exact (orphanSlot_keeps _ _ _ i w).toKeepsBounds
    | startup => exact startupSlot_bounds _ _ i w
  have all : ∀ (l : List Nat) (w : State), w.KeepsBounds (w.overSlots f l) := fun l => by
    induction l with
    | nil => exact fun w => (State.Keeps.refl w).toKeepsBounds
    | cons i rest ih => exact fun w => (slot i w).trans (ih (f i w))
  refine (all (bucketSlots j.cursor) s).trans (State.Keeps.of_same ?_ ?_ ?_ ?_).toKeepsBounds <;> simp [State.actBucket]

theorem State.boundsLaw_kept : State.Kept State.BoundsLaw := by
  refine .of_store State.reset_boundsLaw (fun hs h => ⟨fun p => ?_, fun d => ?_⟩) ?_
    (fun hs _ h => (State.actBucket_bounds h _).boundsLaw hs) fun v x f hs => (resolveExpiry_keeps v x f _).toKeepsBounds.boundsLaw hs
  · rw [State.owned, h.directory, h.quota]
    exact hs.quota p
  · rw [State.domain, h.domains]
    exact hs.cap d
  · intro s p v rq c u act hs hr h
    rcases h.store hr s with hi | hi
    · exact hi.toKeepsBounds.boundsLaw hs
    · generalize (act s).state = t at hi
      cases hi with
      | policy d pol hc =>
        refine ⟨hs.quota, fun e => ?_⟩
        rw [State.domain_modifyDomain]
        split
        · exact hc
        · exact hs.cap e
      | seed => exact ⟨hs.quota, hs.cap⟩
      | quota q x hq =>
        refine ⟨fun r => ?_, hs.cap⟩
        have : (s.withSettings { s.settings with quota := s.settings.quota.set q x }).settings.quota.get r
            = if r = q then x else s.settings.quota.get r := PerPort.get_set _ _ _ _
        rw [this]
        split
        next h => subst h; exact hq
        · exact hs.quota r

/-- Settles O9: a count rises by one only past a check of its bound (R38, R74), and a bound falls no lower than its count. -/
theorem stepKeepsBoundsLaw : Obligations.StepKeepsBoundsLaw := by
  unfold Obligations.StepKeepsBoundsLaw
  exact fun s t hs h => State.boundsLaw_kept.step hs h

/-! ### The table of slot states (R3) -/

theorem State.advance_slot (s : State) (n : Option Nat) (i : Nat) : (s.advance n).slot i = s.slot i := by
  rw [State.slot, (s.advance_sameStore n).directory, State.slot]

theorem Slot.MayBecome.refl (x : Slot) : x.MayBecome x := (Slot.MayTurn.refl x).mayBecome

/-- Settles O15: a grant turns slots as its operation does, and nothing else writes a slot. -/
theorem slotsChangeOnlyByTheTable : Obligations.SlotsChangeOnlyByTheTable := by
  unfold Obligations.SlotsChangeOnlyByTheTable
  intro c s t hs hc h i
  have same : t.directory = s.directory → (s.slot i).MayBecome (t.slot i) := fun hd => by
    rw [State.slot, State.slot, hd]
    exact .refl _
  have acted : ∀ {w : State} {n : Option Nat}, (∀ j, (s.slot j).MayBecome (w.slot j)) →
      (s.slot i).MayBecome ((w.advance n).slot i) := fun {w n} hw => by
    rw [State.advance_slot]
    exact hw i
  cases exec_effect h with
  | resetN => exact absurd rfl hc
  | direct _ _ p rq act hrq ha => exact same (ha.answer_frame.1 .directory (by simp))
  | granted _ _ p rq g u act hg hcl hrq ha =>
    refine acted fun j => ?_
    split
    · exact .refl _
    · unfold State.actRequest
      dsimp only
      rcases checkedReply_cases g.view p rq act s with ⟨st, he⟩ | ⟨hcc, he⟩ <;> rw [he]
      · exact .refl _
      · rcases ha.store (commonCheck_inRange hcc) s with hi | hi
        · exact hi.becomes hs.form j
        · have hd : ((act s).state.acted (.response (act s).status (act s).result)).slot j = s.slot j := by
            rw [State.slot, State.slot, ← hi.directory]
            simp
          rw [hd]
          exact .refl _
  | bucket _ _ g j rest u f hg hcl hq ha =>
    refine acted fun k => ?_
    split
    · exact .refl _
    · exact ((State.actBucket_keeps ha (hs.cursors j (by rw [hq]; exact List.mem_cons_self)) s).turns hs.form k).mayBecome
  | resolution x _ g y rest hg hcl =>
    exact acted fun j => ((resolveExpiry_keeps g.view y x.failing s).turns hs.form j).mayBecome
  | nothing | abortWaits | resolutionGoesOn | resetNRelease | millitick | pacingWindowStart | linkUp | linkLost
  | frameArrival | requestTake | responseTransmit | noticeTransmit | frameTransmitEnd | keepaliveTimerExpiry
  | refillTimerExpiry | transferTimerExpiry | leaseTimerExpiry | sweepTimerExpiry =>
    refine same ?_
    simp [State.addAbort, State.linkComesUp, State.takeRequest, State.sendNotice, State.frameSent]

end

end Sys2Proof.Machine
end

section
/-! SUPPORT. The slots of a bucket one after another (R95): what a job does to each slot, and what the whole bucket then
comes to. -/

namespace Sys2Proof.Machine

/-! ### Reports -/

/-- The grant in progress gains these reports. -/
def State.Appends (s t : State) (l : List Report) : Prop :=
  t.grant = s.grant.map (fun g => { g with reports := g.reports ++ l })

section
variable {s t u : State} {l m : List Report}

theorem State.Appends.of_eq (h : t.grant = s.grant) : s.Appends t [] := by
  rw [State.Appends, h]
  cases s.grant <;> simp

theorem State.Appends.trans (h : s.Appends t l) (k : t.Appends u m) : s.Appends u (l ++ m) := by
  rw [State.Appends] at h k ⊢
  rw [k, h]
  cases s.grant <;> simp

theorem State.Appends.then (h : s.Appends t l) (k : u.grant = t.grant) : s.Appends u l := by
  rw [State.Appends, k]
  exact h

theorem State.Appends.report (h : s.Appends t l) (r : Report) : s.Appends (t.report r) (l ++ [r]) :=
  h.trans (show t.Appends (t.report r) [r] from rfl)

/-- How often a device counter is counted in a list of reports. -/
def countsOf (n : DeviceCounter) (l : List Report) : Nat := l.count (.count (.device n))

theorem countsOf_append (n : DeviceCounter) (l m : List Report) : countsOf n (l ++ m) = countsOf n l + countsOf n m :=
  List.count_append

theorem State.endTransfer_appends (s : State) (x : TransferIndex) (e : Transfer) (o : TransferOutcome) (b : Binding) :
    s.Appends (s.endTransfer x e o b.domain b.key) (transferReports x e o b) := by
  cases hg : s.grant with
  | some g => simp [State.Appends, State.endTransfer_grant hg, hg]
  | none => simp [State.Appends, State.endTransfer, hg]

/-- The ending of the transfer of a binding reports its two notices and its count, and counts nothing else (R8, R73). -/
theorem State.endTransferOf_appends (s : State) (b : Binding) :
    ∃ l, s.Appends (s.endTransferOf b .removed) l ∧ ∀ n, n ≠ .transfersEnded → countsOf n l = 0 := by
  unfold State.endTransferOf
  cases hb : b.tenure with
  | transfer g x =>
    cases he : s.entry x with
    | some e =>
      refine ⟨transferReports x e .removed b, ?_, fun n hn => ?_⟩
      · simp only [he]
        exact s.endTransfer_appends x e .removed b
      · simp [countsOf, transferReports, TransferOutcome.counter, hn.symm]
    | none => exact ⟨[], .of_eq (by simp [he]), fun n _ => rfl⟩
  | bound | orphaned => exact ⟨[], .of_eq rfl, fun n _ => rfl⟩

/-! ### The head job's counts -/

theorem State.modifyCounts_headCounts (h : s.maintenance.queue ≠ []) (f : JobCounts → JobCounts) :
    (s.modifyCounts f).maintenance.headCounts = f s.maintenance.headCounts := by
  obtain ⟨j, rest, hq⟩ := List.exists_cons_of_ne_nil h
  rw [State.modifyCounts_maintenance hq, Maintenance.headCounts, Maintenance.headCounts, hq]

theorem State.modifyCounts_queue (h : s.maintenance.queue ≠ []) (f : JobCounts → JobCounts) :
    (s.modifyCounts f).maintenance.queue ≠ [] := by
  obtain ⟨j, rest, hq⟩ := List.exists_cons_of_ne_nil h
  rw [State.modifyCounts_maintenance hq]
  exact List.cons_ne_nil _ _

end

/-! ### What a job does to a slot -/

/-- What becomes of a slot in a bucket's grant: the slot after, the binding it loses, what the job counts, what is told,
the device counter that counts it, and whether the slot is newly DEFECTIVE, or no longer. -/
structure SlotChange where
  after : Slot
  lost : Option Binding
  examined : Bool
  expired : Bool
  removed : Bool
  tells : List Report
  counted : Option DeviceCounter
  fails : Bool
  mends : Bool

/-- A slot that is left as it is. -/
def SlotChange.still (x : Slot) : SlotChange := ⟨x, none, false, false, false, [], none, false, false⟩

/-- The entry that a lost binding's transfer frees. -/
def SlotChange.frees (c : SlotChange) : Option TransferIndex := c.lost.bind fun b => b.tenure.transfer?.map Prod.snd

/-- One slot of a bucket has been processed. -/
structure State.Changed (u v : State) (i : Nat) (c : SlotChange) : Prop where
  slot : v.slot i = c.after
  others : u.OtherSlots v i
  policy : ∀ d, (v.domain d).policy = (u.domain d).policy
  owned : ∀ q, v.owned q = u.owned q - if c.lost.any (fun b => decide (b.tenure.owner = some q)) then 1 else 0
  count : ∀ d, (v.domain d).count = (u.domain d).count - if c.lost.any (fun b => decide (b.domain = d)) then 1 else 0
  entry : ∀ w, v.entry w = if c.frees = some w then none else u.entry w
  defective : v.directory.defectiveCount
    = u.directory.defectiveCount - (if c.mends then 1 else 0) + if c.fails then 1 else 0
  queue : v.maintenance.queue ≠ []
  examined : v.maintenance.headCounts = { u.maintenance.headCounts with
    examined := u.maintenance.headCounts.examined + if c.examined then 1 else 0
    expired := u.maintenance.headCounts.expired + if c.expired then 1 else 0
    removed := u.maintenance.headCounts.removed + if c.removed then 1 else 0 }
  reports : ∃ l, u.Appends v l ∧ (∀ r ∈ c.tells, r ∈ l)
    ∧ ∀ n, n ≠ .transfersEnded → countsOf n l = if c.counted = some n then 1 else 0

/-- Several slots have been processed, each with its change. -/
structure State.Processed (u v : State) (l : List Nat) (c : Nat → SlotChange) : Prop where
  slots : ∀ i ∈ l, v.slot i = (c i).after
  others : ∀ i ∉ l, v.slot i = u.slot i
  policy : ∀ d, (v.domain d).policy = (u.domain d).policy
  owned : ∀ q, v.owned q = u.owned q - l.countP (fun i => (c i).lost.any fun b => decide (b.tenure.owner = some q))
  count : ∀ d, (v.domain d).count = (u.domain d).count - l.countP (fun i => (c i).lost.any fun b => decide (b.domain = d))
  freed : ∀ i ∈ l, ∀ w, (c i).frees = some w → v.entry w = none
  kept : ∀ w, (∀ i ∈ l, (c i).frees ≠ some w) → v.entry w = u.entry w
  mended : (∀ i ∈ l, (c i).fails = false) →
    v.directory.defectiveCount = u.directory.defectiveCount - l.countP (fun i => (c i).mends)
  failed : (∀ i ∈ l, (c i).mends = false) →
    v.directory.defectiveCount = u.directory.defectiveCount + l.countP (fun i => (c i).fails)
  examined : v.maintenance.headCounts = { u.maintenance.headCounts with
    examined := u.maintenance.headCounts.examined + l.countP (fun i => (c i).examined)
    expired := u.maintenance.headCounts.expired + l.countP (fun i => (c i).expired)
    removed := u.maintenance.headCounts.removed + l.countP (fun i => (c i).removed) }
  reports : ∃ m, u.Appends v m ∧ (∀ i ∈ l, ∀ r ∈ (c i).tells, r ∈ m)
    ∧ ∀ n, n ≠ .transfersEnded → countsOf n m = l.countP (fun i => decide ((c i).counted = some n))

theorem State.Processed.nil (u : State) (c : Nat → SlotChange) : u.Processed u [] c :=
  ⟨by simp, by simp, fun _ => rfl, fun _ => rfl, fun _ => rfl, by simp, fun _ _ => rfl, fun _ => rfl, fun _ => rfl, rfl,
    [], .of_eq rfl, by simp, fun _ _ => rfl⟩

theorem State.Changed.processed {u v w : State} {i : Nat} {l : List Nat} {c : Nat → SlotChange} (h : u.Changed v i (c i))
    (k : v.Processed w l c) (hi : i ∉ l) : u.Processed w (i :: l) c where
  slots j hj := by
    rcases List.mem_cons.1 hj with rfl | hj
    · rw [k.others j hi, h.slot]
    · exact k.slots j hj
  others j hj := by
    rw [List.mem_cons, not_or] at hj
    rw [k.others j hj.2, h.others j hj.1]
  policy d := (k.policy d).trans (h.policy d)
  owned q := by
    rw [k.owned, h.owned, List.countP_cons]
    omega
  count d := by
    rw [k.count, h.count, List.countP_cons]
    omega
  freed j hj x hx := by
    by_cases hfree : ∃ j' ∈ l, (c j').frees = some x
    · obtain ⟨j', hj', hx'⟩ := hfree
      exact k.freed j' hj' x hx'
    · rw [k.kept x fun j' hj' hx' => hfree ⟨j', hj', hx'⟩]
      rcases List.mem_cons.1 hj with rfl | hj
      · rw [h.entry, if_pos hx]
      · exact absurd ⟨j, hj, hx⟩ hfree
  kept x hx := by
    rw [k.kept x fun j hj => hx j (List.mem_cons_of_mem _ hj), h.entry, if_neg (hx i List.mem_cons_self)]
  mended hf := by
    have hfi : (c i).fails = false := hf i List.mem_cons_self
    rw [k.mended fun j hj => hf j (List.mem_cons_of_mem _ hj), h.defective, List.countP_cons, hfi]
    simp only [Bool.false_eq_true, if_false]
    omega
  failed hm := by
    have hmi : (c i).mends = false := hm i List.mem_cons_self
    rw [k.failed fun j hj => hm j (List.mem_cons_of_mem _ hj), h.defective, List.countP_cons, hmi]
    simp only [Bool.false_eq_true, if_false]
    omega
  examined := by
    rw [k.examined, h.examined]
    simp only [List.countP_cons, JobCounts.mk.injEq, and_true]
    omega
  reports := by
    obtain ⟨m1, ha1, ht1, hc1⟩ := h.reports
    obtain ⟨m2, ha2, ht2, hc2⟩ := k.reports
    refine ⟨m1 ++ m2, ha1.trans ha2, fun j hj r hr => ?_, fun n hn => ?_⟩
    · rcases List.mem_cons.1 hj with rfl | hj
      · exact List.mem_append_left _ (ht1 r hr)
      · exact List.mem_append_right _ (ht2 j hj r hr)
    · rw [countsOf_append, hc1 n hn, hc2 n hn, List.countP_cons]
      simp only [decide_eq_true_eq]
      omega

/-- A bucket in which every slot changes as its own content and the policies say, and keeps the form that this needs. -/
theorem State.overSlots_processed {f : Nat → State → State} {c : Nat → SlotChange} {l : List Nat} {s : State} (I : State → Prop)
    (hs : I s) (hq : s.maintenance.queue ≠ []) (hl : l.Nodup)
    (h : ∀ i ∈ l, ∀ u : State, I u → u.maintenance.queue ≠ [] → u.slot i = s.slot i →
      (∀ d, (u.domain d).policy = (s.domain d).policy) → u.Changed (f i u) i (c i) ∧ I (f i u)) :
    s.Processed (s.overSlots f l) l c := by
  have all : ∀ (l : List Nat) (u : State), l.Nodup → I u → u.maintenance.queue ≠ [] →
      (∀ i ∈ l, u.slot i = s.slot i) → (∀ d, (u.domain d).policy = (s.domain d).policy) →
      (∀ i ∈ l, ∀ u : State, I u → u.maintenance.queue ≠ [] → u.slot i = s.slot i →
        (∀ d, (u.domain d).policy = (s.domain d).policy) → u.Changed (f i u) i (c i) ∧ I (f i u)) →
      u.Processed (u.overSlots f l) l c := by
    intro l
    induction l with
    | nil => exact fun u _ _ _ _ _ _ => .nil u c
    | cons i rest ih =>
      intro u hn hw hq hslot hpol h
      obtain ⟨hi, hn⟩ := List.nodup_cons.1 hn
      obtain ⟨hc, hform⟩ := h i List.mem_cons_self u hw hq (hslot i List.mem_cons_self) hpol
      refine hc.processed (ih (f i u) hn hform hc.queue (fun j hj => ?_) (fun d => (hc.policy d).trans (hpol d))
        fun j hj => h j (List.mem_cons_of_mem _ hj)) hi
      rw [hc.others j (fun hji => hi (hji ▸ hj)), hslot j (List.mem_cons_of_mem _ hj)]
  exact all l s hl hs hq (fun _ _ => rfl) (fun _ => rfl) h

theorem bucketSlots_nodup (n : Nat) : (bucketSlots n).Nodup :=
  (bucketSlots_rising n).imp fun h => Nat.ne_of_lt h

theorem State.Changed.still {u : State} (hq : u.maintenance.queue ≠ []) (i : Nat) :
    u.Changed u i (.still (u.slot i)) :=
  ⟨rfl, fun _ _ => rfl, fun _ => rfl, fun _ => rfl, fun _ => rfl, fun _ => rfl, rfl, hq, rfl, [], .of_eq rfl, by
    simp [SlotChange.still], fun _ _ => rfl⟩

/-! ### A bucket's grant, processed and ended -/

/-- What a bucket's grant leaves as it was: everything but the store, the engine, the drained port, READY, and the units that
its reports go to. -/
theorem BucketAct.changes {s t : State} {v : View} {j : Job} {rest : List Job} {c : Instr} {f : Nat → State → State}
    (hg : s.grant = some (.fresh .maintenance v)) (hq : s.maintenance.queue = j :: rest) (h : BucketAct v j c none f)
    (ht : exec c s = .next t) : s.ChangesOnly t
      [.ready, .directory, .arbiter, .domains, .transfers, .maintenance, .ports, .notices, .portCounters, .deviceCounters] := by
  rw [BucketAct.exec_eq hg hq h] at ht
  cases ht
  have hw := State.actBucket_acted hg hq h.actsInBucket
  have hfr := s.overSlots_actsInBucket h.actsInBucket (bucketSlots j.cursor)
  intro x hx
  have hx' := hfr.frame x
  cases x <;> simp [State.Same, State.actBucket] at hx hx' ⊢ <;> exact hx'

/-- The end of a bucket for which no ABORT_JOB waits: the queues go on, and no count but SWEEP_PASSES moves (R95, R98). -/
theorem State.endBucket_after {w : State} {j : Job} {rest : List Job} (hq : w.maintenance.queue = j :: rest)
    (ha : w.maintenance.abortWaiting = []) (hoff : ∀ p c, j.work = .orphan p c → (w.port p).session ≠ .online) :
    w.Onward w.endBucket ∧ ∀ n, n ≠ .sweepPasses → w.endBucket.counter (.device n) = w.counter (.device n) := by
  by_cases hlast : 2048 ≤ j.cursor + 1
  · have haw : (w.finishHead .done).maintenance.abortWaiting = [] := by
      rw [State.finishHead_maintenance hq]
      exact ha
    rw [State.endBucket_last hq hlast, State.refuseAborts_nobody haw]
    refine ⟨(State.finishHead_onward hq (State.drainsOffline_of hoff)).trans (.of_eq rfl rfl), fun n hn => ?_⟩
    change (w.finishHead .done).counter (.device n) = _
    rw [State.finishHead_counter hq _ (by simp), if_neg (by simp [hn])]
  · have hm := State.modifyHeadJob_maintenance hq (fun h => { h with cursor := h.cursor + 1 })
    have haw : (w.modifyHeadJob (fun h => { h with cursor := h.cursor + 1 })).maintenance.abortWaiting = [] := by
      rw [hm]
      exact ha
    rw [State.endBucket_more hq (by omega), State.stopIfAborted_nobody haw]
    exact ⟨.of_eq (by simp) (by simp), fun n _ => State.modifyHeadJob_counter _ _ _⟩

/-- A bucket's grant, from what its slots come to and report, to its end (R15, R95, R98). -/
theorem State.InBucket.after {s : State} {v : View} {j : Job} {rest : List Job} {c : Instr} {f : Nat → State → State}
    {m : List Report} (hin : s.InBucket v j rest) (h : BucketAct v j c none f)
    (hm : s.Appends (s.overSlots f (bucketSlots j.cursor)) m) (hpass : countsOf .sweepPasses m = 0)
    (hoff : ∀ p c, j.work = .orphan p c → (s.port p).session ≠ .online) :
    ∃ t, exec c s = .next t
      ∧ t.directory = (s.overSlots f (bucketSlots j.cursor)).directory
      ∧ t.domains = (s.overSlots f (bucketSlots j.cursor)).domains
      ∧ t.transfers = (s.overSlots f (bucketSlots j.cursor)).transfers
      ∧ s.BucketEnds t j rest (s.overSlots f (bucketSlots j.cursor)).maintenance.headCounts
      ∧ (∀ n, n ≠ .sweepPasses → t.counter (.device n) = s.counter (.device n) + BitVec.ofNat 32 (countsOf n m))
      ∧ (∀ a n q, .notice a n ∈ m → ((s.port q).session = .online → s.receives a q = true) → s.Queues t q n)
      ∧ s.ChangesOnly t
          [.ready, .directory, .arbiter, .domains, .transfers, .maintenance, .ports, .notices, .portCounters, .deviceCounters] := by
  obtain ⟨u, l, hgr, hdone, hdel, hexec⟩ := h.runs hin.grant hin.queue rfl
  have hml : m = l := by
    rw [State.Appends, hin.grant, hgr] at hm
    simpa [Grant.fresh, eq_comm] using hm
  subst hml
  have hpass' : u.counter (.device .sweepPasses) = s.counter (.device .sweepPasses) := by
    rw [hdel.counter _ (by simp), show m.count (.count (.device .sweepPasses)) = 0 from hpass]
    simp
  generalize (s.overSlots f (bucketSlots j.cursor)).maintenance.headCounts = k at hexec ⊢
  have hends := hdone.ends hin.queue hin.aborts hoff hpass' k
  have hch := h.changes hin.grant hin.queue hexec
  have hwq : (u.modifyCounts (fun _ => k)).maintenance.queue = { j with counts := k } :: rest := by
    rw [State.modifyCounts_maintenance (hdone.maintenance.symm ▸ hin.queue)]
  have hwa : (u.modifyCounts (fun _ => k)).maintenance.abortWaiting = [] := by
    rw [State.modifyCounts_maintenance (hdone.maintenance.symm ▸ hin.queue), hdone.maintenance]
    exact hin.aborts
  have hwp : ∀ p, (u.modifyCounts (fun _ => k)).port p = s.port p := fun p => by
    rw [State.port, show (u.modifyCounts (fun _ => k)).ports = s.ports from by simpa using hdone.ports, State.port]
  obtain ⟨hon, hcount⟩ := State.endBucket_after hwq hwa fun p c hw => by
    rw [hwp]
    exact hoff p c hw
  refine ⟨_, hexec, ?_, ?_, ?_, hends, fun n hn => ?_, fun a n q hn hr => ?_, hch⟩
  · simpa using hdel.directory
  · simpa using hdel.domains
  · simpa using hdel.transfers
  · rw [State.endGrant_counter, hcount n hn]
    exact (State.modifyHeadJob_counter _ _ _).trans (hdel.counter _ (by simp))
  · exact ((hdel.hands a n q hn hr).after (((u.modifyCounts_onward _).trans hon).trans (State.endGrant_onward _))).queues

/-- A bucket whose slots have been processed, to the end of its grant (R15, R95, R98). -/
theorem State.InBucket.ends {s : State} {v : View} {j : Job} {rest : List Job} {c : Instr} {f : Nat → State → State}
    {d : Nat → SlotChange} (hin : s.InBucket v j rest) (h : BucketAct v j c none f)
    (hp : s.Processed (s.overSlots f (bucketSlots j.cursor)) (bucketSlots j.cursor) d)
    (hoff : ∀ p c, j.work = .orphan p c → (s.port p).session ≠ .online)
    (hpass : ∀ i ∈ bucketSlots j.cursor, (d i).counted ≠ some .sweepPasses) :
    ∃ t, exec c s = .next t
      ∧ t.directory = (s.overSlots f (bucketSlots j.cursor)).directory
      ∧ t.domains = (s.overSlots f (bucketSlots j.cursor)).domains
      ∧ t.transfers = (s.overSlots f (bucketSlots j.cursor)).transfers
      ∧ s.BucketEnds t j rest { j.counts with
          examined := j.counts.examined + (bucketSlots j.cursor).countP (fun i => (d i).examined)
          expired := j.counts.expired + (bucketSlots j.cursor).countP (fun i => (d i).expired)
          removed := j.counts.removed + (bucketSlots j.cursor).countP (fun i => (d i).removed) }
      ∧ (∀ n, n ≠ .transfersEnded → n ≠ .sweepPasses → t.counter (.device n) = s.counter (.device n)
          + BitVec.ofNat 32 ((bucketSlots j.cursor).countP (fun i => decide ((d i).counted = some n))))
      ∧ (∀ i ∈ bucketSlots j.cursor, ∀ a n q, .notice a n ∈ (d i).tells →
          ((s.port q).session = .online → s.receives a q = true) → s.Queues t q n)
      ∧ s.ChangesOnly t
          [.ready, .directory, .arbiter, .domains, .transfers, .maintenance, .ports, .notices, .portCounters, .deviceCounters] := by
  obtain ⟨m, hm, htells, hcounts⟩ := hp.reports
  have hnone : countsOf .sweepPasses m = 0 := by
    refine (hcounts .sweepPasses (by simp)).trans (List.countP_eq_zero.2 fun i hi => ?_)
    simpa using hpass i hi
  obtain ⟨t, hexec, hdir, hdom, htr, hends, hcnt, hq, hch⟩ := hin.after h hm hnone hoff
  have hj : s.maintenance.headCounts = j.counts := by rw [Maintenance.headCounts, hin.queue]
  rw [hp.examined, hj] at hends
  exact ⟨t, hexec, hdir, hdom, htr, hends, fun n hn hn' => by rw [hcnt n hn', hcounts n hn],
    fun i hi a n q hn => hq a n q (htells i hi _ hn), hch⟩

end Sys2Proof.Machine
end

section
/-! SUPPORT. A SWEEP and a PURGE at a bucket (R101 to R103, R108). -/

namespace Sys2Proof.Machine

/-! ### The change of one slot -/

section
variable {u v : State} {i : Nat} {b c : Binding} {ex exp rem : Bool} {tells : List Report} {counted : Option DeviceCounter}

/-- A slot whose binding is removed changes so, with its counts and its entry (R8). -/
theorem State.Changed.removal (hu : u.directory.wf = true) (hi : u.slot i = .occupied b)
    (hd : v.directory = (u.removeBinding i b).directory) (hdom : v.domains = (u.removeBinding i b).domains)
    (hset : v.settings = u.settings)
    (he : ∀ w, v.entry w = if b.tenure.transfer?.map Prod.snd = some w then none else u.entry w)
    (hq : v.maintenance.queue ≠ [])
    (hex : v.maintenance.headCounts = { u.maintenance.headCounts with
      examined := u.maintenance.headCounts.examined + if ex then 1 else 0
      expired := u.maintenance.headCounts.expired + if exp then 1 else 0
      removed := u.maintenance.headCounts.removed + if rem then 1 else 0 })
    (hr : ∃ l, u.Appends v l ∧ (∀ r ∈ tells, r ∈ l)
      ∧ ∀ n, n ≠ .transfersEnded → countsOf n l = if counted = some n then 1 else 0) :
    u.Changed v i ⟨.free, some b, ex, exp, rem, tells, counted, false, false⟩ where
  slot := by
    rw [State.slot, hd]
    exact State.removeBinding_slot_same hu hi b
  others j hj := by
    rw [State.slot, hd]
    exact u.removeBinding_slot_other hj b
  policy := (State.removeBinding_keeps hi hd hdom hset he).policy
  owned q := by
    rw [State.owned, hd]
    refine ((u.writeSlot i .free).countRemoval_owned b q).trans ?_
    simp only [Option.any_some, decide_eq_true_eq, State.writeSlot_owned]
    split <;> rfl
  count d := by
    rw [State.domain, hdom]
    refine (congrArg Domain.count ((u.writeSlot i .free).countRemoval_domain b d)).trans ?_
    simp only [Option.any_some, decide_eq_true_eq]
    by_cases h : d = b.domain
    · subst h
      rw [if_pos rfl, if_pos rfl]
      rfl
    · rw [if_neg h, if_neg (Ne.symm h)]
      rfl
  entry := he
  defective := by
    rw [hd]
    refine Eq.trans ?_ (by simp : u.directory.defectiveCount = _)
    simp [State.removeBinding, State.countRemoval]
    cases b.tenure.owner <;> rfl
  queue := hq
  examined := hex
  reports := hr

/-- A slot whose binding is rewritten in place changes so. -/
theorem State.Changed.put (hu : u.directory.wf = true)
    (hd : v.directory = (u.putBinding i c).directory) (hdom : v.domains = u.domains) (htr : v.transfers = u.transfers)
    (hq : v.maintenance.queue ≠ [])
    (hex : v.maintenance.headCounts = { u.maintenance.headCounts with
      examined := u.maintenance.headCounts.examined + if ex then 1 else 0 })
    (hr : v.grant = u.grant) :
    u.Changed v i ⟨.occupied c, none, ex, false, false, [], none, false, false⟩ where
  slot := by
    rw [State.slot, hd]
    exact Directory.read_write_listed hu i rfl
  others j hj := by
    rw [State.slot, hd]
    exact u.writeSlot_slot_other hj _
  policy d := by rw [State.domain, hdom, State.domain]
  owned q := by
    rw [State.owned, hd]
    rfl
  count d := by
    rw [State.domain, hdom]
    rfl
  entry w := by
    rw [State.entry, htr]
    rfl
  defective := by
    rw [hd]
    rfl
  queue := hq
  examined := hex
  reports := ⟨[], .of_eq hr, by simp, fun _ _ => rfl⟩

end

/-- A slot that is not OCCUPIED holds nothing to read, and one that is and passes is treated (R101, R108, R144). -/
theorem State.readBinding_passes {s : State} {f : List Nat} {i : Nat} {g : Binding → State → State} {b : Binding}
    (hi : s.slot i = .occupied b) (hf : i ∉ f) : s.readBinding f i g = g b s := by
  simp [State.readBinding, hi, hf]

theorem State.readBinding_empty {s : State} {f : List Nat} {i : Nat} {g : Binding → State → State}
    (h : ∀ b, s.slot i ≠ .occupied b) : s.readBinding f i g = s := by
  unfold State.readBinding
  split
  next b hb => exact absurd hb (h b)
  all_goals rfl

@[simp] theorem State.examine_grant (s : State) : s.examine.grant = s.grant := by simp [State.examine]

@[simp] theorem State.examine_domain (s : State) (d : DomainId) : s.examine.domain d = s.domain d := by
  simp [State.domain, State.examine]

@[simp] theorem State.examine_entry (s : State) (w : TransferIndex) : s.examine.entry w = s.entry w := by
  simp [State.entry, State.examine]

theorem State.examine_counts {s : State} (h : s.maintenance.queue ≠ []) : s.examine.maintenance.queue ≠ []
    ∧ s.examine.maintenance.headCounts
      = { s.maintenance.headCounts with examined := s.maintenance.headCounts.examined + 1 } :=
  ⟨State.modifyCounts_queue h _, State.modifyCounts_headCounts h _⟩

/-- A binding that the job examines, and what then becomes of it (R101, R108, R144). -/
theorem State.Changed.examine {u v : State} {i : Nat} {c : SlotChange} (h : u.examine.Changed v i c)
    (hq : u.maintenance.queue ≠ []) (hc : c.examined = false) : u.Changed v i { c with examined := true } where
  slot := h.slot
  others j hj := (h.others j hj).trans (u.examine_slot j)
  policy d := (h.policy d).trans (by rw [State.examine_domain])
  owned q := (h.owned q).trans (by simp [State.examine, State.owned])
  count d := (h.count d).trans (by rw [State.examine_domain])
  entry w := (h.entry w).trans (by rw [State.examine_entry]; rfl)
  defective := h.defective.trans (by simp [State.examine])
  queue := h.queue
  examined := by
    rw [h.examined, (State.examine_counts hq).2, hc]
    rfl
  reports := by
    obtain ⟨l, ha, htl⟩ := h.reports
    exact ⟨l, (State.Appends.of_eq u.examine_grant).trans ha, htl⟩

/-! ### SWEEP -/

/-- What a binding that expires is told of (R102). -/
def expiryTells (i : Nat) (b : Binding) : List Report :=
  (b.tenure.owner.map fun o => Report.notice (.directed o) (.expired b.domain b.key o b.handle i)).toList
    ++ [.notice (.subscribers .bindingGone) (.bindingGone .expired b.domain b.key b.tenure.owner b.handle i)]

/-- What a SWEEP makes of a binding (R101). -/
def sweepBindingChange (limit i : Nat) (b : Binding) : SlotChange :=
  match agedBinding limit b with
  | some c => ⟨.occupied c, none, decide (b.tenure.state ≠ .transfer), false, false, [], none, false, false⟩
  | none => ⟨.free, some b, true, true, false, expiryTells i b, some .expiries, false, false⟩

/-- Every binding that is not in TRANSFER is examined (R101). -/
theorem sweepBindingChange_examined {b : Binding} (hb : b.tenure.transfer? = none) (limit i : Nat) :
    (sweepBindingChange limit i b).examined = true := by
  unfold sweepBindingChange
  cases agedBinding limit b with
  | none => rfl
  | some c => cases ht : b.tenure <;> simp [ht, Tenure.state] at hb ⊢

/-- What a SWEEP makes of a slot. -/
def sweepChange (s : State) (i : Nat) : SlotChange :=
  match (s.slot i).binding? with
  | some b => sweepBindingChange (s.domain b.domain).policy.leaseLimit i b
  | none => .still (s.slot i)

theorem State.expireBinding_appends (s : State) (i : Nat) (b : Binding) :
    s.Appends (s.expireBinding i b) (.count (.device .expiries) :: expiryTells i b) := by
  have h : s.Appends (((s.removeBinding i b).modifyCounts (fun c => { c with expired := c.expired + 1 })).countInGrant
      (.device .expiries)) [.count (.device .expiries)] := (State.Appends.of_eq (by simp)).report _
  unfold State.expireBinding expiryTells
  cases b.tenure.owner with
  | some o => exact (h.report _).report _
  | none => exact h.report _

theorem countsOf_expiry (n : DeviceCounter) (i : Nat) (b : Binding) :
    countsOf n (.count (.device .expiries) :: expiryTells i b) = if some DeviceCounter.expiries = some n then 1 else 0 := by
  unfold countsOf expiryTells
  by_cases h : DeviceCounter.expiries = n <;> cases b.tenure.owner <;> simp [h]

theorem State.expireBinding_changed {u : State} {i : Nat} {b : Binding} (hu : u.directory.wf = true)
    (hq : u.maintenance.queue ≠ []) (hi : u.slot i = .occupied b) (hb : b.tenure.transfer? = none) :
    u.Changed (u.expireBinding i b) i
      ⟨.free, some b, false, true, false, expiryTells i b, some .expiries, false, false⟩ := by
  have hm : (u.expireBinding i b).maintenance
      = ((u.removeBinding i b).modifyCounts (fun c => { c with expired := c.expired + 1 })).maintenance := by
    unfold State.expireBinding
    cases b.tenure.owner <;> simp
  have hr : (u.removeBinding i b).maintenance = u.maintenance := by simp
  refine .removal hu hi ?_ ?_ ?_ (fun w => ?_) ?_ ?_ ⟨_, u.expireBinding_appends i b,
    fun r h => List.mem_cons_of_mem _ h, fun n _ => countsOf_expiry n i b⟩
  · unfold State.expireBinding
    cases b.tenure.owner <;> simp
  · unfold State.expireBinding
    cases b.tenure.owner <;> simp
  · unfold State.expireBinding
    cases b.tenure.owner <;> simp
  · unfold State.expireBinding
    cases b.tenure.owner <;> simp [hb, State.entry]
  · rw [hm]
    exact State.modifyCounts_queue (by rwa [hr]) _
  · rw [hm, State.modifyCounts_headCounts (by rwa [hr]), hr]
    rfl

/-- A binding that is not in TRANSFER ages, or expires (R101). -/
theorem State.ageBinding_changed {u : State} {i : Nat} {b : Binding} (hu : u.directory.wf = true)
    (hq : u.maintenance.queue ≠ []) (hi : u.slot i = .occupied b) (hb : b.tenure.transfer? = none) :
    u.Changed (u.ageBinding i b) i
      { sweepBindingChange (u.domain b.domain).policy.leaseLimit i b with examined := false } := by
  have put : ∀ c : Binding, u.Changed (u.putBinding i c) i ⟨.occupied c, none, false, false, false, [], none, false, false⟩ :=
    fun c => .put hu rfl rfl rfl (by simpa [State.putBinding] using hq) rfl rfl
  unfold State.ageBinding sweepBindingChange agedBinding
  cases ht : b.tenure with
  | transfer g x => simp [ht] at hb
  | bound | orphaned =>
    cases hc : b.cls with
    | pinned => exact put _
    | leased =>
      cases hm : b.touched with
      | true => exact put _
      | false =>
        simp only
        split
        · exact State.expireBinding_changed hu hq hi hb
        · exact put _

/-- A SWEEP at a slot that passes its check (R101). -/
theorem sweepSlot_changed {s u : State} {f : List Nat} {i : Nat} (hf : i ∉ f) (hu : u.directory.wf = true)
    (hq : u.maintenance.queue ≠ []) (hs : u.slot i = s.slot i) (hp : ∀ d, (u.domain d).policy = (s.domain d).policy) :
    u.Changed (sweepSlot f i u) i (sweepChange s i) := by
  unfold sweepSlot sweepChange
  rw [← hs]
  cases hi : u.slot i with
  | occupied b =>
    rw [State.readBinding_passes hi hf]
    simp only [Slot.binding?, ← hp]
    have treated (hb : b.tenure.transfer? = none) : u.Changed (u.examine.ageBinding i b) i
        (sweepBindingChange (u.domain b.domain).policy.leaseLimit i b) := by
      have h := State.ageBinding_changed (u := u.examine) (State.examine_keeps u |>.form hu) (State.examine_counts hq).1
        ((u.examine_slot i).trans hi) hb
      rw [State.examine_domain] at h
      have hx := h.examine hq rfl
      rwa [show (SlotChange.mk _ _ true _ _ _ _ _ _) = _ from
        congrArg (fun e => { sweepBindingChange (u.domain b.domain).policy.leaseLimit i b with examined := e })
          (sweepBindingChange_examined hb _ i).symm] at hx
    cases ht : b.tenure with
    | transfer g x =>
      have hstill := State.Changed.still hq i
      rw [hi] at hstill
      simpa [sweepBindingChange, agedBinding, ht, Tenure.state, SlotChange.still] using hstill
    | bound | orphaned => exact treated (by rw [ht]; rfl)
  | undefined | free | defective =>
    rw [State.readBinding_empty (by simp [hi])]
    simp only [Slot.binding?, ← hi]
    exact .still hq i

/-! ### What the whole bucket comes to -/

/-- A part that no slot changes is as it was. -/
theorem State.overSlots_unchanged {α : Type} (g : State → α) {f : Nat → State → State} {l : List Nat}
    (h : ∀ i ∈ l, ∀ u, g (f i u) = g u) (s : State) : g (s.overSlots f l) = g s := by
  induction l generalizing s with
  | nil => rfl
  | cons i rest ih =>
    exact (ih (fun j hj => h j (List.mem_cons_of_mem _ hj)) (f i s)).trans (h i List.mem_cons_self s)

theorem State.ChangesOnly.narrow {s t : State} {m n : List Part} (h : s.ChangesOnly t m)
    (k : ∀ x ∈ m, x ∉ n → s.Same t x) : s.ChangesOnly t n := fun x hx =>
  if hm : x ∈ m then k x hm hx else h x hm

theorem State.BucketEnds.ready_same {s t : State} {j : Job} {rest : List Job} {k : JobCounts} (h : s.BucketEnds t j rest k)
    (hw : j.work = .clear → j.id ≠ 0) : t.ready = s.ready := by
  by_cases hlast : 2048 ≤ j.cursor + 1
  · rw [(h.last hlast).2.2]
    by_cases hc : j.work = .clear <;> simp [hc, hw]
  · exact (h.more (by omega)).2

/-- A bucket's count of bindings, by what becomes of its slots. -/
theorem State.bucketCount_eq {s : State} {n : Nat} {f : Binding → Bool} {c : Nat → Bool}
    (h : ∀ i, c i = ((s.slot i).binding?).any f) : (bucketSlots n).countP c = s.bucketCount n f :=
  congrArg (List.countP · _) (funext h)

theorem State.InBucket.queue_ne {s : State} {v : View} {j : Job} {rest : List Job} (h : s.InBucket v j rest) :
    s.maintenance.queue ≠ [] := by
  rw [h.queue]
  exact List.cons_ne_nil _ _

section
variable {s : State} {i : Nat}

theorem sweepChange_occupied {b : Binding} (h : s.slot i = .occupied b) :
    sweepChange s i = sweepBindingChange (s.domain b.domain).policy.leaseLimit i b := by
  rw [sweepChange, h]
  rfl

theorem sweepChange_empty (h : ∀ b, s.slot i ≠ .occupied b) : sweepChange s i = .still (s.slot i) := by
  unfold sweepChange
  cases hi : s.slot i with
  | occupied b => exact absurd hi (h b)
  | undefined | free | defective => rfl

theorem sweepChange_examined (s : State) (i : Nat) :
    (sweepChange s i).examined = ((s.slot i).binding?).any (fun b => decide (b.tenure.state ≠ .transfer)) := by
  cases hi : s.slot i with
  | occupied b =>
    rw [sweepChange_occupied hi]
    unfold sweepBindingChange
    cases ha : agedBinding (s.domain b.domain).policy.leaseLimit b with
    | some c => rfl
    | none => cases hb : b.tenure <;> simp [agedBinding, hb, Slot.binding?, Tenure.state] at ha ⊢
  | undefined | free | defective =>
    rw [sweepChange_empty (by simp [hi])]
    rfl

/-- The bindings that a SWEEP removes are those that expire (R101). -/
theorem sweepChange_lost (s : State) (i : Nat) :
    (sweepChange s i).lost = (s.slot i).binding?.filter s.expires := by
  cases hi : s.slot i with
  | occupied b =>
    rw [sweepChange_occupied hi]
    unfold sweepBindingChange
    cases ha : agedBinding (s.domain b.domain).policy.leaseLimit b <;> simp [Slot.binding?, Option.filter, State.expires, ha]
  | undefined | free | defective =>
    rw [sweepChange_empty (by simp [hi])]
    rfl

/-- What a SWEEP removes is counted as expired, by the job and by EXPIRIES, and nothing else is (R102, R194). -/
theorem sweepChange_counts (s : State) (i : Nat) : (sweepChange s i).expired = (sweepChange s i).lost.isSome
    ∧ (sweepChange s i).counted = (sweepChange s i).lost.map (fun _ => .expiries)
    ∧ (sweepChange s i).removed = false := by
  cases hi : s.slot i with
  | occupied b =>
    rw [sweepChange_occupied hi]
    unfold sweepBindingChange
    cases agedBinding (s.domain b.domain).policy.leaseLimit b <;> exact ⟨rfl, rfl, rfl⟩
  | undefined | free | defective =>
    rw [sweepChange_empty (by simp [hi])]
    exact ⟨rfl, rfl, rfl⟩

end

theorem Option.any_filter_eq {α : Type} (o : Option α) (p q : α → Bool) :
    (o.filter p).any q = o.any (fun a => p a && q a) := by
  cases o with
  | none => rfl
  | some a => cases h : p a <;> simp [Option.filter, h]

theorem State.ageBinding_transfers (s : State) (i : Nat) (b : Binding) : (s.ageBinding i b).transfers = s.transfers := by
  unfold State.ageBinding
  split
  · rfl
  · rfl
  · split
    · simp
    · rfl

theorem sweepSlot_transfers {f : List Nat} {i : Nat} (hf : i ∉ f) (u : State) : (sweepSlot f i u).transfers = u.transfers := by
  unfold sweepSlot
  by_cases hi : ∃ b, u.slot i = .occupied b
  · obtain ⟨b, hi⟩ := hi
    rw [State.readBinding_passes hi hf]
    cases b.tenure with
    | transfer => rfl
    | bound | orphaned => exact (State.ageBinding_transfers _ i b).trans (by simp [State.examine])
  · rw [State.readBinding_empty fun b hb => hi ⟨b, hb⟩]

/-- Settles O56: each slot of the bucket changes as `sweepChange` says, the counts add up over the bucket, and the end of the
grant hands over what the slots report. -/
theorem sweepAgesABucket : Obligations.SweepAgesABucket := by
  unfold Obligations.SweepAgesABucket
  intro s v j rest failing hin hw hwf hfail
  have hp : s.Processed (s.overSlots (sweepSlot failing) (bucketSlots j.cursor)) (bucketSlots j.cursor) (sweepChange s) :=
    State.overSlots_processed (·.directory.wf = true) hwf hin.queue_ne (bucketSlots_nodup _) fun i hi u hu hq hs hpol =>
      ⟨sweepSlot_changed (hfail i hi) hu hq hs hpol, (sweepSlot_keeps failing i u).form hu⟩
  obtain ⟨t, hexec, hdir, hdom, htr, hends, hcounts, htells, hch⟩ := hin.ends (f := sweepSlot failing) (.sweep ⟨failing, none⟩ hw) hp
    (by simp [hw]) fun i _ => by
      rw [(sweepChange_counts s i).2.1]
      cases (sweepChange s i).lost <;> simp
  have hexp (i : Nat) : (sweepChange s i).expired = ((s.slot i).binding?).any s.expires := by
    rw [(sweepChange_counts s i).1, sweepChange_lost]
    cases (s.slot i).binding? with
    | none => rfl
    | some b => cases h : s.expires b <;> simp [Option.filter, h]
  have hrem : (bucketSlots j.cursor).countP (fun i => (sweepChange s i).removed) = 0 :=
    List.countP_eq_zero.2 fun i _ => by simp [(sweepChange_counts s i).2.2]
  have hcnt (i : Nat) : decide ((sweepChange s i).counted = some .expiries) = ((s.slot i).binding?).any s.expires := by
    rw [← hexp, (sweepChange_counts s i).1, (sweepChange_counts s i).2.1]
    cases (sweepChange s i).lost <;> rfl
  rw [State.bucketCount_eq (sweepChange_examined s), State.bucketCount_eq hexp, hrem] at hends
  refine ⟨t, _, _, hexec, rfl, rfl, fun i hi b hb => ?_, fun i hi => ?_, hends, fun i hi b hb he => ?_, fun q => ?_, fun d => ?_,
    ?_, hch.narrow fun x hx hn => ?_⟩
  · rw [State.slot, hdir]
    refine (hp.slots i hi).trans ?_
    rw [sweepChange_occupied hb, sweepBindingChange]
    cases agedBinding (s.domain b.domain).policy.leaseLimit b <;> rfl
  · rw [State.slot, hdir]
    by_cases hl : i ∈ bucketSlots j.cursor
    · refine (hp.slots i hl).trans ?_
      rw [sweepChange_empty (hi.resolve_right fun h => h hl)]
      rfl
    · exact hp.others i hl
  · have htold : (sweepChange s i).tells = expiryTells i b := by
      rw [sweepChange_occupied hb, sweepBindingChange, Option.isNone_iff_eq_none.1 he]
    refine ⟨fun o ho => htells i hi (.directed o) _ o ?_ State.receives_directed,
      fun q hq => htells i hi (.subscribers .bindingGone) _ q ?_ fun ho => State.receives_subscribers ho hq⟩
    · rw [htold]
      simp [expiryTells, ho]
    · rw [htold]
      simp [expiryTells]
  · rw [State.owned, hdir]
    refine (hp.owned q).trans (congrArg (s.owned q - ·) (State.bucketCount_eq fun i => ?_))
    rw [sweepChange_lost, Option.any_filter_eq]
  · rw [State.domain, hdom]
    refine (hp.count d).trans (congrArg ((s.domain d).count - ·) (State.bucketCount_eq fun i => ?_))
    rw [sweepChange_lost, Option.any_filter_eq]
  · rw [hcounts .expiries (by simp) (by simp), State.bucketCount_eq hcnt]
  · simp only [List.mem_cons, List.not_mem_nil, or_false, not_or] at hx hn
    rcases hx with rfl | rfl | rfl | rfl | rfl | rfl | rfl | rfl | rfl | rfl <;> simp at hn
    · exact hends.ready_same (by simp [hw])
    · exact htr.trans (State.overSlots_unchanged State.transfers (fun i hi u => sweepSlot_transfers (hfail i hi) u) s)
    · exact hends.ports (.inr (by simp [hw]))

/-! ### PURGE -/

/-- What a PURGE makes of a slot (R108). -/
def purgeChange (f : PurgeFilter) (s : State) (i : Nat) : SlotChange :=
  match (s.slot i).binding? with
  | some b => if f.matches b then ⟨.free, some b, true, false, true, [], none, false, false⟩
      else ⟨.occupied b, none, true, false, false, [], none, false, false⟩
  | none => .still (s.slot i)

/-- A binding that a job removes, with its transfer (R8, R88, R108, R112). -/
theorem State.removeByJob_changed {u : State} {i : Nat} {b : Binding} (hu : u.directory.wf = true)
    (hq : u.maintenance.queue ≠ []) (hi : u.slot i = .occupied b) :
    u.Changed (u.removeByJob i b) i ⟨.free, some b, false, false, true, [], none, false, false⟩ := by
  have hm : (u.removeByJob i b).maintenance
      = ((u.removeBinding i b).modifyCounts (fun c => { c with removed := c.removed + 1 })).maintenance := by
    simp [State.removeByJob]
  have hr : (u.removeBinding i b).maintenance = u.maintenance := by simp
  obtain ⟨l, ha, hl⟩ :=
    ((u.removeBinding i b).modifyCounts (fun c => { c with removed := c.removed + 1 })).endTransferOf_appends b
  refine .removal hu hi (by simp [State.removeByJob]) (by simp [State.removeByJob]) (by simp [State.removeByJob])
    (fun w => ?_) ?_ ?_ ⟨l, (State.Appends.of_eq (by simp)).trans ha, by simp, fun n hn => hl n hn⟩
  · rw [State.removeByJob, State.endTransferOf_entry]
    simp [State.entry]
  · rw [hm]
    exact State.modifyCounts_queue (by rwa [hr]) _
  · rw [hm, State.modifyCounts_headCounts (by rwa [hr]), hr]
    rfl

/-- The removal of a binding that the job examines first. -/
theorem State.examined_removeByJob_changed {u : State} {i : Nat} {b : Binding} (hu : u.directory.wf = true)
    (hq : u.maintenance.queue ≠ []) (hi : u.slot i = .occupied b) :
    u.Changed (u.examine.removeByJob i b) i ⟨.free, some b, true, false, true, [], none, false, false⟩ :=
  (State.removeByJob_changed (u.examine_keeps.form hu) (State.examine_counts hq).1 ((u.examine_slot i).trans hi)).examine hq rfl

/-- A PURGE at a slot that passes its check (R108). -/
theorem purgeSlot_changed {s u : State} (x : PurgeFilter) {f : List Nat} {i : Nat} (hf : i ∉ f) (hu : u.directory.wf = true)
    (hq : u.maintenance.queue ≠ []) (hs : u.slot i = s.slot i) : u.Changed (purgeSlot x f i u) i (purgeChange x s i) := by
  unfold purgeSlot purgeChange
  rw [← hs]
  cases hi : u.slot i with
  | occupied b =>
    rw [State.readBinding_passes hi hf]
    simp only [Slot.binding?]
    split
    · exact State.examined_removeByJob_changed hu hq hi
    · have h := (State.Changed.still (State.examine_counts hq).1 i).examine hq rfl
      rwa [u.examine_slot, hi] at h
  | undefined | free | defective =>
    rw [State.readBinding_empty (by simp [hi])]
    simp only [Slot.binding?, ← hi]
    exact .still hq i

section
variable (x : PurgeFilter) {s : State} {i : Nat} {b : Binding}

theorem purgeChange_match (h : s.slot i = .occupied b) (hm : x.matches b = true) :
    purgeChange x s i = ⟨.free, some b, true, false, true, [], none, false, false⟩ := by
  simp [purgeChange, h, Slot.binding?, hm]

theorem purgeChange_other (h : ∀ b, s.slot i = .occupied b → x.matches b = false) :
    (purgeChange x s i).after = s.slot i ∧ (purgeChange x s i).lost = none := by
  unfold purgeChange
  cases hi : s.slot i with
  | occupied b => simp [Slot.binding?, h b hi]
  | undefined | free | defective => exact ⟨rfl, rfl⟩

/-- A PURGE examines every binding of the bucket, and removes those that match (R108). -/
theorem purgeChange_counts (s : State) (i : Nat) : (purgeChange x s i).examined = ((s.slot i).binding?).any (fun _ => true)
    ∧ (purgeChange x s i).lost = ((s.slot i).binding?).filter x.matches
    ∧ (purgeChange x s i).removed = ((s.slot i).binding?).any x.matches
    ∧ (purgeChange x s i).expired = false ∧ (purgeChange x s i).counted = none := by
  unfold purgeChange
  cases (s.slot i).binding? with
  | none => exact ⟨rfl, rfl, rfl, rfl, rfl⟩
  | some b => cases h : x.matches b <;> simp [Option.filter, h]

end

/-- Settles O57: each slot of the bucket changes as `purgeChange` says, and the counts add up over the bucket. -/
theorem purgeRemovesMatchesOfABucket : Obligations.PurgeRemovesMatchesOfABucket := by
  unfold Obligations.PurgeRemovesMatchesOfABucket
  intro s v j rest failing f hin hw hwf hfail
  have hp : s.Processed (s.overSlots (purgeSlot f failing) (bucketSlots j.cursor)) (bucketSlots j.cursor) (purgeChange f s) :=
    State.overSlots_processed (·.directory.wf = true) hwf hin.queue_ne (bucketSlots_nodup _) fun i hi u hu hq hs _ =>
      ⟨purgeSlot_changed f (hfail i hi) hu hq hs, (purgeSlot_keeps f failing i u).form hu⟩
  obtain ⟨t, hexec, hdir, hdom, htr, hends, -, -, hch⟩ := hin.ends (f := purgeSlot f failing) (.purge ⟨failing, none⟩ f hw) hp
    (by simp [hw]) fun i _ => by simp [(purgeChange_counts f s i).2.2.2.2]
  have hexp : (bucketSlots j.cursor).countP (fun i => (purgeChange f s i).expired) = 0 :=
    List.countP_eq_zero.2 fun i _ => by simp [(purgeChange_counts f s i).2.2.2.1]
  rw [State.bucketCount_eq fun i => (purgeChange_counts f s i).1, hexp,
    State.bucketCount_eq fun i => (purgeChange_counts f s i).2.2.1] at hends
  have frees {i : Nat} {w : TransferIndex} (h : (purgeChange f s i).frees = some w) :
      ∃ b g, s.slot i = .occupied b ∧ f.matches b = true ∧ b.tenure = .transfer g w := by
    rw [SlotChange.frees, (purgeChange_counts f s i).2.1] at h
    obtain ⟨b, hb, hz⟩ := Option.bind_eq_some_iff.1 h
    obtain ⟨hb, hm⟩ := Option.filter_eq_some_iff.1 hb
    obtain ⟨⟨g, z⟩, hgz, rfl⟩ := Option.map_eq_some_iff.1 hz
    refine ⟨b, g, ?_, hm, Tenure.transfer?_eq_some.1 hgz⟩
    cases hi : s.slot i <;> simp [hi, Slot.binding?] at hb
    rw [hb]
  have hent (x : TransferIndex) : t.entry x = (s.overSlots (purgeSlot f failing) (bucketSlots j.cursor)).entry x := by
    rw [State.entry, htr, State.entry]
  refine ⟨t, hexec, fun i hi b hb hm => ?_, fun i hi => ?_, fun i hi b g x hb hm ht => ?_, fun x hx => ?_, hends, fun q => ?_,
    fun d => ?_, hch.narrow fun x hx hn => ?_⟩
  · rw [State.slot, hdir]
    refine (hp.slots i hi).trans ?_
    rw [purgeChange_match f hb hm]
  · rw [State.slot, hdir]
    by_cases hl : i ∈ bucketSlots j.cursor
    · exact (hp.slots i hl).trans (purgeChange_other f (hi.resolve_left fun h => h hl)).1
    · exact hp.others i hl
  · rw [hent]
    refine hp.freed i hi x ?_
    simp [purgeChange_match f hb hm, SlotChange.frees, ht]
  · rw [hent]
    refine hp.kept x fun i hi hfr => ?_
    obtain ⟨b, g, hb, hm, ht⟩ := frees hfr
    exact hx i hi b g hb hm ht
  · rw [State.owned, hdir]
    refine (hp.owned q).trans (congrArg (s.owned q - ·) (State.bucketCount_eq fun i => ?_))
    rw [(purgeChange_counts f s i).2.1, Option.any_filter_eq]
  · rw [State.domain, hdom]
    refine (hp.count d).trans (congrArg ((s.domain d).count - ·) (State.bucketCount_eq fun i => ?_))
    rw [(purgeChange_counts f s i).2.1, Option.any_filter_eq]
  · simp only [List.mem_cons, List.not_mem_nil, or_false, not_or] at hx hn
    rcases hx with rfl | rfl | rfl | rfl | rfl | rfl | rfl | rfl | rfl | rfl <;> simp at hn
    · exact hends.ready_same (by simp [hw])
    · exact hends.ports (.inr (by simp [hw]))

end Sys2Proof.Machine
end

section
/-! SUPPORT. A CLEAR and the start-up clear at a bucket (R22, R24, R112). -/

namespace Sys2Proof.Machine

/-! ### The rewriting and the retest of a slot -/

/-- What a retest makes of a slot that holds no binding and was not DEFECTIVE (R22, R24). -/
def retestChange (failing : List Nat) (i : Nat) : SlotChange :=
  if i ∈ failing then
    ⟨.defective, none, false, false, false, [.notice (.subscribers .slotFault) (.slotFault i)], some .slotFaults, true, false⟩
  else ⟨.free, none, false, false, false, [], none, false, false⟩

section
variable {u v w : State} {i : Nat} {f : List Nat}

theorem Directory.read_write_defective {d : Directory} (h : risingCells d.cells = true) (i : Nat) :
    (d.write i .defective).read i = .defective := by
  simp [Directory.read, Directory.write, readCells_writeCells_same h, Slot.listed]

theorem Directory.read_write_blank {d : Directory} (h : risingCells d.cells = true) {i : Nat}
    (hi : i < Config.ways * d.cleared) : (d.write i .free).read i = .free := by
  simp [Directory.read, Directory.write, readCells_writeCells_same h, Slot.listed, Directory.unlisted, hi]

/-- A slot that is no longer OCCUPIED, and was not DEFECTIVE, is rewritten and retested (R22, R24). -/
theorem retestSlot_changed {was : Slot} (hwas : was ≠ .defective) (hr : risingCells u.directory.cells = true)
    (hi : i < Config.ways * u.directory.cleared) (hq : u.maintenance.queue ≠ []) :
    u.Changed (retestSlot f i was u) i (retestChange f i) := by
  by_cases hf : i ∈ f
  · have hrun : retestSlot f i was u = ((u.writeSlot i .defective).modifyDefective (· + 1)).reportSlotFault i := by
      cases was <;> simp [retestSlot, hf] at hwas ⊢
    rw [hrun, retestChange, if_pos hf]
    refine ⟨Directory.read_write_defective hr i, fun j hj => u.writeSlot_slot_other hj _, fun _ => rfl, fun _ => rfl,
      fun _ => rfl, fun _ => rfl, rfl, hq, rfl, _, ((State.Appends.of_eq rfl).report _).report _, by simp, fun n _ => ?_⟩
    by_cases h : DeviceCounter.slotFaults = n <;> simp [countsOf, h]
  · have hrun : retestSlot f i was u = u.writeSlot i .free := by
      cases was <;> simp [retestSlot, hf] at hwas ⊢
    rw [hrun, retestChange, if_neg hf]
    exact ⟨Directory.read_write_blank hr hi, fun j hj => u.writeSlot_slot_other hj _, fun _ => rfl, fun _ => rfl,
      fun _ => rfl, fun _ => rfl, rfl, hq, rfl, [], .of_eq rfl, by simp, fun _ _ => rfl⟩

/-- A DEFECTIVE slot is rewritten and retested (R22). -/
theorem retestSlot_changed_defective (hi : u.slot i = .defective) (hu : u.directory.wf = true) (hq : u.maintenance.queue ≠ []) :
    u.Changed (retestSlot f i .defective u) i
      (if i ∈ f then .still .defective else ⟨.free, none, false, false, false, [], none, false, true⟩) := by
  by_cases hf : i ∈ f
  · rw [show retestSlot f i .defective u = u from by simp [retestSlot, hf], if_pos hf, ← hi]
    exact .still hq i
  · rw [show retestSlot f i .defective u = (u.writeSlot i .free).modifyDefective (· - 1) from by simp [retestSlot, hf],
      if_neg hf]
    exact ⟨Directory.read_write_free hu (Directory.read_inRange hu (by rw [show u.directory.read i = _ from hi]; simp)),
      fun j hj => u.writeSlot_slot_other hj _, fun _ => rfl, fun _ => rfl, fun _ => rfl, fun _ => rfl, rfl, hq, rfl, [],
      .of_eq rfl, by simp, fun _ _ => rfl⟩

/-- A removal, and then the retest of the slot. -/
theorem State.Changed.retested {b : Binding} (h : u.Changed v i ⟨.free, some b, true, false, true, [], none, false, false⟩)
    (k : v.Changed w i (retestChange f i)) :
    u.Changed w i { retestChange f i with lost := some b, examined := true, removed := true } := by
  have hsame : (retestChange f i).lost = none ∧ (retestChange f i).examined = false ∧ (retestChange f i).expired = false
      ∧ (retestChange f i).removed = false ∧ (retestChange f i).mends = false := by
    unfold retestChange
    split <;> exact ⟨rfl, rfl, rfl, rfl, rfl⟩
  obtain ⟨hlost, hex, hexp, hrem, hmend⟩ := hsame
  refine ⟨k.slot, fun j hj => (k.others j hj).trans (h.others j hj), fun d => (k.policy d).trans (h.policy d), fun q => ?_,
    fun d => ?_, fun x => ?_, ?_, k.queue, ?_, ?_⟩
  · rw [k.owned, h.owned, hlost]
    rfl
  · rw [k.count, h.count, hlost]
    rfl
  · rw [k.entry, h.entry, SlotChange.frees, hlost]
    rfl
  · rw [k.defective, h.defective, hmend]
    rfl
  · rw [k.examined, h.examined, hex, hexp, hrem]
    rfl
  · obtain ⟨l, ha, -, hl⟩ := h.reports
    obtain ⟨m, hb, ht, hm⟩ := k.reports
    refine ⟨l ++ m, ha.trans hb, fun r hr => List.mem_append_right _ (ht r hr), fun n hn => ?_⟩
    rw [countsOf_append, hl n hn, hm n hn]
    simp

/-! ### CLEAR -/

/-- What a CLEAR makes of a slot (R22, R112). -/
def rewriteChange (f : List Nat) (s : State) (i : Nat) : SlotChange :=
  match s.slot i with
  | .occupied b => { retestChange f i with lost := some b, examined := true, removed := true }
  | .undefined => .still .undefined
  | .free => retestChange f i
  | .defective => if i ∈ f then .still .defective else ⟨.free, none, false, false, false, [], none, false, true⟩

/-- A CLEAR at a slot (R22, R112). -/
theorem rewriteSlot_changed {s : State} (hu : u.directory.wf = true) (hq : u.maintenance.queue ≠ [])
    (hs : u.slot i = s.slot i) : u.Changed (rewriteSlot f i u) i (rewriteChange f s i) := by
  unfold rewriteSlot rewriteChange
  rw [← hs]
  have hrise := Directory.wf_rising hu
  cases hi : u.slot i with
  | occupied b =>
    have hrem := State.examined_removeByJob_changed hu hq hi
    have hform : (u.examine.removeByJob i b).directory.wf = true :=
      (State.removeByJob_keeps ((u.examine_slot i).trans hi)).form (u.examine_keeps.form hu)
    exact hrem.retested (retestSlot_changed (by simp) (Directory.wf_rising hform)
      (State.inRange_of_slot (by rw [hrem.slot]; simp) hform) hrem.queue)
  | undefined =>
    have h := State.Changed.still hq i
    rwa [hi] at h
  | free => exact retestSlot_changed (by simp) hrise (State.inRange_of_slot (by simp [hi]) hu) hq
  | defective => exact retestSlot_changed_defective hi hu hq

end

/-- What a slot of the bucket loses, and how it fails and mends (R22). -/
theorem rewriteChange_fields (f : List Nat) (s : State) (i : Nat) :
    (rewriteChange f s i).lost = (s.slot i).binding?
    ∧ (rewriteChange f s i).examined = ((s.slot i).binding?).any (fun _ => true)
    ∧ (rewriteChange f s i).removed = ((s.slot i).binding?).any (fun _ => true)
    ∧ (rewriteChange f s i).expired = false
    ∧ (rewriteChange f s i).fails
      = (decide (i ∈ f) && decide (s.slot i ≠ .undefined) && decide (s.slot i ≠ .defective))
    ∧ (rewriteChange f s i).counted = (if (rewriteChange f s i).fails then some .slotFaults else none)
    ∧ (rewriteChange f s i).mends = (decide (i ∉ f) && decide (s.slot i = .defective))
    ∧ (s.slot i ≠ .undefined → (rewriteChange f s i).after = if i ∈ f then .defective else .free) := by
  unfold rewriteChange retestChange
  cases s.slot i <;> by_cases h : i ∈ f <;> simp [h, Slot.binding?, SlotChange.still]

/-- A slot that newly fails is told of (R22). -/
theorem rewriteChange_tells {f : List Nat} {s : State} {i : Nat} (hi : i ∈ f) (hu : s.slot i ≠ .undefined)
    (hd : s.slot i ≠ .defective) :
    (rewriteChange f s i).tells = [.notice (.subscribers .slotFault) (.slotFault i)] := by
  unfold rewriteChange retestChange
  cases hs : s.slot i <;> simp [hs, hi] at hu hd ⊢

/-! ### The start-up clear -/

theorem State.reachBucket_again {s : State} {n : Nat} (h : n + 1 ≤ s.directory.cleared) : s.reachBucket n = s := by
  rw [State.reachBucket, max_eq_left h]
  rfl

/-- No slot of a bucket that the start-up clear has processed reads undefined. -/
theorem Directory.read_defined {d : Directory} (h : ∀ c ∈ d.cells, c.2.listed.isSome = true) {i : Nat}
    (hi : i < Config.ways * d.cleared) : d.read i ≠ .undefined := by
  rw [Directory.read]
  cases hc : readCells d.cells i with
  | some x =>
    intro hx
    have hlisted := h _ (readCells_mem hc)
    simp only [Option.getD_some] at hx
    simp [hx, Slot.listed] at hlisted
  | none => simp [Directory.unlisted, hi]

/-- The slots of the bucket that the start-up clear reaches are FREE then, and no other slot changes (R24). -/
theorem State.reachBucket_next {s : State} {n : Nat} (hs : s.directory.wf = true) (hn : s.directory.cleared = n) (i : Nat) :
    (i ∈ bucketSlots n → s.slot i = .undefined ∧ (s.reachBucket n).slot i = .free)
    ∧ (i ∉ bucketSlots n → (s.reachBucket n).slot i = s.slot i) := by
  have hlisted : ∀ c ∈ s.directory.cells, c.2.listed.isSome = true := fun c hc => (Directory.wf_cells hs c hc).2
  have hbelow (h : s.slot i ≠ .undefined) : i < 8 * n := hn ▸ Directory.read_inRange hs h
  have hreached (h : i < 8 * (n + 1)) : (s.reachBucket n).slot i ≠ .undefined :=
    Directory.read_defined (d := (s.reachBucket n).directory) hlisted (show i < Config.ways * max s.directory.cleared (n + 1) by
      rw [hn, max_eq_right (Nat.le_succ n)]
      exact h)
  rw [mem_bucketSlots]
  refine ⟨fun ⟨hlo, hhi⟩ => ?_, fun hi => ?_⟩
  · have hund : s.slot i = .undefined := by
      by_contra h
      have := hbelow h
      omega
    rcases s.reachBucket_slot n i with h | ⟨-, h⟩
    · exact absurd (h.trans hund) (hreached (by omega))
    · exact ⟨hund, h⟩
  · rcases s.reachBucket_slot n i with h | ⟨hund, hfree⟩
    · exact h
    · have hlow : ¬ i < 8 * n := fun h => Directory.read_defined hlisted (by rwa [hn]) hund
      have hsame : (s.reachBucket n).slot i = s.slot i := by
        simp only [State.slot, State.reachBucket, State.withDirectory_directory, Directory.read, Directory.unlisted, hn,
          Config.ways]
        rw [if_neg (by omega), if_neg hlow]
      exact hsame

/-- The start-up clear at a slot of a bucket that it has reached (R24). -/
theorem startupSlot_changed {u : State} {n i : Nat} {f : List Nat} (hr : risingCells u.directory.cells = true)
    (hn : u.directory.cleared = n + 1) (hi : i ∈ bucketSlots n) (hq : u.maintenance.queue ≠ []) (hs : u.slot i = .free) :
    u.Changed (startupSlot n f i u) i (retestChange f i) := by
  have hrun : startupSlot n f i u = retestSlot f i .undefined u := by
    simp only [startupSlot, hs, State.reachBucket_again hn.ge]
  rw [hrun]
  refine retestSlot_changed (by simp) hr ?_ hq
  rw [hn]
  exact (mem_bucketSlots.1 hi).2

theorem startupSlot_rising {u : State} {n : Nat} (f : List Nat) (i : Nat) (hr : risingCells u.directory.cells = true)
    (hn : u.directory.cleared = n + 1) :
    risingCells (startupSlot n f i u).directory.cells = true ∧ (startupSlot n f i u).directory.cleared = n + 1 := by
  unfold startupSlot
  rw [State.reachBucket_again hn.ge]
  have written (was : Slot) : risingCells (retestSlot f i was u).directory.cells = true
      ∧ (retestSlot f i was u).directory.cleared = n + 1 := by
    unfold retestSlot
    split
    · split
      · exact ⟨hr, hn⟩
      all_goals exact ⟨writeCells_rising hr i _, hn⟩
    · split
      all_goals exact ⟨writeCells_rising hr i _, hn⟩
  split
  · exact written _
  · exact written _
  all_goals exact ⟨hr, hn⟩

/-- The start-up clear reaches its bucket at the first slot (R24). -/
theorem overSlots_startup {s : State} {n : Nat} (f : List Nat) (hs : s.directory.wf = true) (hn : s.directory.cleared = n) :
    s.overSlots (startupSlot n f) (bucketSlots n) = (s.reachBucket n).overSlots (startupSlot n f) (bucketSlots n) := by
  obtain ⟨i, rest, hl⟩ : ∃ i rest, bucketSlots n = i :: rest := ⟨_, _, rfl⟩
  have hi : i ∈ bucketSlots n := hl ▸ List.mem_cons_self
  obtain ⟨hund, hfree⟩ := (State.reachBucket_next hs hn i).1 hi
  have hfirst : startupSlot n f i s = startupSlot n f i (s.reachBucket n) := by
    simp only [startupSlot, hund, hfree]
    rw [State.reachBucket_again (s := s.reachBucket n) (Nat.le_max_right _ _)]
  rw [hl]
  exact congrArg (State.overSlots · (startupSlot n f) rest) hfirst

/-- The bucket of the start-up clear, slot by slot (R24). -/
theorem startup_processed {s : State} {n : Nat} (f : List Nat) (hs : s.directory.wf = true) (hn : s.directory.cleared = n)
    (hq : s.maintenance.queue ≠ []) :
    s.Processed (s.overSlots (startupSlot n f) (bucketSlots n)) (bucketSlots n) (retestChange f) := by
  have hp : (s.reachBucket n).Processed ((s.reachBucket n).overSlots (startupSlot n f) (bucketSlots n)) (bucketSlots n)
      (retestChange f) :=
    State.overSlots_processed (fun u => risingCells u.directory.cells = true ∧ u.directory.cleared = n + 1)
      ⟨Directory.wf_rising (d := s.directory) hs, by simp [State.reachBucket, hn]⟩ hq (bucketSlots_nodup _) fun i hi u hu huq hus _ =>
      ⟨startupSlot_changed hu.1 hu.2 hi huq (hus.trans ((State.reachBucket_next hs hn i).1 hi).2),
        startupSlot_rising f i hu.1 hu.2⟩
  rw [overSlots_startup f hs hn]
  exact ⟨hp.slots, fun i hi => (hp.others i hi).trans ((State.reachBucket_next hs hn i).2 hi), hp.policy, hp.owned, hp.count,
    hp.freed, hp.kept, hp.mended, hp.failed, hp.examined, hp.reports⟩

theorem retestChange_fields (f : List Nat) (i : Nat) :
    (retestChange f i).after = (if i ∈ f then .defective else .free)
    ∧ (retestChange f i).examined = false ∧ (retestChange f i).expired = false ∧ (retestChange f i).removed = false
    ∧ (retestChange f i).fails = decide (i ∈ f) ∧ (retestChange f i).mends = false
    ∧ (retestChange f i).counted = (if i ∈ f then some .slotFaults else none) := by
  unfold retestChange
  by_cases h : i ∈ f <;> simp [h]

theorem startupSlot_leaves (n : Nat) (f : List Nat) (i : Nat) (u : State) :
    (startupSlot n f i u).domains = u.domains ∧ (startupSlot n f i u).transfers = u.transfers := by
  have written (was : Slot) (w : State) : (retestSlot f i was w).domains = w.domains
      ∧ (retestSlot f i was w).transfers = w.transfers := by
    unfold retestSlot
    split <;> split <;> exact ⟨rfl, rfl⟩
  unfold startupSlot
  split
  · exact written _ _
  · exact written _ _
  all_goals exact ⟨rfl, rfl⟩

/-- Settles O58: a CLEAR and the start-up clear rewrite each slot of the bucket as `rewriteChange` and `retestChange` say. -/
theorem clearRewritesABucket : Obligations.ClearRewritesABucket := by
  unfold Obligations.ClearRewritesABucket
  intro s v j rest failing hwf hw hin
  refine ⟨fun hid => ?_, fun hid hcl => ?_⟩
  · have hp : s.Processed (s.overSlots (rewriteSlot failing) (bucketSlots j.cursor)) (bucketSlots j.cursor)
        (rewriteChange failing s) :=
      State.overSlots_processed (·.directory.wf = true) hwf hin.queue_ne (bucketSlots_nodup _) fun i _ u hu hq hs _ =>
        ⟨rewriteSlot_changed hu hq hs, (rewriteSlot_keeps failing i u).form hu⟩
    have field := rewriteChange_fields failing s
    obtain ⟨t, hexec, hdir, -, htr, hends, hcounts, htells, hch⟩ := hin.ends (.rewrite ⟨failing, none⟩ hw hid) hp
      (by simp [hw]) fun i _ => by
        obtain ⟨-, -, -, -, -, hcnt, -, -⟩ := field i
        rw [hcnt]
        split <;> simp
    have hexp : (bucketSlots j.cursor).countP (fun i => (rewriteChange failing s i).expired) = 0 :=
      List.countP_eq_zero.2 fun i _ => by
        obtain ⟨-, -, -, he, -, -, -, -⟩ := field i
        simp [he]
    rw [State.bucketCount_eq fun i => (field i).2.1, hexp, State.bucketCount_eq fun i => (field i).2.2.1] at hends
    have hent (x : TransferIndex) : t.entry x = (s.overSlots (rewriteSlot failing) (bucketSlots j.cursor)).entry x := by
      rw [State.entry, htr, State.entry]
    refine ⟨t, hexec, fun i hi hu => ?_, fun i hi => ?_, fun i hi b g x hb ht => ?_, hends,
      fun i hi hf hu hd q hq => ?_, ?_, fun hnone => ?_, fun hall hdef => ?_, hch.narrow fun x hx hn => ?_⟩
    · obtain ⟨-, -, -, -, -, -, -, hafter⟩ := field i
      rw [State.slot, hdir]
      exact (hp.slots i hi).trans (hafter hu)
    · rw [State.slot, hdir]
      exact hp.others i hi
    · rw [hent]
      refine hp.freed i hi x ?_
      rw [SlotChange.frees, (field i).1, hb]
      simp [Slot.binding?, ht]
    · refine htells i hi (.subscribers .slotFault) _ q ?_ fun ho => State.receives_subscribers ho hq
      rw [rewriteChange_tells hf hu hd]
      exact List.mem_singleton_self _
    · rw [hcounts .slotFaults (by simp) (by simp)]
      refine congrArg (fun n => s.counter (.device .slotFaults) + BitVec.ofNat 32 n) (congrArg (List.countP · _) (funext fun i => ?_))
      obtain ⟨-, -, -, -, hfails, hcnt, -, -⟩ := field i
      rw [hcnt, ← hfails]
      cases (rewriteChange failing s i).fails <;> simp
    · rw [hdir, hp.mended fun i hi => ?_]
      · refine congrArg (s.directory.defectiveCount - ·) (List.countP_congr fun i hi => ?_)
        obtain ⟨-, -, -, -, -, -, hmends, -⟩ := field i
        simp [hmends, hnone i hi]
      · obtain ⟨-, -, -, -, hfails, -, -, -⟩ := field i
        simp [hfails, hnone i hi]
    · rw [hdir, hp.failed fun i hi => ?_]
      · refine congrArg (s.directory.defectiveCount + ·) (List.countP_congr fun i hi => ?_)
        obtain ⟨-, -, -, -, hfails, -, -, -⟩ := field i
        simp [hfails, hall i hi, hdef i hi]
      · obtain ⟨-, -, -, -, -, -, hmends, -⟩ := field i
        simp [hmends, hall i hi]
    · simp only [List.mem_cons, List.not_mem_nil, or_false, not_or] at hx hn
      rcases hx with rfl | rfl | rfl | rfl | rfl | rfl | rfl | rfl | rfl | rfl <;> simp at hn
      · exact hends.ready_same fun _ => hid
      · exact hends.ports (.inr (by simp [hw]))
  · have hp := startup_processed failing hwf hcl hin.queue_ne
    have field := retestChange_fields failing
    obtain ⟨t, hexec, hdir, hdom, htr, hends, hcounts, htells, hch⟩ := hin.ends (.startup ⟨failing, none⟩ hw hid) hp
      (by simp [hw]) fun i _ => by
        obtain ⟨-, -, -, -, -, -, hcnt⟩ := field i
        rw [hcnt]
        split <;> simp
    have none_of {c : Nat → Bool} (h : ∀ i, c i = false) : (bucketSlots j.cursor).countP c = 0 :=
      List.countP_eq_zero.2 fun i _ => by simp [h]
    rw [none_of fun i => (field i).2.1, none_of fun i => (field i).2.2.1, none_of fun i => (field i).2.2.2.1] at hends
    have hfails : (fun i => (retestChange failing i).fails) = fun i => decide (i ∈ failing) := funext fun i => by
      obtain ⟨-, -, -, -, hf, -, -⟩ := field i
      exact hf
    refine ⟨t, hexec, fun i hi => ?_, fun i hi => ?_, hends, ?_, fun i hi hf q hq => ?_, ?_, hch.narrow fun x hx hn => ?_⟩
    · rw [State.slot, hdir]
      exact (hp.slots i hi).trans (field i).1
    · rw [State.slot, hdir]
      exact hp.others i hi
    · rw [hdir, hp.failed fun i _ => ?_, hfails]
      obtain ⟨-, -, -, -, -, hm, -⟩ := field i
      exact hm
    · refine htells i hi (.subscribers .slotFault) _ q ?_ fun ho => State.receives_subscribers ho hq
      rw [retestChange, if_pos hf]
      exact List.mem_singleton_self _
    · rw [hcounts .slotFaults (by simp) (by simp)]
      refine congrArg (fun n => s.counter (.device .slotFaults) + BitVec.ofNat 32 n) (congrArg (List.countP · _) (funext fun i => ?_))
      obtain ⟨-, -, -, -, -, -, hcnt⟩ := field i
      rw [hcnt]
      split <;> simp [*]
    · simp only [List.mem_cons, List.not_mem_nil, or_false, not_or] at hx hn
      rcases hx with rfl | rfl | rfl | rfl | rfl | rfl | rfl | rfl | rfl | rfl <;> simp at hn
      · exact hdom.trans (State.overSlots_unchanged State.domains (fun i _ u => (startupSlot_leaves _ _ i u).1) s)
      · exact htr.trans (State.overSlots_unchanged State.transfers (fun i _ u => (startupSlot_leaves _ _ i u).2) s)
      · exact hends.ports (.inr (by simp [hw]))

end Sys2Proof.Machine
end

section
/-! SUPPORT. An ORPHAN job at a bucket (R144 to R152). -/

namespace Sys2Proof.Machine

/-! ### What the settling of some slots may change -/

/-- The slots `l` have been settled for the lost port `p`: other slots and the entries outside `z` stay, no other port's
owned_count falls or rises by more than `n`, and the job has examined `e` bindings and expired none. -/
structure State.Drains (s u : State) (p : Port) (l : List Nat) (z : TransferIndex → Prop) (n e : Nat) : Prop where
  others : ∀ j ∉ l, u.slot j = s.slot j
  form : s.directory.wf = true → u.directory.wf = true
  policy : ∀ d, (u.domain d).policy = (s.domain d).policy
  settings : u.settings = s.settings
  owned : ∀ q, q ≠ p → s.owned q ≤ u.owned q ∧ u.owned q ≤ s.owned q + n
  entries : ∀ w, ¬ z w → u.entry w = s.entry w
  queue : s.maintenance.queue ≠ [] → u.maintenance.queue ≠ []
  examined : s.maintenance.queue ≠ [] → u.maintenance.headCounts.examined = s.maintenance.headCounts.examined + e
  expired : s.maintenance.queue ≠ [] → u.maintenance.headCounts.expired = s.maintenance.headCounts.expired
  reports : ∃ m, s.Appends u m ∧ countsOf .sweepPasses m = 0

section
variable {s t u v : State} {p : Port} {l m : List Nat} {z y : TransferIndex → Prop} {n k e f : Nat}

theorem State.Drains.refl (s : State) (p : Port) (l : List Nat) (z : TransferIndex → Prop) : s.Drains s p l z 0 0 :=
  ⟨fun _ _ => rfl, id, fun _ => rfl, rfl, fun _ _ => ⟨le_rfl, le_rfl⟩, fun _ _ => rfl, id, fun _ => rfl, fun _ => rfl, [],
    .of_eq rfl, rfl⟩

theorem State.Drains.trans (h : s.Drains t p l z n e) (g : t.Drains u p l z k f) : s.Drains u p l z (n + k) (e + f) where
  others j hj := (g.others j hj).trans (h.others j hj)
  form hs := g.form (h.form hs)
  policy d := (g.policy d).trans (h.policy d)
  settings := g.settings.trans h.settings
  owned q hq := by
    have h1 := h.owned q hq
    have h2 := g.owned q hq
    omega
  entries w hw := (g.entries w hw).trans (h.entries w hw)
  queue hs := g.queue (h.queue hs)
  examined hs := by
    rw [g.examined (h.queue hs), h.examined hs]
    omega
  expired hs := (g.expired (h.queue hs)).trans (h.expired hs)
  reports := by
    obtain ⟨l1, ha, hc⟩ := h.reports
    obtain ⟨l2, hb, hd⟩ := g.reports
    exact ⟨l1 ++ l2, ha.trans hb, by rw [countsOf_append, hc, hd]⟩

/-- A last step, which examines nothing and moves no other port's count. -/
theorem State.Drains.last (g : t.Drains u p l z 0 0) (h : s.Drains t p l z n e) : s.Drains u p l z n e := h.trans g

theorem State.Drains.mono (h : s.Drains t p l z n e) (hl : ∀ j ∈ l, j ∈ m) (hz : ∀ w, z w → y w) (hn : n ≤ k) :
    s.Drains t p m y k e where
  others j hj := h.others j fun hj' => hj (hl j hj')
  form := h.form
  policy := h.policy
  settings := h.settings
  owned q hq := ⟨(h.owned q hq).1, (h.owned q hq).2.trans (Nat.add_le_add_left hn _)⟩
  entries w hw := h.entries w fun hw' => hw (hz w hw')
  queue := h.queue
  examined := h.examined
  expired := h.expired
  reports := h.reports

/-! ### The operations of an ORPHAN job at a slot -/

variable {i : Nat} {b c : Binding}

/-- A step that leaves the store, and counts no expiry (R95). -/
theorem State.Drains.of_same (hd : t.directory = s.directory) (hdom : t.domains = s.domains) (hset : t.settings = s.settings)
    (hent : ∀ w, ¬ z w → t.entry w = s.entry w) (hm : t.maintenance = s.maintenance)
    (hr : ∃ m, s.Appends t m ∧ countsOf .sweepPasses m = 0) : s.Drains t p l z 0 0 where
  others j _ := by rw [State.slot, hd, State.slot]
  form h := by rwa [hd]
  policy d := by rw [State.domain, hdom, State.domain]
  settings := hset
  owned q _ := by
    rw [State.owned, State.owned, hd]
    exact ⟨le_rfl, le_rfl⟩
  entries := hent
  queue h := by rwa [hm]
  examined _ := by rw [hm, Nat.add_zero]
  expired _ := by rw [hm]
  reports := hr

theorem State.examine_drains (s : State) : s.Drains s.examine p l z 0 1 where
  others j _ := s.examine_slot j
  form := s.examine_keeps.form
  policy d := by rw [State.examine_domain]
  settings := by simp [State.examine]
  owned q _ := by simp [State.owned, State.examine]
  entries w _ := s.examine_entry w
  queue h := (State.examine_counts h).1
  examined h := by rw [(State.examine_counts h).2]
  expired h := by rw [(State.examine_counts h).2]
  reports := ⟨[], .of_eq s.examine_grant, rfl⟩

/-- A step that only adds to the job's other counts. -/
theorem State.modifyCounts_drains (s : State) {f : JobCounts → JobCounts} (h1 : ∀ c, (f c).examined = c.examined)
    (h2 : ∀ c, (f c).expired = c.expired) : s.Drains (s.modifyCounts f) p l z 0 0 where
  others j _ := by simp [State.slot]
  form h := by simpa using h
  policy d := by simp [State.domain]
  settings := by simp
  owned q _ := by simp [State.owned]
  entries w _ := by simp [State.entry]
  queue h := State.modifyCounts_queue h f
  examined h := by rw [State.modifyCounts_headCounts h, h1, Nat.add_zero]
  expired h := by rw [State.modifyCounts_headCounts h, h2]
  reports := ⟨[], .of_eq (by simp), rfl⟩

theorem State.notifyInGrant_drains (s : State) (a : Audience) (x : Notice) : s.Drains (s.notifyInGrant a x) p l z 0 0 :=
  .of_same rfl rfl rfl (fun _ _ => rfl) rfl ⟨_, .report (.of_eq rfl) _, by simp [countsOf]⟩

theorem State.countInGrant_drains (s : State) {d : DeviceCounter} (h : d ≠ .sweepPasses) :
    s.Drains (s.countInGrant (.device d)) p l z 0 0 :=
  .of_same rfl rfl rfl (fun _ _ => rfl) rfl ⟨_, .report (.of_eq rfl) _, by simp [countsOf, h]⟩

/-- A slot that is rewritten in the grant, with the counts of a port that may gain it. -/
theorem State.Drains.write (hi : s.slot i ≠ .undefined) {x : Slot} (hrec : (s.writeSlot i x).Recounts t)
    (hown : ∀ q, q ≠ p → s.owned q ≤ t.owned q ∧ t.owned q ≤ s.owned q + n) (htr : t.transfers = s.transfers)
    (hm : t.maintenance = s.maintenance) (hg : t.grant = s.grant) : s.Drains t p [i] z n 0 where
  others j hj := by
    rw [State.slot, Directory.read, hrec.cells, Directory.unlisted, hrec.cleared]
    exact s.writeSlot_slot_other (by simpa using hj) x
  form hs := by
    have hw := Directory.write_wf hs (State.inRange_of_slot hi hs) x
    rw [Directory.wf, hrec.cells, hrec.cleared]
    exact hw
  policy := hrec.policy
  settings := hrec.settings
  owned := hown
  entries w _ := by rw [State.entry, htr, State.entry]
  queue h := by rwa [hm]
  examined _ := by rw [hm, Nat.add_zero]
  expired _ := by rw [hm]
  reports := ⟨[], .of_eq hg, rfl⟩

theorem State.orphanRemove_drains (hi : s.slot i = .occupied c) (hb : b.tenure = .bound p) :
    s.Drains (s.orphanRemove p i b) p [i] z 0 0 := by
  have h : s.Drains (s.removeBinding i b) p [i] z 0 0 :=
    .write (by simp [hi]) ((s.writeSlot i .free).countRemoval_recounts b) (fun q hq => by
      rw [s.removeBinding_owned (by rw [hb]; rfl), if_neg hq]
      exact ⟨le_rfl, le_rfl⟩) (by simp) (by simp) (by simp)
  exact .last (State.notifyInGrant_drains _ _ _) (.last (State.countInGrant_drains _ (by simp))
    (.last (State.modifyCounts_drains _ (fun _ => rfl) fun _ => rfl) h))

theorem State.orphanHold_drains (hi : s.slot i = .occupied c) : s.Drains (s.orphanHold p i b) p [i] z 0 0 := by
  have h : s.Drains ((s.putBinding i { b with tenure := .orphaned }).countHold p b.domain) p [i] z 0 0 :=
    .write (by simp [hi]) ((s.putBinding i { b with tenure := .orphaned }).countHold_recounts p b.domain) (fun q hq => by
      rw [State.countHold_owned, if_neg hq]
      exact ⟨le_rfl, le_rfl⟩) (by simp) (by simp) (by simp)
  exact .last (State.countInGrant_drains _ (by simp)) (.last (State.modifyCounts_drains _ (fun _ => rfl) fun _ => rfl) h)

theorem State.ownerChange_drains {q : Port} (hq : q ≠ p) (hi : s.slot i = .occupied c) (b : Binding) :
    s.Drains ((s.putBinding i b).countOwnerChange p q) p [i] z 1 0 :=
  .write (by simp [hi]) ((s.putBinding i b).countOwnerChange_recounts p q) (fun r hr => by
    rw [State.countOwnerChange_owned hq.symm]
    have : (s.putBinding i b).owned r = s.owned r := rfl
    simp only [this]
    rw [if_neg hr]
    split <;> omega) (by simp) (by simp) (by simp)

theorem State.orphanAdopt_drains {q : Port} (hq : q ≠ p) (hi : s.slot i = .occupied c) :
    s.Drains (s.orphanAdopt p q i b) p [i] z 1 0 :=
  .last (State.notifyInGrant_drains _ _ _) (.last (State.countInGrant_drains _ (by simp))
    (.last (State.modifyCounts_drains _ (fun _ => rfl) fun _ => rfl) (State.ownerChange_drains hq hi _)))

theorem State.orphanAction_drains (w : View) (hi : s.slot i = .occupied c) (hb : b.tenure = .bound p) :
    s.Drains (s.orphanAction w p i b) p [i] z 1 0 := by
  unfold State.orphanAction
  dsimp only
  split
  · exact (State.orphanRemove_drains hi hb).mono (fun _ => id) (fun _ => id) (Nat.zero_le _)
  · exact (State.orphanHold_drains hi).mono (fun _ => id) (fun _ => id) (Nat.zero_le _)
  · exact (State.orphanHold_drains hi).mono (fun _ => id) (fun _ => id) (Nat.zero_le _)
  · split
    next h =>
      simp only [State.standbyMayAdopt, Bool.and_eq_true, decide_eq_true_eq] at h
      exact State.orphanAdopt_drains h.1.1.2 hi
    · exact (State.orphanHold_drains hi).mono (fun _ => id) (fun _ => id) (Nat.zero_le _)

/-- The end of a transfer frees its entry (R73). -/
theorem State.endTransfer_drains (s : State) (x : TransferIndex) (e : Transfer) (o : TransferOutcome) (b : Binding) :
    s.Drains (s.endTransfer x e o b.domain b.key) p l (· = x) 0 0 :=
  .of_same (by simp) (by simp) (by simp) (fun w hw => by rw [s.endTransfer_entry, if_neg hw]) (by simp)
    ⟨_, s.endTransfer_appends x e o b, by cases o <;> simp [countsOf, transferReports, TransferOutcome.counter]⟩

theorem State.returnToGiver_drains (hi : s.slot i = .occupied c) (b : Binding) (g : Port) :
    s.Drains (s.returnToGiver i b g) p [i] z 0 0 :=
  .write (by simp [hi]) (.refl _) (fun _ _ => ⟨le_rfl, le_rfl⟩) rfl rfl rfl

/-! ### What becomes of a binding of the lost port -/

theorem State.orphanRemove_slot (hs : s.directory.wf = true) (hi : s.slot i = .occupied c) :
    (s.orphanRemove p i b).slot i = .free := by
  have h : (s.orphanRemove p i b).directory = (s.removeBinding i b).directory := by simp [State.orphanRemove]
  rw [State.slot, h]
  exact State.removeBinding_slot_same hs hi b

theorem State.orphanHold_slot (hs : s.directory.wf = true) :
    (s.orphanHold p i b).slot i = .occupied { b with tenure := .orphaned } := by
  have h : (s.orphanHold p i b).directory
      = ((s.putBinding i { b with tenure := .orphaned }).countHold p b.domain).directory := by simp [State.orphanHold]
  rw [State.slot, h]
  exact State.putBinding_slot_same hs i _

theorem State.orphanAdopt_slot (hs : s.directory.wf = true) (q : Port) :
    (s.orphanAdopt p q i b).slot i = .occupied { b with tenure := .bound q, touched := true, idle := 0 } := by
  have h : (s.orphanAdopt p q i b).directory
      = ((s.putBinding i { b with tenure := .bound q, touched := true, idle := 0 }).countOwnerChange p q).directory := by
    simp [State.orphanAdopt]
  rw [State.slot, h]
  exact State.putBinding_slot_same hs i _

theorem Policy.refusalFor_isNone {pol : Policy} {q : Port} : (pol.refusalFor q).isNone = true ↔ pol.Allows q := by
  unfold Policy.refusalFor Policy.Allows
  cases pol.claimPolicy <;> simp

/-- The orphan action, at a slot that is reached when up to seven others have been settled (R68, R145 to R148). -/
theorem State.Drains.treated (h : s.Drains u p l z 7 e) (w : View) (hu : u.directory.wf = true)
    (hi : u.slot i = .occupied c)
    (ht : t.slot i = (u.orphanAction w p i { b with tenure := .bound p }).slot i) : s.OrphanTreated t w p i b := by
  intro pol hpol
  have hp : (u.domain b.domain).policy = pol := (h.policy b.domain).trans hpol.symm
  rw [ht]
  unfold State.orphanAction
  simp only [hp]
  refine ⟨fun ho hc => ?_, fun ho hc => ?_, fun ho => ?_, fun ho hno => ?_, fun ho hon hne hal hq => ?_⟩
  · simp only [ho, hc]
    exact State.orphanRemove_slot hu hi
  · simp only [ho, hc]
    exact State.orphanHold_slot hu
  · simp only [ho]
    exact State.orphanHold_slot hu
  · have hstay : u.standbyMayAdopt w p pol = false := by
      rw [Bool.eq_false_iff]
      intro hadopt
      simp only [State.standbyMayAdopt, State.quotaAllows, Bool.and_eq_true, decide_eq_true_eq, h.settings,
        Policy.refusalFor_isNone] at hadopt
      obtain ⟨⟨⟨hon, hne⟩, hlt⟩, hal⟩ := hadopt
      have := (h.owned _ hne).1
      rcases hno with hno | hno | hno | hno
      · exact hno hon
      · exact hne hno
      · exact hno hal
      · omega
    simp only [ho, hstay]
    exact State.orphanHold_slot hu
  · have hmay : u.standbyMayAdopt w p pol = true := by
      have := (h.owned _ hne).2
      simp only [State.standbyMayAdopt, State.quotaAllows, Bool.and_eq_true, decide_eq_true_eq, h.settings,
        Policy.refusalFor_isNone]
      exact ⟨⟨⟨hon, hne⟩, by omega⟩, hal⟩
    simp only [ho, hmay]
    exact State.orphanAdopt_slot hu _

/-! ### An ORPHAN job at one slot -/

/-- The ORPHAN job for `p` examines a binding that names `p` (R144). -/
def State.namesPort (s : State) (p : Port) (b : Binding) : Bool :=
  decide (b.tenure.owner = some p) ||
    match b.tenure.index with
    | some x => (s.entry x).any (fun e => decide (e.taker = p))
    | none => false

/-- The entry of a slot's transfer. -/
def Slot.index? (y : Slot) : Option TransferIndex := y.transfer?.map Prod.snd

section
variable {f : List Nat} {w : View} {x : TransferIndex} {r : Transfer} {g : Port}

theorem orphanSlot_own (hf : i ∉ f) (hi : s.slot i = .occupied b) (hb : b.tenure = .bound p) :
    orphanSlot w p f i s = s.examine.orphanAction w p i b := by
  rw [orphanSlot, State.readBinding_passes hi hf]
  simp [hb]

theorem orphanSlot_giver (hf : i ∉ f) (hi : s.slot i = .occupied b) (hb : b.tenure = .transfer p x) (hx : s.entry x = some r) :
    orphanSlot w p f i s = s.examine.settleLostGiver w p i b x r := by
  rw [orphanSlot, State.readBinding_passes hi hf]
  simp [hb, hx]

theorem orphanSlot_taker (hf : i ∉ f) (hi : s.slot i = .occupied b) (hb : b.tenure = .transfer g x) (hx : s.entry x = some r)
    (hg : g ≠ p) (ht : r.taker = p) : orphanSlot w p f i s = s.examine.settleLostTaker i b x r := by
  rw [orphanSlot, State.readBinding_passes hi hf]
  simp [hb, hx, hg, ht]

/-- A binding that does not name the lost port is passed over (R144). -/
theorem orphanSlot_other (hf : i ∉ f) (h : ((s.slot i).binding?).any (s.namesPort p) = false) :
    orphanSlot w p f i s = s := by
  by_cases hi : ∃ b, s.slot i = .occupied b
  · obtain ⟨b, hi⟩ := hi
    rw [orphanSlot, State.readBinding_passes hi hf]
    rw [hi] at h
    cases hb : b.tenure with
    | orphaned => rfl
    | bound o => simp_all [Slot.binding?, State.namesPort, Tenure.owner]
    | transfer g x =>
      cases hx : s.entry x with
      | none => simp [hx]
      | some e => simp_all [Slot.binding?, State.namesPort, Tenure.owner, Tenure.index]
  · exact State.readBinding_empty fun b hb => hi ⟨b, hb⟩

/-- The transfer of a lost giver ends GIVER_GONE, its binding granted to the taker, or is returned and then treated (R149). -/
theorem State.settleLostGiver_granted (h : s.takerRefusal w r = none) :
    s.settleLostGiver w p i b x r = (s.grantToTaker i b r).endTransfer x r .giverGone b.domain b.key := by
  simp [State.settleLostGiver, h]

theorem State.settleLostGiver_returned {o : TransferOutcome} (h : s.takerRefusal w r = some o) :
    s.settleLostGiver w p i b x r
      = ((s.returnToGiver i b p).endTransfer x r o b.domain b.key).orphanAction w p i { b with tenure := .bound p } := by
  simp [State.settleLostGiver, h]

theorem State.settleLostGiver_drains (hs : s.directory.wf = true) (hi : s.slot i = .occupied b) (hg : r.giver = p)
    (hne : p ≠ r.taker) :
    s.Drains (s.settleLostGiver w p i b x r) p [i] (· = x) 1 0 := by
  cases h : s.takerRefusal w r with
  | none =>
    rw [State.settleLostGiver_granted h]
    refine .last (State.endTransfer_drains _ x r .giverGone b) ?_
    rw [State.grantToTaker, hg]
    exact State.ownerChange_drains hne.symm hi _
  | some o =>
    rw [State.settleLostGiver_returned h]
    have hret := (State.returnToGiver_settles hs i b p r x o).slot
    exact ((State.Drains.last (State.endTransfer_drains _ x r o b) (State.returnToGiver_drains hi b p)).trans
      (State.orphanAction_drains w hret rfl)).mono (fun _ => id) (fun _ => id) (by omega)

theorem State.settleLostTaker_drains (hi : s.slot i = .occupied b) :
    s.Drains (s.settleLostTaker i b x r) p [i] (· = x) 0 0 :=
  .last (State.endTransfer_drains _ x r .takerGone b) (State.returnToGiver_drains hi b r.giver)

/-- An ORPHAN job at a slot that passes its check (R144). -/
theorem orphanSlot_drains (hf : i ∉ f) (hs : s.directory.wf = true)
    (hT : ∀ b g x, s.slot i = .occupied b → b.tenure = .transfer g x → ∃ r, s.entry x = some r ∧ r.giver = g ∧ g ≠ r.taker) :
    s.Drains (orphanSlot w p f i s) p [i] (fun x => (s.slot i).index? = some x) 1
      (if ((s.slot i).binding?).any (s.namesPort p) = true then 1 else 0) := by
  by_cases hn : ((s.slot i).binding?).any (s.namesPort p) = true
  · rw [if_pos hn]
    obtain ⟨b, hi, hname⟩ : ∃ b, s.slot i = .occupied b ∧ s.namesPort p b = true := by
      cases hx : s.slot i <;> simp_all [Slot.binding?]
    have hi' : s.examine.slot i = .occupied b := (s.examine_slot i).trans hi
    cases ht : b.tenure with
    | orphaned => simp [State.namesPort, ht, Tenure.owner, Tenure.index] at hname
    | bound o =>
      obtain rfl : o = p := by simpa [State.namesPort, ht, Tenure.owner, Tenure.index] using hname
      rw [orphanSlot_own hf hi ht]
      exact (State.examine_drains s).trans (State.orphanAction_drains w hi' ht)
    | transfer g x =>
      obtain ⟨r, hx, rfl, hne⟩ := hT b g x hi ht
      have hz : ∀ y, y = x → (s.slot i).index? = some y := fun y hy => by simp [Slot.index?, hi, ht, hy]
      by_cases hg : r.giver = p
      · rw [orphanSlot_giver hf hi (hg ▸ ht) hx]
        exact ((State.examine_drains s).trans (State.settleLostGiver_drains (s.examine_keeps.form hs) hi' hg
          (hg ▸ hne))).mono (fun _ => id) hz le_rfl
      · have htk : r.taker = p := by simpa [State.namesPort, ht, Tenure.owner, Tenure.index, hx, hg] using hname
        rw [orphanSlot_taker hf hi ht hx hg htk]
        exact ((State.examine_drains s).trans (State.settleLostTaker_drains hi')).mono (fun _ => id) hz (by omega)
  · rw [if_neg hn, orphanSlot_other hf (Bool.eq_false_iff.2 hn)]
    exact (State.Drains.refl s p _ _).mono (fun _ => id) (fun _ => id) (Nat.zero_le _)

/-! ### An ORPHAN job over a bucket -/

/-- The slots of `l` and their entries are as they were. -/
def State.Untouched (s u : State) (l : List Nat) : Prop :=
  ∀ i ∈ l, u.slot i = s.slot i ∧ ∀ x, (s.slot i).index? = some x → u.entry x = s.entry x

/-- Two bindings in TRANSFER have two entries (R69). -/
theorem State.TransferLaw.index_inj (h : s.TransferLaw) {j : Nat} (hi : (s.slot i).index? = some x)
    (hj : (s.slot j).index? = some x) : i = j := by
  obtain ⟨⟨g, y⟩, hg, rfl⟩ := Option.map_eq_some_iff.1 hi
  obtain ⟨⟨g', y'⟩, hg', hy⟩ := Option.map_eq_some_iff.1 hj
  obtain ⟨e, he, rfl⟩ := (State.TransferLaw.iff.1 h).1 i g y hg
  obtain ⟨e', he', rfl⟩ := (State.TransferLaw.iff.1 h).1 j g' y' hg'
  rw [show y' = y from hy] at he'
  rw [Option.some.inj (he.symm.trans he')]

theorem State.Untouched.after (h : s.TransferLaw) (hu : s.Untouched u l)
    (hd : u.Drains v p m (fun x => ∃ i ∈ m, (s.slot i).index? = some x) n e) (hdis : ∀ i ∈ l, i ∉ m) : s.Untouched v l :=
  fun i hi => ⟨(hd.others i (hdis i hi)).trans (hu i hi).1, fun x hx =>
    (hd.entries x fun ⟨_, hj, hjx⟩ => hdis i hi (h.index_inj hx hjx ▸ hj)).trans ((hu i hi).2 x hx)⟩

/-- A transfer's entry, at a slot that is untouched (R69). -/
theorem State.Untouched.entry (h : s.TransferLaw) (hu : s.Untouched u [i]) {b : Binding} (hi : u.slot i = .occupied b)
    (hb : b.tenure = .transfer g x) : ∃ r, u.entry x = some r ∧ r.giver = g ∧ g ≠ r.taker := by
  obtain ⟨hslot, hent⟩ := hu i List.mem_cons_self
  have hs : s.slot i = .occupied b := hslot ▸ hi
  obtain ⟨r, hx, -, hg, hne⟩ := h.entry hs hb
  exact ⟨r, (hent x (by simp [Slot.index?, hs, hb])).trans hx, hg, hne⟩

theorem State.Untouched.namesPort (hu : s.Untouched u [i]) :
    ((u.slot i).binding?).any (u.namesPort p) = ((s.slot i).binding?).any (s.namesPort p) := by
  obtain ⟨hslot, hent⟩ := hu i List.mem_cons_self
  rw [hslot]
  cases hi : s.slot i with
  | occupied b =>
    cases hb : b.tenure with
    | transfer g x => simp [Slot.binding?, State.namesPort, hb, Tenure.index, hent x (by simp [Slot.index?, hi, hb])]
    | bound | orphaned => simp [Slot.binding?, State.namesPort, hb, Tenure.index]
  | undefined | free | defective => rfl

theorem overSlots_drains (h : s.TransferLaw) (hl : l.Nodup) (hf : ∀ i ∈ l, i ∉ f) (hu : u.directory.wf = true)
    (hun : s.Untouched u l) :
    u.Drains (u.overSlots (orphanSlot w p f) l) p l (fun x => ∃ i ∈ l, (s.slot i).index? = some x) l.length
      (l.countP fun i => ((s.slot i).binding?).any (s.namesPort p)) := by
  induction l generalizing u with
  | nil => exact .refl u p _ _
  | cons i rest ih =>
    obtain ⟨hi, hl⟩ := List.nodup_cons.1 hl
    have hone : s.Untouched u [i] := fun j hj => hun j (by simp_all)
    have hstep := orphanSlot_drains (w := w) (p := p) (hf i List.mem_cons_self) hu fun b g x => hone.entry h
    rw [hone.namesPort, (hone i List.mem_cons_self).1] at hstep
    have hstep' := hstep.mono (m := i :: rest) (y := fun x => ∃ j ∈ i :: rest, (s.slot j).index? = some x) (by simp)
      (fun x hx => ⟨i, List.mem_cons_self, hx⟩) le_rfl
    have hrest : s.Untouched (orphanSlot w p f i u) rest :=
      State.Untouched.after h (fun j hj => hun j (List.mem_cons_of_mem _ hj))
        (hstep.mono (m := [i]) (fun _ => id) (fun x hx => ⟨i, List.mem_cons_self, hx⟩) le_rfl) fun j hj hji =>
          hi (List.mem_singleton.1 hji ▸ hj)
    have hgo := (ih hl (fun j hj => hf j (List.mem_cons_of_mem _ hj)) (hstep.form hu) hrest).mono (m := i :: rest)
      (y := fun x => ∃ j ∈ i :: rest, (s.slot j).index? = some x) (fun j => List.mem_cons_of_mem _)
      (fun x ⟨j, hj, hx⟩ => ⟨j, List.mem_cons_of_mem _ hj, hx⟩) le_rfl
    have hall := hstep'.trans hgo
    rw [List.length_cons, List.countP_cons, Nat.add_comm rest.length, Nat.add_comm (List.countP _ rest)]
    exact hall

/-- Each slot of the bucket is settled in a state that up to seven others have been settled in, and is not touched later. -/
theorem overSlots_reaches (h : s.TransferLaw) (hs : s.directory.wf = true) {n : Nat} (hf : ∀ i ∈ bucketSlots n, i ∉ f)
    (hi : i ∈ bucketSlots n) : ∃ u l z e, s.Drains u p l z 7 e ∧ u.directory.wf = true ∧ s.Untouched u [i]
      ∧ (s.overSlots (orphanSlot w p f) (bucketSlots n)).slot i = (orphanSlot w p f i u).slot i
      ∧ ∀ x, (s.slot i).index? = some x →
          (s.overSlots (orphanSlot w p f) (bucketSlots n)).entry x = (orphanSlot w p f i u).entry x := by
  obtain ⟨l1, l2, hl⟩ := List.mem_iff_append.1 hi
  have hnd := bucketSlots_nodup n
  have hlen : (bucketSlots n).length = 8 := by simp [bucketSlots, Config.ways]
  rw [hl] at hf hnd hlen ⊢
  have hrun : s.overSlots (orphanSlot w p f) (l1 ++ i :: l2)
      = (orphanSlot w p f i (s.overSlots (orphanSlot w p f) l1)).overSlots (orphanSlot w p f) l2 := by
    simp [State.overSlots]
  obtain ⟨hnd1, hnd2, hdis⟩ := List.nodup_append.1 hnd
  obtain ⟨hi2, hnd2⟩ := List.nodup_cons.1 hnd2
  have hun : ∀ l, s.Untouched s l := fun _ _ _ => ⟨rfl, fun _ _ => rfl⟩
  have h1 := overSlots_drains (w := w) (p := p) h hnd1 (fun j hj => hf j (by simp [hj])) hs (hun l1)
  have hun1 : s.Untouched (s.overSlots (orphanSlot w p f) l1) (i :: l2) := State.Untouched.after h (hun _) h1
    fun j hj hj1 => hdis j hj1 j hj rfl
  have hone : s.Untouched (s.overSlots (orphanSlot w p f) l1) [i] := fun j hj => hun1 j (by simp_all)
  have hstep := orphanSlot_drains (w := w) (p := p) (hf i (by simp)) (h1.form hs) fun b g x => hone.entry h
  rw [(hone i List.mem_cons_self).1] at hstep
  have hun2 : s.Untouched (orphanSlot w p f i (s.overSlots (orphanSlot w p f) l1)) l2 :=
    State.Untouched.after h (fun j hj => hun1 j (List.mem_cons_of_mem _ hj))
      (hstep.mono (m := [i]) (fun _ => id) (fun x hx => ⟨i, List.mem_cons_self, hx⟩) le_rfl) fun j hj hji =>
        hi2 (List.mem_singleton.1 hji ▸ hj)
  have h2 := overSlots_drains (w := w) (p := p) h hnd2 (fun j hj => hf j (by simp [hj])) (hstep.form (h1.form hs)) hun2
  refine ⟨_, _, _, _, h1.mono (fun _ => id) (fun _ => id) ?_, h1.form hs, hone, ?_, fun x hx => ?_⟩
  · simp only [List.length_append, List.length_cons] at hlen
    omega
  · rw [hrun]
    exact h2.others i hi2
  · rw [hrun]
    exact h2.entries x fun ⟨j, hj, hjx⟩ => hi2 (h.index_inj hx hjx ▸ hj)

/-! ### The cases of a binding -/

theorem State.settleLostGiver_entry (hs : s.directory.wf = true) :
    (s.settleLostGiver w p i b x r).entry x = none := by
  cases h : s.takerRefusal w r with
  | none =>
    rw [State.settleLostGiver_granted h, (State.grantToTaker_settles hs i b r x .giverGone).entry, if_pos rfl]
  | some o =>
    rw [State.settleLostGiver_returned h]
    have hret := State.returnToGiver_settles hs i b p r x o
    rw [(State.orphanAction_drains (z := fun _ => False) w hret.slot rfl).entries x id, hret.entry, if_pos rfl]

/-- A binding in TRANSFER whose giver is the lost port, at a slot that is reached when up to seven others have been settled
(R149). -/
theorem State.Drains.giver (h : s.Drains u p l z 7 e) (hs : s.directory.wf = true) (hi : u.slot i = .occupied b)
    (hne : r.taker ≠ p) (ht : t.slot i = (u.examine.settleLostGiver w p i b x r).slot i) :
    (w.session.get r.taker = .online → s.owned r.taker + 8 ≤ s.settings.quota.get r.taker →
      t.slot i = .occupied { b with tenure := .bound r.taker, handle := r.handle, touched := true, idle := 0 })
    ∧ (w.session.get r.taker ≠ .online ∨ s.settings.quota.get r.taker ≤ s.owned r.taker → s.OrphanTreated t w p i b) := by
  have hx : s.Drains u.examine p l z 7 (e + 1) := h.trans (u.examine_drains)
  have hux : u.examine.directory.wf = true := hx.form hs
  have hix : u.examine.slot i = .occupied b := (u.examine_slot i).trans hi
  obtain ⟨hlo, hhi⟩ := hx.owned _ hne
  refine ⟨fun hon hq => ?_, fun hno => ?_⟩
  · rw [ht, State.settleLostGiver_granted (State.takerRefusal_eq_none hon (by rw [hx.settings]; omega))]
    exact (State.grantToTaker_settles hux i b r x .giverGone).slot
  · have href := State.takerRefusal_eq_some (s := u.examine) (v := w) (e := r)
      (hno.imp_right fun hq => by rw [hx.settings]; omega)
    rw [State.settleLostGiver_returned href] at ht
    have hret := State.returnToGiver_settles hux i b p r x (if w.session.get r.taker = .online then .quota else .takerGone)
    have hback : s.Drains ((u.examine.returnToGiver i b p).endTransfer x r
        (if w.session.get r.taker = .online then .quota else .takerGone) b.domain b.key) p (i :: l) (fun _ => True) 7 (e + 1) :=
      .last (State.endTransfer_drains _ x r _ b |>.mono (fun _ hj => hj) (fun _ _ => trivial) le_rfl)
        (.last ((State.returnToGiver_drains hix b p).mono (by simp) (fun _ => id) le_rfl)
          (hx.mono (fun _ => List.mem_cons_of_mem i) (fun _ _ => trivial) le_rfl))
    exact hback.treated (b := b) w (hback.form hs) hret.slot ht

/-- Settles O59: each slot of the bucket is settled in a state that up to seven others have been settled in, where the
owned_count of another port has risen by no more than seven, and no later slot touches it. -/
theorem orphanJobSettlesABucket : Obligations.OrphanJobSettlesABucket := by
  unfold Obligations.OrphanJobSettlesABucket
  intro s v j rest failing p cause hin hw hoff hwf hT hfail
  have hall := overSlots_drains (w := v) (p := p) hT (bucketSlots_nodup j.cursor) hfail hwf
    (fun _ _ => ⟨rfl, fun _ _ => rfl⟩)
  obtain ⟨m, hm, hpass⟩ := hall.reports
  obtain ⟨t, hexec, hdir, -, htr, hends, -, -, hch⟩ := hin.after (.orphan ⟨failing, none⟩ p cause hw) hm hpass
    fun q c hq => by
      rw [hw] at hq
      cases hq
      exact hoff
  have hslot (i : Nat) : t.slot i = (s.overSlots (orphanSlot v p failing) (bucketSlots j.cursor)).slot i := by
    rw [State.slot, hdir, State.slot]
  have hent (x : TransferIndex) : t.entry x = (s.overSlots (orphanSlot v p failing) (bucketSlots j.cursor)).entry x := by
    rw [State.entry, htr, State.entry]
  have hj : s.maintenance.headCounts = j.counts := by rw [Maintenance.headCounts, hin.queue]
  refine ⟨t, _, hexec, fun i hi b hb => ?_, fun i hi => ?_, hends, ?_, ?_, hch.narrow fun x hx hn => ?_⟩
  · obtain ⟨u, l, z, e, hd, hu, hun, hs, hx⟩ := overSlots_reaches (w := v) (p := p) hT hwf hfail hi
    have hub : u.slot i = .occupied b := (hun i List.mem_cons_self).1.trans hb
    have hf := hfail i hi
    have hidx {g : Port} {x : TransferIndex} (ht : b.tenure = .transfer g x) : (s.slot i).index? = some x := by
      simp [Slot.index?, hb, ht]
    have hue {g : Port} {x : TransferIndex} (ht : b.tenure = .transfer g x) : u.entry x = s.entry x :=
      (hun i List.mem_cons_self).2 x (hidx ht)
    rw [← hslot] at hs
    have passed (hn : s.namesPort p b = false) : orphanSlot v p failing i u = u := by
      refine orphanSlot_other hf ?_
      rw [hun.namesPort, hb]
      exact hn
    have kept (hn : s.namesPort p b = false) : t.slot i = s.slot i := by
      rw [hs, passed hn, hub, hb]
    refine ⟨fun ht => ?_, fun x r ht he => ?_, fun g x r ht he htk => ?_, fun ht => kept ?_, fun o ht ho => kept ?_,
      fun g x r ht hg he htk => ?_⟩
    · rw [orphanSlot_own hf hub ht] at hs
      have hx : s.Drains u.examine p l z 7 (e + 1) := hd.trans u.examine_drains
      refine hx.treated v (u.examine_keeps.form hu) ((u.examine_slot i).trans hub) (hs.trans ?_)
      rw [show { b with tenure := .bound p } = b by rw [← ht]]
    · obtain ⟨r', he', -, hg, hne⟩ := hT.entry hb ht
      obtain rfl : r = r' := Option.some.inj (he.symm.trans he')
      rw [orphanSlot_giver hf hub ht ((hue ht).trans he)] at hs hx
      refine ⟨?_, hd.giver hwf hub hne.symm hs⟩
      rw [hent, hx x (hidx ht)]
      exact State.settleLostGiver_entry (u.examine_keeps.form hu)
    · obtain ⟨r', he', -, hg, hne⟩ := hT.entry hb ht
      obtain rfl : r = r' := Option.some.inj (he.symm.trans he')
      have hgp : g ≠ p := fun h => hne (h.trans htk.symm)
      rw [orphanSlot_taker hf hub ht ((hue ht).trans he) hgp htk] at hs hx
      have hset := State.returnToGiver_settles (u.examine_keeps.form hu) i b r.giver r x .takerGone
      refine ⟨hs.trans ?_, ?_⟩
      · rw [← hg]
        exact hset.slot
      · rw [hent, hx x (hidx ht)]
        exact (hset.entry x).trans (if_pos rfl)
    · simp [State.namesPort, ht, Tenure.owner, Tenure.index]
    · simp [State.namesPort, ht, Tenure.owner, Tenure.index, ho]
    · have hn : s.namesPort p b = false := by simp [State.namesPort, ht, Tenure.owner, Tenure.index, hg, he, htk]
      exact ⟨kept hn, by rw [hent, hx x (hidx ht), passed hn, hue ht]⟩
  · rw [hslot]
    by_cases hl : i ∈ bucketSlots j.cursor
    · obtain ⟨u, l, z, e, hd, hu, hun, hs, -⟩ := overSlots_reaches (w := v) (p := p) hT hwf hfail hl
      have hno := hi.resolve_right fun h => h hl
      have hsame := (hun i List.mem_cons_self).1
      rw [hs, orphanSlot_other (hfail i hl) ?_, hsame]
      rw [hsame]
      cases hc : s.slot i with
      | occupied b => exact absurd hc (hno b)
      | undefined | free | defective => rfl
    · exact hall.others i hl
  · rw [hall.examined hin.queue_ne, hj]
    rfl
  · rw [hall.expired hin.queue_ne, hj]
  · simp only [List.mem_cons, List.not_mem_nil, or_false, not_or] at hx hn
    rcases hx with rfl | rfl | rfl | rfl | rfl | rfl | rfl | rfl | rfl | rfl <;> simp at hn
    exact hends.ready_same (by simp [hw])

end

end

end Sys2Proof.Machine
end

section
/-! SUPPORT. The bytes of the frames the part sends (R158, R201, R203 to R205). -/

namespace Sys2Proof.Machine

/-! ### Frames and notices -/

theorem withCheck_checks (v : Vector Byte 15) : frameChecks (withCheck v) = true := by
  have h : (v.push (crc8 v.toList)).toList.take 15 = v.toList := by simp [Vector.toList_push]
  rw [frameChecks, withCheck, h]
  simp

theorem OutFrame.bytes_checks (f : OutFrame) : frameChecks f.bytes = true := by
  cases f <;> exact withCheck_checks _

theorem byteOf_toNat (n : Nat) : (byteOf n).toNat = n % 256 := by simp [byteOf]

theorem byteOf_small {n : Nat} (h : n < 256) : (byteOf n).toNat = n := by
  rw [byteOf_toNat, Nat.mod_eq_of_lt h]

theorem portCode_lt (p : Port) : portCode p < 4 := by cases p <;> decide

theorem portOrNoneCode_le (p : Option Port) : portOrNoneCode p ≤ 4 := by
  cases p with
  | none => exact le_rfl
  | some p => exact (portCode_lt p).le

theorem TransferOutcome.code_lt (o : TransferOutcome) : o.code < 8 := by cases o <;> decide

theorem JobOutcome.noticeCode_lt (o : JobOutcome) : o.noticeCode < 8 := by cases o <;> decide

theorem GoneReason.code_lt (r : GoneReason) : r.code < 8 := by cases r <;> decide

/-- The codes of a notice have room in their bytes (11.1, 11.2). -/
theorem Notice.fields_bounds (n : Notice) :
    n.fields.kind ≤ 13 ∧ n.fields.reason < 8 ∧ n.fields.port ≤ 4 ∧ n.fields.domain < 256 := by
  have hport (p : Port) : portCode p ≤ 4 := (portCode_lt p).le
  have hdomain (d : DomainId) : d.val < 256 := d.isLt.trans (by decide)
  cases n <;> simp [Notice.fields, hport, hdomain, portOrNoneCode_le, TransferOutcome.code_lt, JobOutcome.noticeCode_lt,
    GoneReason.code_lt]

/-- Two bytes of a number, in the order of sending. -/
theorem byteOf_pair (n : Nat) : 256 * (byteOf (n / 256)).toNat + (byteOf n).toNat = n % 65536 := by
  rw [byteOf_toNat, byteOf_toNat]
  omega

/-- The bytes of a word, put together again. -/
theorem bytes_of_handle (h : Handle) :
    h.extractLsb' 24 8 ++ h.extractLsb' 16 8 ++ h.extractLsb' 8 8 ++ h.extractLsb' 0 8 = h := by
  rw [BitVec.extractLsb'_append_extractLsb'_eq_extractLsb' (by rfl), BitVec.extractLsb'_append_extractLsb'_eq_extractLsb' (by rfl),
    BitVec.extractLsb'_append_extractLsb'_eq_extractLsb' (by rfl)]
  exact BitVec.extractLsb'_eq_self

theorem bytes_of_key (k : Key) : k.extractLsb' 40 8 ++ k.extractLsb' 32 8 ++ k.extractLsb' 24 8 ++ k.extractLsb' 16 8
    ++ k.extractLsb' 8 8 ++ k.extractLsb' 0 8 = k := by
  rw [BitVec.extractLsb'_append_extractLsb'_eq_extractLsb' (by rfl), BitVec.extractLsb'_append_extractLsb'_eq_extractLsb' (by rfl),
    BitVec.extractLsb'_append_extractLsb'_eq_extractLsb' (by rfl), BitVec.extractLsb'_append_extractLsb'_eq_extractLsb' (by rfl),
    BitVec.extractLsb'_append_extractLsb'_eq_extractLsb' (by rfl)]
  exact BitVec.extractLsb'_eq_self

theorem noticeFrame_bytes {credits : Nat} (n : Notice) (hc : credits ≤ 16) :
    NoticeBytes (noticeFrame n credits) n.fields credits := by
  obtain ⟨hk, hr, hp, hd⟩ := n.fields_bounds
  exact {
    byte0 := (byteOf_small (by omega) : (byteOf (128 + 8 * n.fields.kind + n.fields.reason)).toNat = _)
    byte1 := ((byteOf_toNat _).trans (by omega) : (byteOf (credits % 32 + 32 * n.fields.port)).toNat = _)
    domain := (byteOf_small hd : (byteOf n.fields.domain).toNat = _)
    key := bytes_of_key n.fields.key
    handle := bytes_of_handle n.fields.handle
    value := byteOf_pair n.fields.value }

theorem noticeTable : NoticeTable where
  transferOffer _ _ _ _ _ _ := rfl
  transferDone _ _ _ _ _ _ _ := rfl
  preempted _ _ _ _ _ := rfl
  adopted _ _ _ _ _ := rfl
  expired _ _ _ _ _ := rfl
  jobDone _ _ _ _ _ _ := rfl
  leaseLost _ := rfl
  noticesLost _ _ := rfl
  bindingGone _ _ _ _ _ _ := rfl
  portState _ _ _ := rfl
  slotFault _ := rfl
  sweepDone _ _ _ := rfl
  portCounterHalf p c := by cases p <;> cases c <;> rfl
  deviceCounterHalf c := by cases c <;> rfl

theorem codeTable : CodeTable := by
  refine ⟨rfl, fun _ => rfl, rfl, rfl, rfl, rfl, rfl, rfl, rfl, rfl, rfl, rfl, rfl⟩

/-! ### Responses -/

theorem Status.code_lt (st : Status) : st.code < 256 := by cases st <;> decide

theorem bitAt_bit7 (n : Nat) (o : Bool) (h : n ≤ 16) : (byteOf (n % 32 + bitAt o 7)).toNat % 32 = n
    ∧ (byteOf (n % 32 + bitAt o 7)).getLsbD 7 = o ∧ (byteOf (n % 32 + bitAt o 7)).getLsbD 5 = false
    ∧ (byteOf (n % 32 + bitAt o 7)).getLsbD 6 = false := by
  interval_cases n <;> cases o <;> decide

theorem withCheck_head (a : Vector Byte 4) (b : Vector Byte 11) {i : Nat} (h : i < 4) :
    (withCheck ((a ++ b).cast rfl))[i] = a[i] :=
  (Vector.getElem_push_lt (show i < 15 by omega)).trans (Vector.getElem_append_left (ys := b) h)

theorem withCheck_tail (a : Vector Byte 4) (b : Vector Byte 11) (i : Fin 11) :
    (withCheck ((a ++ b).cast rfl))[4 + i.val] = b[i] := by
  refine (Vector.getElem_push_lt (show 4 + i.val < 15 by omega)).trans ?_
  refine (Vector.getElem_append_right (xs := a) (ys := b) (i := 4 + i.val) (by omega) (by omega)).trans ?_
  simp

/-- The bytes of a response frame in front of the result area (R203). -/
theorem responseFrame_bytes {n : Nat} (r : Response) (o : Bool) (hn : n ≤ 16) :
    (responseFrame r n o)[0].getLsbD 7 = false ∧ (responseFrame r n o)[0].toNat = r.kind.toNat % 128
      ∧ (responseFrame r n o)[1] = r.tag ∧ (responseFrame r n o)[2].toNat = r.status.code
      ∧ (responseFrame r n o)[3].toNat % 32 = n ∧ (responseFrame r n o)[3].getLsbD 7 = o
      ∧ (responseFrame r n o)[3].getLsbD 5 = false ∧ (responseFrame r n o)[3].getLsbD 6 = false
      ∧ ∀ i : Fin 11, (responseFrame r n o)[4 + i.val] = r.area[i] := by
  obtain ⟨h1, h2, h3, h4⟩ := bitAt_bit7 n o hn
  have b0 : (responseFrame r n o)[0] = r.kind &&& 0x7F#8 := withCheck_head _ _ (by decide)
  have b1 : (responseFrame r n o)[1] = r.tag := withCheck_head _ _ (by decide)
  have b2 : (responseFrame r n o)[2] = byteOf r.status.code := withCheck_head _ _ (by decide)
  have b3 : (responseFrame r n o)[3] = byteOf (n % 32 + bitAt o 7) := withCheck_head _ _ (by decide)
  rw [b0, b1, b2, b3]
  refine ⟨by simp, ?_, rfl, byteOf_small r.status.code_lt, h1, h2, h3, h4, withCheck_tail _ _⟩
  rw [BitVec.toNat_and]
  exact Nat.and_two_pow_sub_one_eq_mod r.kind.toNat 7

/-! ### The central responses -/

theorem centralArea_bytes {slot state owner cls flags : Nat} (hs : slot < 16384) (h1 : state < 256) (h2 : owner < 256)
    (h3 : cls < 256) (h4 : flags < 256) (h : Handle) :
    CentralBytes (centralArea slot state owner cls flags h) slot state owner cls flags h where
  slot := (byteOf_pair slot).trans (Nat.mod_eq_of_lt (by omega))
  byte6 := byteOf_small h1
  byte7 := byteOf_small h2
  byte8 := byteOf_small h3
  byte9 := byteOf_small h4
  handle := bytes_of_handle h
  byte14 := rfl

theorem HitFlags.code_bits (f : HitFlags) : (byteOf f.code).getLsbD 0 = f.self ∧ (byteOf f.code).getLsbD 1 = f.ownerLost
    ∧ (byteOf f.code).getLsbD 2 = f.inTransfer ∧ (byteOf f.code).getLsbD 3 = f.orphaned ∧ (byteOf f.code).toNat < 16 := by
  obtain ⟨a, b, c, d⟩ := f
  cases a <;> cases b <;> cases c <;> cases d <;> decide

theorem centralLayout (r : Response) : r.CentralLayout := by
  have hstate (t : Tenure) : t.state.code < 256 := by cases t <;> simp [Tenure.state, BindingState.code]
  have hcls (c : BindingClass) : c.code < 256 := by cases c <;> decide
  have hport (p : Port) : portCode p < 256 := (portCode_lt p).trans (by decide)
  have howner (p : Option Port) : portOrNoneCode p < 256 := (portOrNoneCode_le p).trans_lt (by decide)
  have hout (o : TransferOutcome) : o.code < 256 := o.code_lt.trans (by decide)
  have hindex (x : TransferIndex) : x.val < 256 := x.isLt.trans_le (by decide)
  unfold Response.CentralLayout Response.area
  cases r.result with
  | hit i t c h f =>
    intro hi
    have hf := f.code_bits
    have h15 : f.code < 256 := by
      obtain ⟨a, b, c, d⟩ := f
      cases a <;> cases b <;> cases c <;> cases d <;> decide
    have hb := centralArea_bytes hi (hstate t) (howner t.owner) (hcls c) h15 h
    exact ⟨⟨hb.slot, hb.byte6, hb.byte7, hb.byte8, rfl, hb.handle, hb.byte14⟩, hf⟩
  | claimed i o c h => exact fun hi => centralArea_bytes hi (by decide) (hport o) (hcls c) (by decide) h
  | ownedBy o => exact centralArea_bytes (by decide) (by decide) (hport o) (by decide) (by decide) 0
  | offered i x g => exact fun hi => centralArea_bytes hi (hindex x) (hport g) (by decide) (by decide) 0
  | replied i x o out => exact fun hi => centralArea_bytes hi (hindex x) (hport o) (hout out) (by decide) 0
  | _ => exact trivial

theorem area_none {r : Response} (h : r.result = .none) (i : Fin 11) : r.area[i] = 0 := by
  simp [Response.area, h, emptyArea]

/-- A response whose fields R203 does not lay out (log 13). -/
theorem Response.area_carried {r : Response} (h : r.result.fields ≠ []) :
    r.area = carriedArea r.kind.toNat r.status.code r.result.fields := by
  unfold Response.area
  cases hr : r.result <;> simp [hr, Result.fields] at h ⊢

/-! ### Fields at their places -/

/-- Fields at their places: each starts well and stands in the area, and no two share a bit. -/
structure FieldsStand (place : Nat → Nat) (width : AreaField → Nat) (fs : List AreaField) : Prop where
  within : ∀ i f, fs[i]? = some f → startsWell (place i) (width f) = true ∧ place i + width f ≤ 88
  apart : ∀ i j f g, i ≠ j → fs[i]? = some f → fs[j]? = some g →
    place i + width f ≤ place j ∨ place j + width g ≤ place i

section
variable {place : Nat → Nat} {width : AreaField → Nat} {fs : List AreaField}

theorem FieldsStand.of_fit (h : placesFitArea place (fs.map width) = true) : FieldsStand place width fs := by
  simp only [placesFitArea, List.all_eq_true, List.mem_range, Bool.and_eq_true, decide_eq_true_eq, Bool.or_eq_true,
    List.length_map] at h
  have hget {i : Nat} {f : AreaField} (hf : fs[i]? = some f) : i < fs.length ∧ (fs.map width).getD i 0 = width f :=
    ⟨(List.getElem?_eq_some_iff.1 hf).1, by simp [List.getD, hf]⟩
  refine ⟨fun i f hf => ?_, fun i j f g hij hf hg => ?_⟩
  · obtain ⟨hi, hw⟩ := hget hf
    have := (h i hi).1
    rwa [hw] at this
  · obtain ⟨hi, hwi⟩ := hget hf
    obtain ⟨hj, hwj⟩ := hget hg
    rcases Nat.lt_or_gt_of_ne hij with hlt | hgt
    · have := (h j hj).2 i hlt
      rwa [hwi, hwj] at this
    · have := (h i hi).2 j hgt
      rw [hwi, hwj] at this
      exact this.symm

/-- The bits of a field are those of its value, the most significant first. -/
theorem FieldsStand.bit (h : FieldsStand place width fs) {i m k b : Nat} {f : AreaField} (hf : fs[i]? = some f)
    (hm : m < width f) (hk : k < 11) (hb : b < 8) (hn : 8 * k + b = place i + m) :
    ((areaOfWord (areaWord place width fs 0))[k]'hk).getMsbD b = f.value.testBit (width f - 1 - m) := by
  rw [areaOfWord_getMsbD _ k hk b hb, areaWord_getMsbD place width _ fs 0
    fun g j hg => (h.within j g (List.mem_zipIdx_iff_getElem?.1 hg)).2, hn]
  rw [Bool.eq_iff_iff, List.any_eq_true]
  simp only [bitOf, Bool.and_eq_true, decide_eq_true_eq]
  refine ⟨fun ⟨⟨g, j⟩, hg, ⟨hlo, hhi⟩, hbit⟩ => ?_, fun hbit => ⟨(f, i), List.mem_zipIdx_iff_getElem?.2 hf, ⟨?_, ?_⟩, ?_⟩⟩
  · have hg' : fs[j]? = some g := List.mem_zipIdx_iff_getElem?.1 hg
    have hij : i = j := by
      by_contra hij
      have := h.apart i j f g hij hf hg'
      simp only at hlo hhi
      omega
    subst hij
    obtain rfl : f = g := Option.some.inj (hf.symm.trans hg')
    simpa using hbit
  · exact Nat.le_add_right _ _
  · simp only
    omega
  · simpa using hbit

/-- A bit that belongs to no field is 0. -/
theorem FieldsStand.blank (h : FieldsStand place width fs) {k b : Nat} (hk : k < 11) (hb : b < 8)
    (hn : ∀ i f, fs[i]? = some f → 8 * k + b < place i ∨ place i + width f ≤ 8 * k + b) :
    ((areaOfWord (areaWord place width fs 0))[k]'hk).getMsbD b = false := by
  rw [areaOfWord_getMsbD _ k hk b hb, areaWord_getMsbD place width _ fs 0
    fun g j hg => (h.within j g (List.mem_zipIdx_iff_getElem?.1 hg)).2, Bool.eq_false_iff]
  intro hany
  obtain ⟨⟨f, i⟩, hf, hbit⟩ := List.any_eq_true.1 hany
  simp only [bitOf, Bool.and_eq_true, decide_eq_true_eq] at hbit
  have := hn i f (List.mem_zipIdx_iff_getElem?.1 hf)
  omega

end

/-! ### Fields of whole bytes -/

/-- A packed layout of whole bytes leaves no gap. -/
theorem packedPlaces_whole (ws : List Nat) (start : Nat) (hs : start % 8 = 0) (hw : ∀ w ∈ ws, w % 8 = 0) :
    (packedPlaces start ws).getD ws.length 0 = start + ws.sum := by
  induction ws generalizing start with
  | nil => simp [packedPlaces]
  | cons w rest ih =>
    have hwell : wellFrom start w = start := by simp [wellFrom, startsWell, hs]
    have := ih (start + w) (by have := hw w List.mem_cons_self; omega) fun x hx => hw x (List.mem_cons_of_mem _ hx)
    simp only [packedPlaces, hwell, List.length_cons, List.getD_cons_succ, this, List.sum_cons]
    omega

theorem widthsFit_whole {fs : List AreaField} (h : (fs.map AreaField.bytes).sum ≤ 11) :
    widthsFit (fs.map AreaField.wholeWidth) = true := by
  have hsum : (fs.map AreaField.wholeWidth).sum = 8 * (fs.map AreaField.bytes).sum := by
    induction fs with
    | nil => rfl
    | cons f rest ih =>
      simp only [List.map_cons, List.sum_cons] at h ⊢
      rw [ih (by omega), AreaField.wholeWidth, Nat.mul_add]
  have hplace := packedPlaces_whole (fs.map AreaField.wholeWidth) 0 rfl fun w hw => by
    obtain ⟨f, -, rfl⟩ := List.mem_map.1 hw
    exact Nat.mul_mod_right 8 _
  rw [widthsFit, packedPlace, hplace, hsum]
  simp only [Config.areaBits, decide_eq_true_eq]
  omega

/-- A byte of a field of whole bytes, from its bits. -/
theorem byte_of_bits {x : Byte} {v n k : Nat} (hk : k < n)
    (h : ∀ b, b < 8 → x.getMsbD b = v.testBit (8 * n - 1 - (8 * k + b))) : x.toNat = v / 256 ^ (n - 1 - k) % 256 := by
  refine Nat.eq_of_testBit_eq fun j => ?_
  rw [show 256 ^ (n - 1 - k) = 2 ^ (8 * (n - 1 - k)) from by rw [Nat.pow_mul], show 256 = 2 ^ 8 from rfl,
    Nat.testBit_mod_two_pow, Nat.testBit_div_two_pow]
  by_cases hj : j < 8
  · have hb := h (7 - j) (by omega)
    rw [BitVec.getMsbD, BitVec.getLsbD] at hb
    rw [show 8 - 1 - (7 - j) = j by omega, show 8 * n - 1 - (8 * k + (7 - j)) = j + 8 * (n - 1 - k) by omega] at hb
    simpa [hj, show 7 - j < 8 by omega] using hb
  · have hx : x.toNat < 2 ^ j := x.isLt.trans_le (Nat.pow_le_pow_right (by decide) (by omega))
    rw [Nat.testBit_lt_two_pow hx]
    simp [hj]

theorem byte_zero_of_bits {x : Byte} (h : ∀ b, b < 8 → x.getMsbD b = false) : x = 0 :=
  BitVec.eq_of_getMsbD_eq fun b hb => by simp [h b hb]

/-- A layout of whole bytes that stands in the area begins each field at a byte, or has nothing of it. -/
theorem FieldsStand.aligned {place : Nat → Nat} {fs : List AreaField} (h : FieldsStand place AreaField.wholeWidth fs)
    {i : Nat} {f : AreaField} (hf : fs[i]? = some f) : f.bytes = 0 ∨ place i % 8 = 0 := by
  have hw := (h.within i f hf).1
  rw [startsWell, Bool.or_eq_true, decide_eq_true_eq, decide_eq_true_eq, AreaField.wholeWidth] at hw
  omega

/-- A response whose fields have room in whole bytes (log 13). -/
theorem Response.area_whole {r : Response} (hne : r.result.fields ≠ [])
    (hsum : (r.result.fields.map AreaField.bytes).sum ≤ 11) : ∃ place : Nat → Nat,
      FieldsStand place AreaField.wholeWidth r.result.fields
        ∧ r.area = areaOfWord (areaWord place AreaField.wholeWidth r.result.fields 0) := by
  have hfit := widthsFit_whole hsum
  refine ⟨fieldStart r.kind.toNat r.status.code (r.result.fields.map AreaField.wholeWidth), .of_fit (fieldStart_fits _ _ hfit), ?_⟩
  rw [Response.area_carried hne, carriedArea, if_pos hfit]
  rfl

/-- The fields of a domain record have no room in whole bytes, but have room if small ones share bytes (log 13). -/
theorem Response.area_domain {r : Response} {d : Domain} (h : r.result = .domain d) : ∃ place : Nat → Nat,
      FieldsStand place AreaField.sharedWidth d.fields
        ∧ r.area = areaOfWord (areaWord place AreaField.sharedWidth d.fields 0) := by
  have hwhole : widthsFit (d.fields.map AreaField.wholeWidth) = false := by
    rw [show d.fields.map AreaField.wholeWidth = [8, 8, 8, 8, 8, 8, 8, 16, 8, 8, 16, 16] from by
      simp [Domain.fields, AreaField.wholeWidth, AreaField.bytes]]
    decide
  have hfit : widthsFit (d.fields.map AreaField.sharedWidth) = true := by
    rw [show d.fields.map AreaField.sharedWidth = [1, 2, 4, 4, 4, 1, 4, 16, 2, 2, 16, 16] from by
      simp [Domain.fields, AreaField.sharedWidth, AreaField.wholeWidth, AreaField.bytes]]
    decide
  have hfields : r.result.fields = d.fields := by rw [h]; rfl
  refine ⟨fieldStart r.kind.toNat r.status.code (d.fields.map AreaField.sharedWidth), .of_fit (fieldStart_fits _ _ hfit), ?_⟩
  rw [Response.area_carried (by rw [hfields]; exact List.cons_ne_nil _ _), hfields, carriedArea, hwhole, hfit]
  rfl

/-- Settles O20: the frames byte by byte, and the result areas that R203 does not lay out bit by bit. -/
theorem sentFramesCheck : Obligations.SentFramesCheck := by
  unfold Obligations.SentFramesCheck
  refine ⟨fun f => ⟨f.bytes_checks, fun hc => ?_⟩, noticeTable, codeTable, centralLayout, fun r h i => area_none h i,
    fun r hne hsum => ?_, fun r d h => ?_⟩
  · cases f with
    | response r n o => exact responseFrame_bytes r o hc
    | notice m n =>
      change n ≤ 16 at hc
      have hb := noticeFrame_bytes m hc
      obtain ⟨hk, hr, -, -⟩ := m.fields_bounds
      refine ⟨?_, ?_, hb⟩
      · have h0 := hb.byte0
        have hlt : (noticeFrame m n)[0].toNat < 256 := (noticeFrame m n)[0].isLt
        change (noticeFrame m n)[0].getLsbD 7 = true
        rw [BitVec.getLsbD, Nat.testBit_eq_decide_div_mod_eq, decide_eq_true_eq]
        omega
      · change (noticeFrame m n)[1].toNat % 32 = n
        rw [hb.byte1]
        omega
  · obtain ⟨place, hst, harea⟩ := Response.area_whole hne hsum
    refine ⟨fun i => place i / 8, fun i f hf => ⟨?_, fun k hk hlt => ?_⟩, fun i j f g hij hf hg => ?_, fun k hk => ?_⟩
    · have := (hst.within i f hf).2
      have := hst.aligned hf
      simp only [AreaField.wholeWidth] at *
      omega
    · have hal := hst.aligned hf
      simp only [harea]
      refine byte_of_bits hlt fun b hb => ?_
      exact hst.bit hf (m := 8 * k + b) (by simp only [AreaField.wholeWidth]; omega) hk hb (by dsimp only; omega)
    · have := hst.apart i j f g hij hf hg
      have := hst.aligned hf
      have := hst.aligned hg
      simp only [AreaField.wholeWidth] at *
      omega
    · rw [harea]
      refine byte_zero_of_bits fun b hb => hst.blank k.isLt hb fun i f hf => ?_
      have := hk i f hf
      have := hst.aligned hf
      simp only [AreaField.wholeWidth] at *
      omega
  · obtain ⟨place, hst, harea⟩ := Response.area_domain h
    refine ⟨place, fun i f hf => ⟨(hst.within i f hf).2, ?_, fun k hk hlt => ?_⟩, hst.apart, fun n hn => ?_⟩
    · have := (hst.within i f hf).1
      simpa only [startsWell, Bool.or_eq_true, decide_eq_true_eq] using this
    · simp only [harea]
      exact hst.bit hf hlt hk (Nat.mod_lt _ (by decide)) (Nat.div_add_mod _ 8)
    · simp only [harea]
      refine hst.blank (by omega) (Nat.mod_lt _ (by decide)) fun i f hf => ?_
      rw [Nat.div_add_mod]
      exact hn i f hf

end Sys2Proof.Machine
end

section
/-! SUPPORT. An operation in a grant does not see the reports before its own, nor the Notice Unit, nor the counters (R15, R160,
R189; log 4). -/

namespace Sys2Proof.Machine

/-! ### A state behind a backlog of reports -/

/-- The state with reports `l` in front of those of its grant, and with the Notice Unit and the counters of `w`. -/
def State.behind (s w : State) (l : List Report) : State :=
  { s with
    grant := s.grant.map (fun g => { g with reports := l ++ g.reports })
    notices := w.notices
    portCounters := w.portCounters
    deviceCounters := w.deviceCounters }

def Reply.behind (r : Reply) (w : State) (l : List Report) : Reply := { r with state := r.state.behind w l }

section
variable (s w : State) (l : List Report)

@[simp] theorem State.behind_slot (i : Nat) : (s.behind w l).slot i = s.slot i := rfl
@[simp] theorem State.behind_directory : (s.behind w l).directory = s.directory := rfl
@[simp] theorem State.behind_domain (d : DomainId) : (s.behind w l).domain d = s.domain d := rfl
@[simp] theorem State.behind_entry (x : TransferIndex) : (s.behind w l).entry x = s.entry x := rfl
@[simp] theorem State.behind_transfers : (s.behind w l).transfers = s.transfers := rfl
@[simp] theorem State.behind_settings : (s.behind w l).settings = s.settings := rfl
@[simp] theorem State.behind_maintenance : (s.behind w l).maintenance = s.maintenance := rfl
@[simp] theorem State.behind_slotsOf (d : DomainId) (k : Key) : (s.behind w l).slotsOf d k = s.slotsOf d k := rfl
@[simp] theorem State.behind_quotaAllows (p : Port) : (s.behind w l).quotaAllows p = s.quotaAllows p := rfl
@[simp] theorem State.behind_freeIndex : (s.behind w l).freeIndex = s.freeIndex := rfl
@[simp] theorem State.behind_takerRefusal (v : View) (e : Transfer) :
    (s.behind w l).takerRefusal v e = s.takerRefusal v e := rfl

@[simp] theorem State.behind_writeSlot (i : Nat) (x : Slot) : (s.behind w l).writeSlot i x = (s.writeSlot i x).behind w l := rfl
@[simp] theorem State.behind_putBinding (i : Nat) (b : Binding) :
    (s.behind w l).putBinding i b = (s.putBinding i b).behind w l := rfl
@[simp] theorem State.behind_modifyDefective (f : Nat → Nat) :
    (s.behind w l).modifyDefective f = (s.modifyDefective f).behind w l := rfl
@[simp] theorem State.behind_countOwnerChange (p q : Port) :
    (s.behind w l).countOwnerChange p q = (s.countOwnerChange p q).behind w l := rfl
@[simp] theorem State.behind_countHold (p : Port) (d : DomainId) :
    (s.behind w l).countHold p d = (s.countHold p d).behind w l := rfl
@[simp] theorem State.behind_countOrphanAdoption (p : Port) (d : DomainId) :
    (s.behind w l).countOrphanAdoption p d = (s.countOrphanAdoption p d).behind w l := rfl
@[simp] theorem State.behind_countCreation (d : DomainId) (p : Port) :
    (s.behind w l).countCreation d p = (s.countCreation d p).behind w l := rfl
@[simp] theorem State.behind_takeCredit (p : Port) : (s.behind w l).takeCredit p = (s.takeCredit p).behind w l := rfl
@[simp] theorem State.behind_freeEntry (x : TransferIndex) : (s.behind w l).freeEntry x = (s.freeEntry x).behind w l := rfl
@[simp] theorem State.behind_setEntry (x : TransferIndex) (e : Option Transfer) :
    (s.behind w l).setEntry x e = (s.setEntry x e).behind w l := rfl
@[simp] theorem State.behind_withTransfers (x : Transfers) :
    (s.behind w l).withTransfers x = (s.withTransfers x).behind w l := rfl
@[simp] theorem State.behind_returnToGiver (i : Nat) (b : Binding) (g : Port) :
    (s.behind w l).returnToGiver i b g = (s.returnToGiver i b g).behind w l := rfl
@[simp] theorem State.behind_grantToTaker (i : Nat) (b : Binding) (e : Transfer) :
    (s.behind w l).grantToTaker i b e = (s.grantToTaker i b e).behind w l := rfl

@[simp] theorem State.behind_countRemoval (b : Binding) : (s.behind w l).countRemoval b = (s.countRemoval b).behind w l := by
  unfold State.countRemoval
  split <;> rfl

@[simp] theorem State.behind_removeBinding (i : Nat) (b : Binding) :
    (s.behind w l).removeBinding i b = (s.removeBinding i b).behind w l := by simp [State.removeBinding]

@[simp] theorem State.behind_report (r : Report) : (s.behind w l).report r = (s.report r).behind w l := by
  unfold State.report State.behind
  cases s.grant <;> simp [State.withGrant]

@[simp] theorem State.behind_notifyInGrant (a : Audience) (n : Notice) :
    (s.behind w l).notifyInGrant a n = (s.notifyInGrant a n).behind w l := s.behind_report w l _

@[simp] theorem State.behind_countInGrant (c : CounterId) :
    (s.behind w l).countInGrant c = (s.countInGrant c).behind w l := s.behind_report w l _

@[simp] theorem State.behind_endTransfer (x : TransferIndex) (e : Transfer) (o : TransferOutcome) (d : DomainId) (k : Key) :
    (s.behind w l).endTransfer x e o d k = (s.endTransfer x e o d k).behind w l := by simp [State.endTransfer]

@[simp] theorem State.behind_endTransferOf (b : Binding) (o : TransferOutcome) :
    (s.behind w l).endTransferOf b o = (s.endTransferOf b o).behind w l := by
  unfold State.endTransferOf
  cases b.tenure with
  | transfer g x => cases hx : s.entry x <;> simp [hx]
  | bound | orphaned => rfl

@[simp] theorem State.behind_modifyCounts (f : JobCounts → JobCounts) :
    (s.behind w l).modifyCounts f = (s.modifyCounts f).behind w l := by
  unfold State.modifyCounts State.modifyHeadJob
  rw [State.behind_maintenance]
  split <;> rfl

@[simp] theorem State.behind_slotFails (i : Nat) : (s.behind w l).slotFails i = (s.slotFails i).behind w l := by
  unfold State.slotFails State.loseBinding State.reportSlotFault
  rw [State.behind_slot]
  cases s.slot i <;> simp

@[simp] theorem Reply.behind_state (r : Reply) : (r.behind w l).state = r.state.behind w l := rfl

@[simp] theorem refuse_behind (st : Status) : refuse (s.behind w l) st = (refuse s st).behind w l := rfl

@[simp] theorem throttle_behind (p : Port) : throttle (s.behind w l) p = (throttle s p).behind w l := by
  simp [throttle]

/-! ### Readings of slots -/

@[simp] theorem State.behind_lookupIn (f : List Nat) (d : DomainId) (k : Key) (m : List Nat) :
    (s.behind w l).lookupIn f d k m = ((s.lookupIn f d k m).1.behind w l, (s.lookupIn f d k m).2) := by
  induction m generalizing s with
  | nil => rfl
  | cons i rest ih =>
    simp only [State.lookupIn, State.behind_slot]
    cases s.slot i with
    | occupied b =>
      simp only
      by_cases hf : f.contains i = true
      · simp only [if_pos hf, State.behind_slotFails, ih]
      · by_cases hb : b.domain = d ∧ b.key = k
        · simp only [if_neg hf, if_pos hb]
        · simp only [if_neg hf, if_neg hb, ih]
    | undefined | free | defective => exact ih s

@[simp] theorem State.behind_lookup (f : List Nat) (d : DomainId) (k : Key) :
    (s.behind w l).lookup f d k = ((s.lookup f d k).1.behind w l, (s.lookup f d k).2) := s.behind_lookupIn w l f d k _

@[simp] theorem State.behind_freeWayIn (f m : List Nat) :
    (s.behind w l).freeWayIn f m = ((s.freeWayIn f m).1.behind w l, (s.freeWayIn f m).2) := by
  induction m generalizing s with
  | nil => rfl
  | cons i rest ih =>
    simp only [State.freeWayIn, State.behind_slot]
    cases s.slot i with
    | free =>
      simp only
      by_cases hf : f.contains i = true
      · simp only [if_pos hf, State.behind_slotFails, ih]
      · simp only [if_neg hf]
    | undefined | occupied | defective => exact ih s

@[simp] theorem State.behind_scanIn (f : List Nat) (x : ScanFilter) (m : List Nat) :
    (s.behind w l).scanIn f x m = ((s.scanIn f x m).1.behind w l, (s.scanIn f x m).2) := by
  induction m generalizing s with
  | nil => rfl
  | cons i rest ih =>
    simp only [State.scanIn, State.behind_slot]
    cases s.slot i with
    | occupied b =>
      simp only
      by_cases hf : f.contains i = true
      · simp only [if_pos hf, State.behind_slotFails, ih]
      · by_cases hb : x.matches b = true
        · simp only [if_neg hf, if_pos hb]
        · simp only [if_neg hf, if_neg hb, ih]
    | undefined | free | defective => exact ih s

/-! ### Requests -/

/-- A reply is the same behind a backlog. -/
theorem Reply.behind_ite {c : Prop} [Decidable c] (a b : Reply) :
    (if c then a else b).behind w l = if c then a.behind w l else b.behind w l := apply_ite (Reply.behind · w l) c a b

@[simp] theorem Reply.behind_mk (st : Status) (r : Result) : Reply.behind ⟨s, st, r⟩ w l = ⟨s.behind w l, st, r⟩ := rfl

theorem createBinding_behind (v : View) (p : Port) (a : ClaimArgs) (st : Status) (f : List Nat) :
    createBinding v p a st f (s.behind w l) = (createBinding v p a st f s).behind w l := by
  simp only [createBinding, State.behind_domain, State.behind_quotaAllows, refuse_behind, throttle_behind,
    State.behind_slotsOf, State.behind_freeWayIn, Reply.behind_ite]
  rcases s.freeWayIn f (s.slotsOf a.domain a.key) with ⟨s1, _ | i⟩
  · rfl
  · simp

theorem adoptBinding_behind (v : View) (p : Port) (a : ClaimArgs) (i : Nat) (b : Binding) :
    adoptBinding v p a i b (s.behind w l) = (adoptBinding v p a i b s).behind w l := by
  simp only [adoptBinding, State.behind_quotaAllows, refuse_behind, throttle_behind, Reply.behind_ite]
  cases b.tenure <;> simp

theorem preemptBinding_behind (v : View) (p : Port) (a : ClaimArgs) (i : Nat) (b : Binding) (o : Port) :
    preemptBinding v p a i b o (s.behind w l) = (preemptBinding v p a i b o s).behind w l := by
  simp [preemptBinding, Reply.behind_ite]

theorem claimHit_behind (v : View) (p : Port) (a : ClaimArgs) (i : Nat) (b : Binding) :
    claimHit v p a i b (s.behind w l) = (claimHit v p a i b s).behind w l := by
  unfold claimHit
  cases b.tenure with
  | transfer | orphaned => simp [adoptBinding_behind]
  | bound o =>
    simp only [Reply.behind_ite, adoptBinding_behind, preemptBinding_behind, State.behind_domain]
    rfl

theorem claimReply_behind (v : View) (p : Port) (a : ClaimArgs) (f : List Nat) :
    claimReply v p a f (s.behind w l) = (claimReply v p a f s).behind w l := by
  simp only [claimReply, State.behind_domain, refuse_behind, Reply.behind_ite, State.behind_lookup]
  cases (s.domain a.domain).policy.refusalFor p with
  | some st => simp
  | none =>
    simp only [Reply.behind_ite]
    rcases s.lookup f a.domain a.key with ⟨s1, _ | ⟨i, b⟩⟩
    · simp only [createBinding_behind]
    · simp only [claimHit_behind]

theorem resolveReply_behind (v : View) (p : Port) (a : ClaimArgs) (cl : Bool) (f : List Nat) :
    resolveReply v p a cl f (s.behind w l) = (resolveReply v p a cl f s).behind w l := by
  simp only [resolveReply, State.behind_domain, refuse_behind, Reply.behind_ite, State.behind_lookup]
  rcases s.lookup f a.domain a.key with ⟨s1, _ | ⟨i, b⟩⟩
  · simp only [State.behind_countInGrant, Reply.behind_ite, refuse_behind]
    cases (s.domain a.domain).policy.refusalFor p <;> simp [createBinding_behind]
  · by_cases hb : b.tenure.owner = some p <;> simp [hb]

theorem releaseReply_behind (v : View) (p : Port) (d : DomainId) (k : Key) (f : List Nat) :
    releaseReply v p d k f (s.behind w l) = (releaseReply v p d k f s).behind w l := by
  simp only [releaseReply, State.behind_domain, refuse_behind, Reply.behind_ite, State.behind_lookup]
  rcases s.lookup f d k with ⟨s1, _ | ⟨i, b⟩⟩
  · rfl
  · cases hb : b.tenure with
    | orphaned => simp only [hb, refuse_behind]
    | bound o => simp [hb, Reply.behind_ite, State.notifyReleased]
    | transfer g x =>
      simp only [hb, Reply.behind_ite, State.behind_entry, refuse_behind]
      cases hx : s1.entry x with
      | none => rfl
      | some e =>
        simp only [releaseTransfer, State.behind_takerRefusal]
        cases s1.takerRefusal v e <;> simp [State.notifyReleased]

theorem touchReply_behind (p : Port) (d : DomainId) (k : Key) (f : List Nat) :
    touchReply p d k f (s.behind w l) = (touchReply p d k f s).behind w l := by
  simp only [touchReply, State.behind_domain, refuse_behind, Reply.behind_ite, State.behind_lookup]
  rcases s.lookup f d k with ⟨s1, _ | ⟨i, b⟩⟩
  · rfl
  · simp [Reply.behind_ite]

theorem scanReply_behind (n : Nat) (x : ScanFilter) (f : List Nat) :
    scanReply n x f (s.behind w l) = (scanReply n x f s).behind w l := by
  simp only [scanReply, State.behind_scanIn]
  rcases s.scanIn f x (windowSlots n) with ⟨s1, _ | ⟨i, b⟩⟩
  · simp only [Reply.behind_ite]
    rfl
  · rfl

theorem askReply_behind (v : View) (p : Port) (tag : Byte) (d : DomainId) (k : Key) (h : Handle) (f : List Nat) :
    askReply v p tag d k h f (s.behind w l) = (askReply v p tag d k h f s).behind w l := by
  simp only [askReply, State.behind_domain, refuse_behind, Reply.behind_ite, State.behind_lookup]
  rcases s.lookup f d k with ⟨s1, _ | ⟨i, b⟩⟩
  · rfl
  · simp only [Reply.behind_ite]
    cases hb : b.tenure with
    | transfer | orphaned => simp only [Reply.behind_mk, refuse_behind]
    | bound g =>
      simp only [Reply.behind_ite, refuse_behind]
      cases (s.domain d).policy.refusalFor p with
      | some st => simp only [Reply.behind_mk]
      | none =>
        simp only [Reply.behind_ite, State.behind_quotaAllows, State.behind_freeIndex]
        cases s1.freeIndex with
        | none => simp
        | some x => simp [offerTransfer]

/-! ### Jobs -/

@[simp] theorem State.behind_examine : (s.behind w l).examine = s.examine.behind w l := by simp [State.examine]

theorem State.readBinding_behind {g : Binding → State → State} (hg : ∀ b s, g b (State.behind s w l) = (g b s).behind w l)
    (f : List Nat) (i : Nat) : (s.behind w l).readBinding f i g = (s.readBinding f i g).behind w l := by
  unfold State.readBinding
  rw [State.behind_slot]
  cases s.slot i with
  | occupied b => simp only [hg, State.behind_slotFails, apply_ite (State.behind · w l)]
  | undefined | free | defective => rfl

theorem State.expireBinding_behind (i : Nat) (b : Binding) :
    (s.behind w l).expireBinding i b = (s.expireBinding i b).behind w l := by
  unfold State.expireBinding
  cases b.tenure.owner <;> simp

theorem State.ageBinding_behind (i : Nat) (b : Binding) : (s.behind w l).ageBinding i b = (s.ageBinding i b).behind w l := by
  unfold State.ageBinding
  cases b.cls with
  | pinned => rfl
  | leased =>
    cases b.touched with
    | true => rfl
    | false =>
      simp only [State.expireBinding_behind, State.behind_domain, apply_ite (State.behind · w l)]
      rfl

theorem sweepSlot_behind (f : List Nat) (i : Nat) : sweepSlot f i (s.behind w l) = (sweepSlot f i s).behind w l :=
  s.readBinding_behind w l (fun b s => by cases b.tenure <;> simp [State.ageBinding_behind]) f i

theorem purgeSlot_behind (x : PurgeFilter) (f : List Nat) (i : Nat) :
    purgeSlot x f i (s.behind w l) = (purgeSlot x f i s).behind w l :=
  s.readBinding_behind w l (fun b s => by cases x.matches b <;> simp [State.removeByJob]) f i

theorem State.orphanAction_behind (v : View) (p : Port) (i : Nat) (b : Binding) :
    (s.behind w l).orphanAction v p i b = (s.orphanAction v p i b).behind w l := by
  unfold State.orphanAction
  simp only [State.behind_domain, show ∀ pol, (s.behind w l).standbyMayAdopt v p pol = s.standbyMayAdopt v p pol from fun _ => rfl]
  cases (s.domain b.domain).policy.orphanAction with
  | remove => cases b.cls <;> simp [State.orphanRemove, State.orphanHold]
  | hold => simp [State.orphanHold]
  | adopt =>
    simp only [apply_ite (State.behind · w l)]
    simp [State.orphanHold, State.orphanAdopt]

theorem orphanSlot_behind (v : View) (p : Port) (f : List Nat) (i : Nat) :
    orphanSlot v p f i (s.behind w l) = (orphanSlot v p f i s).behind w l := by
  refine s.readBinding_behind w l (fun b s => ?_) f i
  cases b.tenure with
  | orphaned => rfl
  | bound o => simp only [State.behind_examine, State.orphanAction_behind, apply_ite (State.behind · w l)]
  | transfer g x =>
    simp only [State.behind_entry]
    cases s.entry x with
    | none => rfl
    | some e =>
      simp only [State.behind_examine, apply_ite (State.behind · w l)]
      unfold State.settleLostGiver State.settleLostTaker
      simp only [State.behind_takerRefusal]
      cases s.examine.takerRefusal v e <;> simp [State.orphanAction_behind]

end

end Sys2Proof.Machine
end

section
/-! SUPPORT. The delivery of reports, and what it does not see (R15, R160, R189). -/

namespace Sys2Proof.Machine

/-! ### A change that delivery passes by -/

/-- A change of the state that delivery passes by, in states with the ports `π`: it leaves the notice queues and who receives
what as they are, and goes together with queueing and with the counting of the counters `cs`. -/
structure Passes (π : PerPort PortController) (φ : State → State) (cs : CounterId → Prop) : Prop where
  noticePort : ∀ w q, (φ w).noticePort q = w.noticePort q
  receives : ∀ w a q, w.ports = π → (φ w).receives a q = w.receives a q
  modifyNotices : ∀ w p f, (φ w).modifyNotices p f = φ (w.modifyNotices p f)
  bump : ∀ w c, cs c → (φ w).bump c = (φ (w.bump c).1, (w.bump c).2)
  lost : ∀ q, cs (.port q .noticesLost)

section
variable {π : PerPort PortController} {φ : State → State} {cs : CounterId → Prop}

theorem Passes.offerCopy (h : Passes π φ cs) (w : State) (n : Notice) (p : Port) :
    (φ w).offerCopy n p = (φ (w.offerCopy n p).1, (w.offerCopy n p).2) := by
  unfold State.offerCopy
  rw [h.noticePort]
  split
  · rw [h.modifyNotices]
  · simp only [h.modifyNotices, h.bump _ _ (h.lost p)]

theorem Passes.offerCopies (h : Passes π φ cs) {w : State} (hw : w.ports = π) (a : Audience) (n : Notice) (l : List Port) :
    (φ w).offerCopies a n l = (φ (w.offerCopies a n l).1, (w.offerCopies a n l).2) := by
  induction l generalizing w with
  | nil => rfl
  | cons p rest ih =>
    unfold State.offerCopies
    rw [h.receives w a p hw]
    split
    · simp only [h.offerCopy, ih (w := (w.offerCopy n p).1) (by simpa using hw)]
    · exact ih hw

theorem Passes.handOver (h : Passes π φ cs) {w : State} (hw : w.ports = π) (k : Nat) (l : List (Audience × Notice)) :
    (φ w).handOver k l = φ (w.handOver k l) := by
  induction k generalizing w l with
  | zero => rfl
  | succ k ih =>
    cases l with
    | nil => rfl
    | cons x rest =>
      simp only [State.handOver, h.offerCopies hw]
      exact ih (by simpa using hw) _

/-- Delivery goes together with a change that it passes by. -/
theorem Passes.deliver (h : Passes π φ cs) {w : State} (hw : w.ports = π) {r : Report} (hr : ∀ c, r = .count c → cs c) :
    (φ w).deliver r = φ (w.deliver r) := by
  cases r with
  | notice a n => exact h.handOver hw 5 _
  | count c =>
    unfold State.deliver State.count
    simp only [h.bump w c (hr c rfl)]
    split
    · exact h.handOver (by simpa using hw) 5 _
    · rfl

theorem Passes.deliverAll (h : Passes π φ cs) {w : State} (hw : w.ports = π) {l : List Report}
    (hl : ∀ c, .count c ∈ l → cs c) : l.foldl State.deliver (φ w) = φ (l.foldl State.deliver w) := by
  induction l generalizing w with
  | nil => rfl
  | cons r rest ih =>
    rw [List.foldl_cons, List.foldl_cons, h.deliver hw fun c hc => hl c (hc ▸ List.mem_cons_self)]
    exact ih (by cases r <;> simpa [State.deliver] using hw) fun c hc => hl c (List.mem_cons_of_mem _ hc)

end

/-! ### The units behind another state -/

/-- Two states in which the same ports receive the same notices. -/
def State.SameAudience (s : State) (π : PerPort PortController) : Prop :=
  ∀ q, (s.port q).session = (π.get q).session ∧ (s.port q).subscriptions = (π.get q).subscriptions

theorem State.behind_passes {s : State} {π : PerPort PortController} (h : s.SameAudience π) :
    Passes π (fun w => s.behind w []) fun _ => True where
  noticePort _ _ := rfl
  receives w a q hw := by
    have haud : ∀ r, ((s.behind w []).port r).session = (w.port r).session
        ∧ ((s.behind w []).port r).subscriptions = (w.port r).subscriptions := fun r => by
      rw [State.port, State.port, hw]
      exact h r
    simp only [State.receives, State.online, haud]
  modifyNotices _ _ _ := rfl
  bump _ c _ := by cases c <;> rfl
  lost _ := trivial

theorem PortCounters.ext_get {a b : PortCounters} (h : ∀ n, a.get n = b.get n) : a = b := by
  cases a
  cases b
  simp only [PortCounters.mk.injEq]
  exact ⟨h .requests, h .refusals, h .resolveHits, h .resolveMisses, h .claims, h .throttled, h .overruns, h .frameErrors,
    h .noticesSent, h .noticesLost⟩

theorem DeviceCounters.ext_get {a b : DeviceCounters} (h : ∀ n, a.get n = b.get n) : a = b := by
  cases a
  cases b
  simp only [DeviceCounters.mk.injEq]
  exact ⟨h .expiries, h .orphansRemoved, h .orphansHeld, h .orphansAdopted, h .transfersGranted, h .transfersEnded,
    h .slotFaults, h .sweepPasses⟩

theorem State.counters_ext {s t : State} (h : ∀ c, s.counter c = t.counter c) :
    s.portCounters = t.portCounters ∧ s.deviceCounters = t.deviceCounters :=
  ⟨PerPort.ext_get fun p => PortCounters.ext_get fun n => h (.port p n), DeviceCounters.ext_get fun n => h (.device n)⟩

theorem State.setCounter_comm (s : State) {c m : CounterId} (h : c ≠ m) (x y : Count32) :
    (s.setCounter m x).setCounter c y = (s.setCounter c y).setCounter m x := by
  have two (u : State) (c m : CounterId) (x y : Count32) : (u.setCounter m x).setCounter c y
      = (u.withPortCounters ((u.setCounter m x).setCounter c y).portCounters).withDeviceCounters
        ((u.setCounter m x).setCounter c y).deviceCounters := by
    cases c <;> cases m <;> rfl
  obtain ⟨hp, hd⟩ := State.counters_ext (s := (s.setCounter m x).setCounter c y) (t := (s.setCounter c y).setCounter m x)
    fun e => by
      simp only [State.counter_setCounter]
      by_cases hc : e = c
      · rw [if_pos hc, if_neg (hc ▸ h), if_pos hc]
      · rw [if_neg hc, if_neg hc]
  rw [two, two s m c, hp, hd]

/-- A change of a counter that no report counts. -/
theorem State.setCounter_passes (π : PerPort PortController) (m : CounterId) (x : Count32) (hm : ∀ q, m ≠ .port q .noticesLost) :
    Passes π (fun w => w.setCounter m x) (· ≠ m) where
  noticePort w q := by cases m <;> rfl
  receives w a q _ := by cases m <;> rfl
  modifyNotices w p f := by cases m <;> rfl
  bump w c hc := by
    simp only [State.bump, State.counter_setCounter, if_neg hc, State.setCounter_comm w hc]
  lost q := (hm q).symm

/-- A whole grant behind two backlogs that come to the same in the units. -/
theorem State.behind_advance {s w u : State} {l m : List Report} {g : Grant} {e : Ending} (hg : s.grant = some g)
    (he : g.ending = some e) (ha : s.SameAudience w.ports) (hp : u.ports = w.ports)
    (hn : (l.foldl State.deliver w).notices = (m.foldl State.deliver u).notices)
    (hc : (l.foldl State.deliver w).portCounters = (m.foldl State.deliver u).portCounters)
    (hd : (l.foldl State.deliver w).deviceCounters = (m.foldl State.deliver u).deviceCounters) :
    (s.behind w l).advance none = (s.behind u m).advance none := by
  have whole (w : State) (l : List Report) (ha : s.SameAudience w.ports) :
      (l ++ g.reports).foldl State.deliver (s.behind w l)
        = (g.reports.foldl State.deliver (s.behind (l.foldl State.deliver w) [])).withGrant
            (some { g with reports := l ++ g.reports }) := by
    have hw : s.behind w l = (s.behind w []).withGrant (some { g with reports := l ++ g.reports }) := by
      simp [State.behind, State.withGrant, hg]
    rw [hw, State.deliverAll_withGrant, List.foldl_append,
      (State.behind_passes ha).deliverAll rfl fun _ _ => trivial]
  have hunits : s.behind (l.foldl State.deliver w) [] = s.behind (m.foldl State.deliver u) [] := by
    simp only [State.behind, hn, hc, hd]
  have grant (w : State) (l : List Report) : (s.behind w l).grant = some { g with reports := l ++ g.reports } := by
    simp [State.behind, hg]
  rw [State.advance_none (grant w l) he, State.advance_none (grant u m) he, whole w l ha, whole u m (hp.symm ▸ ha), hunits]
  rfl

/-- A count that does not reach half range goes together with reports that do not count it (R188, R190). -/
theorem State.count_deliverAll {s : State} {m : CounterId} {l : List Report} (hm : ∀ q, m ≠ .port q .noticesLost)
    (hh : s.counter m + 1 ≠ halfRange) (hl : .count m ∉ l) :
    l.foldl State.deliver (s.count m) = (l.foldl State.deliver s).count m := by
  have hval : (l.foldl State.deliver s).counter m = s.counter m := by
    rw [State.deliverAll_counter s l hm, List.count_eq_zero.2 hl]
    simp
  have hcount : ∀ w : State, w.counter m = s.counter m → w.count m = w.setCounter m (s.counter m + 1) := fun w hw => by
    have hb : (w.bump m).2 = false := by simpa [State.bump, hw] using hh
    simp only [State.count, hb, Bool.false_eq_true, if_false]
    rw [State.bump, hw]
  rw [hcount s rfl, hcount _ hval]
  exact (State.setCounter_passes s.ports m (s.counter m + 1) hm).deliverAll rfl fun c hc hcm => hl (hcm ▸ hc)

end Sys2Proof.Machine
end

section
/-! SUPPORT. A slot that fails its check, and what its grant hands over (R18 to R21). -/

namespace Sys2Proof.Machine

/-! ### What a failure reports -/

/-- The reports with which the transfer of a binding that is lost ends (R8, R19). -/
def State.endReports (s : State) (b : Binding) : List Report :=
  match b.tenure with
  | .transfer _ x => ((s.entry x).map fun e => transferReports x e .removed b).getD []
  | .bound _ => []
  | .orphaned => []

/-- The reports of the loss of a binding (R19 steps 3 and 4). -/
def State.lossReports (s : State) (i : Nat) (b : Binding) : List Report :=
  s.endReports b
    ++ [.notice (faultAudience b.tenure.owner) (.bindingGone .fault b.domain b.key b.tenure.owner b.handle i)]

/-- The reports of the failed check of a slot (R19). -/
def State.faultReports (s : State) (i : Nat) : List Report :=
  (((s.slot i).binding?).map (s.lossReports i)).getD []
    ++ [.notice (.subscribers .slotFault) (.slotFault i), .count (.device .slotFaults)]

/-- A FREE or OCCUPIED slot, which a check can fail (R18). -/
def State.MayFail (s : State) (i : Nat) : Prop := s.slot i = .free ∨ ∃ b, s.slot i = .occupied b

section
variable {s t : State} {i : Nat} {b : Binding}

theorem State.endTransferOf_tells (s : State) (b : Binding) : s.Appends (s.endTransferOf b .removed) (s.endReports b) := by
  unfold State.endTransferOf State.endReports
  cases hb : b.tenure with
  | transfer g x =>
    simp only
    cases he : s.entry x with
    | some e => exact s.endTransfer_appends x e .removed b
    | none => exact .of_eq rfl
  | bound | orphaned => exact .of_eq rfl

theorem State.slotFails_occupied (hi : s.slot i = .occupied b) : s.slotFails i
    = ((((s.writeSlot i .defective).modifyDefective (· + 1)).loseBinding i b).reportSlotFault i) := by
  simp [State.slotFails, hi]

theorem State.slotFails_empty (hi : ∀ b, s.slot i ≠ .occupied b) : s.slotFails i
    = (((s.writeSlot i .defective).modifyDefective (· + 1)).reportSlotFault i) := by
  unfold State.slotFails
  dsimp only
  split
  next b hb => exact absurd hb (hi b)
  all_goals rfl

theorem State.slotFails_appends (s : State) (i : Nat) : s.Appends (s.slotFails i) (s.faultReports i) := by
  by_cases h : ∃ b, s.slot i = .occupied b
  · obtain ⟨b, hi⟩ := h
    have hend : s.Appends ((((s.writeSlot i .defective).modifyDefective (· + 1)).countRemoval b).endTransferOf b .removed)
        (s.endReports b) := by
      have hsame : (((s.writeSlot i .defective).modifyDefective (· + 1)).countRemoval b).endReports b = s.endReports b := by
        simp [State.endReports, State.entry]
      rw [← hsame]
      exact (State.Appends.of_eq (by simp)).trans (State.endTransferOf_tells _ b)
    rw [State.slotFails_occupied hi, State.faultReports, hi]
    have hall := ((hend.report (.notice (faultAudience b.tenure.owner)
      (.bindingGone .fault b.domain b.key b.tenure.owner b.handle i))).report
        (.notice (.subscribers .slotFault) (.slotFault i))).report (.count (.device .slotFaults))
    simpa [State.loseBinding, State.reportSlotFault, State.lossReports, Slot.binding?, State.notifyInGrant,
      State.countInGrant] using hall
  · have hno : ∀ b, s.slot i ≠ .occupied b := fun b hb => h ⟨b, hb⟩
    have hnone : (s.slot i).binding? = none := by
      cases hs : s.slot i with
      | occupied b => exact absurd hs (hno b)
      | undefined | free | defective => rfl
    rw [State.slotFails_empty hno, State.faultReports, hnone]
    exact ((State.Appends.of_eq (by rfl)).report _).report _

/-- The entries after a failed check: that of the lost binding's transfer is freed (R19, R73). -/
theorem State.slotFails_transfers_kept (h : ∀ b g x, s.slot i = .occupied b → b.tenure ≠ .transfer g x) :
    (s.slotFails i).transfers = s.transfers := by
  by_cases hi : ∃ b, s.slot i = .occupied b
  · obtain ⟨b, hi⟩ := hi
    rw [State.slotFails_occupied hi]
    unfold State.loseBinding State.reportSlotFault State.endTransferOf
    cases hb : b.tenure with
    | transfer g x => exact absurd hb (h b g x hi)
    | bound | orphaned => simp
  · rw [State.slotFails_empty fun b hb => hi ⟨b, hb⟩]
    rfl

theorem State.slotFails_transfers_freed {g : Port} {x : TransferIndex} {e : Transfer} (hi : s.slot i = .occupied b)
    (hb : b.tenure = .transfer g x) (he : s.entry x = some e) : (s.slotFails i).transfers = (s.freeEntry x).transfers := by
  have he' : (((s.writeSlot i .defective).modifyDefective (· + 1)).countRemoval b).entry x = some e := by
    rw [← he]
    simp [State.entry]
  rw [State.slotFails_occupied hi]
  unfold State.loseBinding State.reportSlotFault State.endTransferOf
  simp only [hb, he']
  simp [State.endTransfer, State.freeEntry, State.setEntry]

theorem State.endReports_cases (s : State) (b : Binding) :
    s.endReports b = [] ∨ ∃ x e, s.endReports b = transferReports x e .removed b := by
  unfold State.endReports
  cases b.tenure with
  | transfer g x =>
    cases he : s.entry x with
    | none => exact .inl (by simp [he])
    | some e => exact .inr ⟨x, e, by simp [he]⟩
  | bound | orphaned => exact .inl rfl

/-- How often the failure of a slot counts SLOT_FAULTS and TRANSFERS_ENDED (R19, R73). -/
theorem State.faultReports_slotFaults (s : State) (i : Nat) : countsOf .slotFaults (s.faultReports i) = 1 := by
  unfold State.faultReports State.lossReports
  cases (s.slot i).binding? with
  | none => simp [countsOf]
  | some b =>
    rcases s.endReports_cases b with h | ⟨x, e, h⟩ <;>
      simp [countsOf, h, transferReports, TransferOutcome.counter]

theorem State.faultReports_ended {g : Port} {x : TransferIndex} {e : Transfer} (hi : s.slot i = .occupied b)
    (hb : b.tenure = .transfer g x) (he : s.entry x = some e) : countsOf .transfersEnded (s.faultReports i) = 1 := by
  simp [State.faultReports, State.lossReports, State.endReports, hi, Slot.binding?, hb, he, countsOf, transferReports,
    TransferOutcome.counter]

theorem State.faultReports_kept (h : ∀ b g x, s.slot i = .occupied b → b.tenure ≠ .transfer g x) :
    countsOf .transfersEnded (s.faultReports i) = 0 := by
  unfold State.faultReports State.lossReports State.endReports
  cases hi : s.slot i with
  | occupied b =>
    cases hb : b.tenure with
    | transfer g x => exact absurd hb (h b g x hi)
    | bound | orphaned => simp [Slot.binding?, countsOf, hb]
  | undefined | free | defective => simp [Slot.binding?, countsOf]

/-- A failure counts nothing of a port (R19). -/
theorem State.faultReports_port (s : State) (i : Nat) (p : Port) (n : PortCounter) :
    Report.count (.port p n) ∉ s.faultReports i := by
  unfold State.faultReports State.lossReports
  cases (s.slot i).binding? with
  | none => simp
  | some b =>
    rcases s.endReports_cases b with h | ⟨x, e, h⟩ <;> simp [h, transferReports, TransferOutcome.counter]

/-! ### What a failure comes to -/

/-- The notices of a failed check reach those they are for (R19 steps 3 to 5). -/
theorem State.TellsSlotFault.of (hq : ∀ a n q, .notice a n ∈ s.faultReports i →
    ((s.port q).session = .online → s.receives a q = true) → s.Queues t q n) : s.TellsSlotFault t i where
  fault q hs := hq (.subscribers .slotFault) _ q (by simp [State.faultReports]) fun ho => State.receives_subscribers ho hs
  owner b o hi ho := by
    refine hq (.ownerAndSubscribers o .bindingGone) _ o ?_ fun hon => by simp [State.receives, State.online, hon]
    simp [State.faultReports, State.lossReports, hi, Slot.binding?, ho, faultAudience]
  subscribers b hi q hs := by
    refine hq (faultAudience b.tenure.owner) _ q ?_ fun hon => ?_
    · simp [State.faultReports, State.lossReports, hi, Slot.binding?]
    · cases ho : b.tenure.owner <;> simp [faultAudience, State.receives, State.online, hon, hs]
  parties b g x e hi hb he := by
    have hmem : ∀ r ∈ transferReports x e .removed b, r ∈ s.faultReports i := fun r hr => by
      simp [State.faultReports, State.lossReports, State.endReports, hi, Slot.binding?, hb, he, hr]
    exact ⟨hq _ _ _ (hmem _ (by simp [transferReports])) State.receives_directed,
      hq _ _ _ (hmem _ (by simp [transferReports])) State.receives_directed⟩

/-- A state with the store after the failure, the counts and the notices of it (R12, R19, R21). -/
theorem State.LosesSlot.of (hs : s.directory.wf = true) (hi : s.MayFail i) (hd : t.directory = (s.slotFails i).directory)
    (hdom : t.domains = (s.slotFails i).domains) (htr : t.transfers = (s.slotFails i).transfers)
    (hc : ∀ n, n = .slotFaults ∨ n = .transfersEnded →
      t.counter (.device n) = s.counter (.device n) + BitVec.ofNat 32 (countsOf n (s.faultReports i)))
    (hq : ∀ a n q, .notice a n ∈ s.faultReports i → ((s.port q).session = .online → s.receives a q = true) →
      s.Queues t q n) : s.LosesSlot t i := by
  have hslot (j : Nat) : t.slot j = if j = i then .defective else s.slot j := by
    rw [State.slot, hd]
    exact State.slotFails_slot hs hi j
  have hempty (h : s.slot i = .free) : s.slotFails i = (((s.writeSlot i .defective).modifyDefective (· + 1)).reportSlotFault i) :=
    State.slotFails_empty (by simp [h])
  have hdef : t.directory.defectiveCount = s.directory.defectiveCount + 1 := by
    rw [hd]
    rcases hi with h | ⟨b, h⟩
    · rw [hempty h]
      rfl
    · rw [State.slotFails_directory h]
      unfold State.countRemoval
      split <;> rfl
  have lost {b : Binding} (h : s.slot i = .occupied b) :
      t.directory = (((s.writeSlot i .defective).modifyDefective (· + 1)).countRemoval b).directory
        ∧ ∀ d, t.domain d = (((s.writeSlot i .defective).modifyDefective (· + 1)).countRemoval b).domain d :=
    ⟨hd.trans (State.slotFails_directory h), fun d => by rw [State.domain, hdom, State.slotFails_domains h, State.domain]⟩
  have counts {b : Binding} (h : s.slot i = .occupied b) (n : Nat)
      (hn : (if b.tenure.owner = none then (s.domain b.domain).orphans - 1 else (s.domain b.domain).orphans) = n) :
      s.DomainCounts t b.domain ((s.domain b.domain).count - 1) n := by
    have hdm := fun e => ((lost h).2 e).trans (State.countRemoval_domain _ b e)
    refine ⟨(hdm b.domain).trans ?_, fun e he => (hdm e).trans ?_⟩
    · rw [if_pos rfl, ← hn]
      rfl
    · rw [if_neg he]
      rfl
  refine ⟨by rw [hslot, if_pos rfl], fun j hj => by rw [hslot, if_neg hj], ?_, hdef, ?_, .of hq, fun h => ?_,
    fun b h q => ?_, fun b h ho => ?_, fun b h ho => ?_, fun b g x e h hb he => ?_, fun h => ?_⟩
  · rw [State.faultPin, hdef]
    simp
  · rw [hc _ (.inl rfl), State.faultReports_slotFaults]
    rfl
  · rw [hempty h] at hd hdom
    exact ⟨fun q => by rw [State.owned, hd]; rfl, by rw [hd]; rfl, hdom⟩
  · rw [State.owned, (lost h).1]
    exact State.countRemoval_owned _ b q
  · refine ⟨?_, counts h _ (by rw [ho]; rfl)⟩
    rw [(lost h).1]
    refine (State.countRemoval_orphanTotal _ b).trans ?_
    rw [ho]
    rfl
  · have hown : b.tenure.owner ≠ none := by cases hb : b.tenure <;> simp [hb, Tenure.owner] at ho ⊢
    refine ⟨?_, counts h _ (if_neg hown)⟩
    rw [(lost h).1]
    refine (State.countRemoval_orphanTotal _ b).trans ?_
    rw [if_neg hown]
    rfl
  · have hfreed : t.transfers = (s.freeEntry x).transfers := htr.trans (State.slotFails_transfers_freed h hb he)
    have hent (y : TransferIndex) : t.entry y = if y = x then none else s.entry y := by
      rw [State.entry, hfreed]
      exact State.freeEntry_entry s x y
    refine ⟨by rw [hent, if_pos rfl], fun y hy => by rw [hent, if_neg hy], ?_, ?_⟩
    · rw [hfreed, State.freeEntry_expiryList]
      simp
    · rw [hc _ (.inr rfl), State.faultReports_ended h hb he]
      rfl
  · refine ⟨htr.trans (State.slotFails_transfers_kept h), ?_⟩
    rw [hc _ (.inr rfl), State.faultReports_kept h]
    simp

end

end Sys2Proof.Machine
end

section
/-! SUPPORT. The requests that meet one failed slot and end there, and the expiry resolution that does (R18, R19, R48, R82, R86). -/

namespace Sys2Proof.Machine

/-! ### Lookups past a failed slot -/

section
variable {s : State} {f l : List Nat} {i : Nat} {d : DomainId} {k : Key} {b : Binding}

/-- A lookup whose OCCUPIED slots pass their checks and hold other identifiers. -/
theorem State.lookupIn_passes (h : ∀ j ∈ l, ∀ c, s.slot j = .occupied c → j ∉ f ∧ ¬ c.Holds d k) :
    s.lookupIn f d k l = (s, none) := by
  induction l with
  | nil => rfl
  | cons j rest ih =>
    have ih := ih fun m hm => h m (List.mem_cons_of_mem _ hm)
    unfold State.lookupIn
    cases hj : s.slot j with
    | occupied c =>
      obtain ⟨hf, hc⟩ := h j List.mem_cons_self c hj
      have hc' : ¬ (c.domain = d ∧ c.key = k) := hc
      simpa [hf, hc'] using ih
    | undefined | free | defective => exact ih

/-- A lookup that meets a failed slot goes on as if the slot had been DEFECTIVE from the start (R18, R19). -/
theorem State.lookupIn_fails (hs : s.directory.wf = true) (hi : s.slot i = .occupied b) (hf : i ∈ f)
    (hl : l.Pairwise (· < ·)) (hm : i ∈ l)
    (h : ∀ j ∈ l, j < i → ∀ c, s.slot j = .occupied c → j ∉ f ∧ ¬ c.Holds d k) :
    s.lookupIn f d k l = (s.slotFails i).lookupIn f d k l := by
  induction l with
  | nil => exact absurd hm List.not_mem_nil
  | cons j rest ih =>
    obtain ⟨hj, hrest⟩ := List.pairwise_cons.1 hl
    have hslot := State.slotFails_slot hs (.inr ⟨b, hi⟩) j
    rcases List.mem_cons.1 hm with rfl | hin
    · rw [if_pos rfl] at hslot
      simp [State.lookupIn, hi, hf, hslot]
    · have hlt := hj i hin
      have ih := ih hrest hin fun m hm => h m (List.mem_cons_of_mem _ hm)
      rw [if_neg (Nat.ne_of_lt hlt)] at hslot
      unfold State.lookupIn
      rw [hslot]
      cases hc : s.slot j with
      | occupied c =>
        obtain ⟨hnf, hno⟩ := h j List.mem_cons_self hlt c hc
        have hno' : ¬ (c.domain = d ∧ c.key = k) := hno
        simpa [hnf, hno'] using ih
      | undefined | free | defective => exact ih

theorem State.slotFails_slotsOf (s : State) (i : Nat) (d : DomainId) (k : Key) :
    (s.slotFails i).slotsOf d k = s.slotsOf d k := by
  simp [State.slotsOf]

/-- The lookup of an identifier whose binding is lost in it (R6, R19). -/
theorem State.lookup_lost (hs : s.directory.wf = true) (hm : i ∈ s.slotsOf d k) (hi : s.slot i = .occupied b) (hf : i ∈ f)
    (h : ∀ j ∈ s.slotsOf d k, j ≠ i → j ∉ f ∧ ∀ c, s.slot j = .occupied c → ¬ c.Holds d k) :
    s.lookup f d k = (s.slotFails i, none) := by
  have hfirst : ∀ j ∈ s.slotsOf d k, j < i → ∀ c, s.slot j = .occupied c → j ∉ f ∧ ¬ c.Holds d k := fun j hj hlt c hc =>
    ⟨(h j hj (Nat.ne_of_lt hlt)).1, (h j hj (Nat.ne_of_lt hlt)).2 c hc⟩
  rw [State.lookup,
    State.lookupIn_fails hs hi hf (show (s.slotsOf d k).Pairwise (· < ·) from bucketSlots_rising _) hm hfirst]
  refine State.lookupIn_passes fun j hj c hc => ?_
  have hslot := State.slotFails_slot hs (.inr ⟨b, hi⟩) j
  by_cases hji : j = i
  · rw [if_pos hji, hc] at hslot
    cases hslot
  · rw [if_neg hji, hc] at hslot
    exact ⟨(h j hj hji).1, (h j hj hji).2 c hslot.symm⟩

end

/-! ### A request that meets a failed slot and ends there -/

theorem State.slotFails_changes (s : State) (i : Nat) :
    s.ChangesOnly (s.slotFails i) [.directory, .domains, .transfers, .arbiter] := fun x hx => by
  cases x <;> simp [State.Same] at hx ⊢

/-- The failure of a slot, and further reports behind its own. -/
def State.failsAnd (s : State) (i : Nat) (m : List Report) : State := m.foldl State.report (s.slotFails i)

theorem State.reportAll_changes (s : State) (m : List Report) : s.ChangesOnly (m.foldl State.report s) [.arbiter] := by
  induction m generalizing s with
  | nil => exact .refl s _
  | cons r rest ih =>
    have hr : s.ChangesOnly (s.report r) [.arbiter] := fun x hx => by cases x <;> simp [State.Same] at hx ⊢
    exact (hr.trans (ih (s.report r))).mono (by simp)

theorem State.reportAll_appends (s : State) (m : List Report) : s.Appends (m.foldl State.report s) m := by
  induction m generalizing s with
  | nil => exact .of_eq rfl
  | cons r rest ih => exact (show s.Appends (s.report r) [r] from rfl).trans (ih (s.report r))

section
variable {s : State} {i : Nat}

/-- What a delivery of the reports of a failure makes of a state is what the failure comes to. -/
theorem State.LosesSlot.of_changes {t : State} {m : List Report} (hs : s.directory.wf = true) (hi : s.MayFail i)
    (ht : (s.slotFails i).ChangesOnly t [.arbiter, .ports, .notices, .portCounters, .deviceCounters])
    (hm : ∀ n, Report.count (.device n) ∉ m)
    (hc : ∀ n, t.counter (.device n)
      = s.counter (.device n) + BitVec.ofNat 32 ((s.faultReports i ++ m).count (.count (.device n))))
    (hq : ∀ a n q, .notice a n ∈ s.faultReports i ++ m → ((s.port q).session = .online → s.receives a q = true) →
      s.Queues t q n) : s.LosesSlot t i :=
  .of hs hi (ht .directory (by simp)) (ht .domains (by simp)) (ht .transfers (by simp))
    (fun n _ => by rw [hc, List.count_append, List.count_eq_zero.2 (hm n)]; rfl)
    fun a n q hn => hq a n q (List.mem_append_left _ hn)

/-- A request that meets a failed slot and ends there. -/
theorem State.InGrant.fails {p : Port} {v : View} {rq : RequestFrame} {c : Instr} {act : State → Reply} {st : Status}
    {res : Result} {failing : List Nat} {m : List Report} (hin : s.InGrant p v rq) (h : GrantedAct p v rq c none act)
    (hc : c = rq.body.row p ⟨failing, none⟩) (hs : s.directory.wf = true) (hi : s.MayFail i)
    (hm : ∀ n, Report.count (.device n) ∉ m) (ha : act s = ⟨s.failsAnd i m, st, res⟩) :
    ∃ t, exec c s = .next t ∧ s.Answers t p rq st res ∧ s.LosesSlot t i
      ∧ s.Course (s.failsAnd i m) t (s.faultReports i ++ m) p rq st res
      ∧ s.ChangesOnly t [.directory, .arbiter, .domains, .transfers, .ports, .notices, .portCounters, .deviceCounters] := by
  have hch : (s.slotFails i).ChangesOnly (s.failsAnd i m) [.arbiter] := State.reportAll_changes _ m
  have hg : (s.failsAnd i m).grant = some ⟨.executor p, v, s.faultReports i ++ m, none⟩ := by
    have happ := (s.slotFails_appends i).trans (State.reportAll_appends _ m)
    simpa [State.Appends, hin.grant, Grant.fresh, State.failsAnd] using happ
  have hports : (s.failsAnd i m).ports = s.ports := (hch .ports (by simp)).trans (by simp)
  obtain ⟨t, hrun, hcourse⟩ := hin.course h hc ha hg
  refine ⟨t, hrun, hcourse.answers hports, .of_changes hs hi ((hch.trans hcourse.after).mono (by simp)) hm
    (fun n => hcourse.counted (by simp) (by simp)) hcourse.hands, hcourse,
    (hcourse.changes ((s.slotFails_changes i).trans hch)).mono (by simp)⟩

/-- READ_SLOT of a slot that fails its check (R48). -/
theorem readSlotReply_fails {f : List Nat} (hi : s.MayFail i) (hf : i ∈ f) :
    readSlotReply i f s = ⟨s.failsAnd i [], .ok, .slotRecord i .defective⟩ := by
  unfold readSlotReply
  rcases hi with h | ⟨b, h⟩ <;> simp [h, hf, State.failsAnd]

/-- A request that looks up an identifier, no CLAIM, answers MISS for a binding that is lost (R19). -/
theorem State.LooksUp.miss_of_lost {p : Port} {v : View} {rq : RequestFrame} {f : List Nat} {d : DomainId} {k : Key}
    (h : s.LooksUp p d k rq.body) (hnc : ∀ n h pin force, rq.body ≠ .claim n k h pin force)
    (hcl : ∀ n h, rq.body = .resolve n k true h → (s.domain d).policy.autoClaim = false)
    (hl : s.lookup f d k = (s.slotFails i, none)) :
    ∃ act m, GrantedAct p v rq (rq.body.row p ⟨f, none⟩) none act ∧ (∀ n, Report.count (.device n) ∉ m)
      ∧ act s = ⟨s.failsAnd i m, .miss, .none⟩ := by
  cases hb : rq.body with
  | resolve n k' cl handle =>
    rw [hb] at h
    cases h with
    | resolve _ _ _ hd he =>
      refine ⟨_, [.count (.port p .resolveMisses)], .resolve ⟨f, none⟩ n k cl handle hb, by simp, ?_⟩
      have hno : (cl && (s.domain d).policy.autoClaim) = false := by
        cases cl with
        | false => rfl
        | true => simp [hcl n handle hb]
      simp [resolveReply, hd, he, hl, hno, refuse, State.failsAnd, State.countInGrant]
  | claim n k' hd pin force =>
    rw [hb] at h
    cases h with
    | claim => exact absurd hb (hnc n hd pin force)
  | release n k' =>
    rw [hb] at h
    cases h with
    | release _ hd he =>
      exact ⟨_, [], .release ⟨f, none⟩ n k hb, by simp, by simp [releaseReply, hd, he, hl, refuse, State.failsAnd]⟩
  | touch n k' =>
    rw [hb] at h
    cases h with
    | touch _ hd he =>
      exact ⟨_, [], .touch ⟨f, none⟩ n k hb, by simp, by simp [touchReply, hd, he, hl, refuse, State.failsAnd]⟩
  | handoverAsk n k' hd =>
    rw [hb] at h
    cases h with
    | ask _ _ hd he =>
      exact ⟨_, [], .ask ⟨f, none⟩ n k _ hb, by simp, by simp [askReply, hd, he, hl, refuse, State.failsAnd]⟩
  | _ =>
    rw [hb] at h
    cases h

/-- A HANDOVER_REPLY of the giver whose binding is lost (R82). -/
theorem replyToTransfer_fails {p : Port} {x : TransferIndex} {f : List Nat} {e : Transfer} {b : Binding}
    (settle : Transfer → Binding → State → Reply) (he : s.entry x = some e) (hg : e.giver = p) (hslot : e.slot = i)
    (hi : s.slot i = .occupied b) (hf : i ∈ f) :
    replyToTransfer p x f s settle = ⟨s.failsAnd i [], .invalid, .none⟩ := by
  simp [replyToTransfer, he, hg, hslot, hi, hf, refuse, State.failsAnd]

theorem handoverReply_act {p : Port} {v : View} {rq : RequestFrame} {f : List Nat} {x decision : Nat}
    (hb : rq.body = .handoverReply x decision) (hd : decision = 1 ∨ decision = 2) :
    ∃ settle, GrantedAct p v rq (rq.body.row p ⟨f, none⟩) none (fun t => replyToTransfer p (asIndex x) f t settle) := by
  rcases hd with rfl | rfl
  · exact ⟨_, by simpa [hb, Request.row] using GrantedAct.replyGrant (p := p) (v := v) ⟨f, none⟩ x 1 hb⟩
  · exact ⟨_, by simpa [hb, Request.row] using GrantedAct.replyRefuse (p := p) (v := v) ⟨f, none⟩ x hb⟩

/-- An expiry resolution whose binding is lost ends with no further effect (R86). -/
theorem exec_expiryResolution_fails {v : View} {f : List Nat} {x : TransferIndex} {rest : List TransferIndex} {e : Transfer}
    {b : Binding} (hs : s.directory.wf = true) (hg : s.grant = some (.fresh .transferController v))
    (hq : s.transfers.expiryList = x :: rest) (he : s.entry x = some e) (hslot : e.slot = i) (hi : s.slot i = .occupied b)
    (hf : i ∈ f) :
    ∃ t, exec (.expiryResolution ⟨f, none⟩) s = .next t ∧ s.LosesSlot t i
      ∧ s.ChangesOnly t [.directory, .arbiter, .domains, .transfers, .notices, .portCounters, .deviceCounters] := by
  have hgr : (s.slotFails i).grant = some ⟨.transferController, v, s.faultReports i, none⟩ := by
    simpa [State.Appends, hg, Grant.fresh] using s.slotFails_appends i
  obtain ⟨t, hrun, hd, hch⟩ := exec_expiryResolution (u := s.slotFails i) (f := f) hg hq
    (by simp [resolveExpiry, he, hslot, hi, hf]) hgr
  refine ⟨t, hrun, .of hs (.inr ⟨b, hi⟩) hd.directory hd.domains hd.transfers (fun n _ => hd.counter _ (by simp))
    fun a n q hn hr => (hd.hands a n q hn hr).queues, ((s.slotFails_changes i).trans hch).mono (by simp)⟩

end

end Sys2Proof.Machine
end

section
/-! SUPPORT. The requests that meet a failed slot and go on (R18, R19): they end as from the state after the failure. -/

namespace Sys2Proof.Machine

/-! ### The state after a failure -/

/-- The state after the failure of a slot, its reports handed over (R19). -/
def State.failed (s : State) (i : Nat) : State :=
  { s.slotFails i with
    grant := s.grant
    notices := ((s.faultReports i).foldl State.deliver s).notices
    portCounters := ((s.faultReports i).foldl State.deliver s).portCounters
    deviceCounters := ((s.faultReports i).foldl State.deliver s).deviceCounters }

section
variable {s u : State} {i : Nat} {f l : List Nat} {d : DomainId} {k : Key}

theorem State.failed_ports (s : State) (i : Nat) : (s.failed i).ports = s.ports := by
  show (s.slotFails i).ports = s.ports
  simp

theorem State.failed_changes (s : State) (i : Nat) :
    s.ChangesOnly (s.failed i) [.directory, .domains, .transfers, .notices, .portCounters, .deviceCounters] := fun x hx => by
  cases x <;> simp [State.Same, State.failed] at hx ⊢

theorem State.failed_losesSlot (hs : s.directory.wf = true) (hi : s.MayFail i) : s.LosesSlot (s.failed i) i := by
  have hcount : ∀ c, (s.failed i).counter c = ((s.faultReports i).foldl State.deliver s).counter c :=
    State.counter_congr rfl rfl
  refine .of hs hi rfl rfl rfl (fun n _ => (hcount _).trans (State.deliverAll_counter s _ (by simp))) fun a n q hn hr => ?_
  have h := (State.deliverAll_hands (s := s) hn hr).queues
  intro ho
  exact h ho

theorem State.failed_wf (hs : s.directory.wf = true) (hi : s.MayFail i) : (s.failed i).directory.wf = true :=
  (State.slotFails_keeps hi).form hs

/-- The failure, its reports not handed over, is the state after it behind them. -/
theorem State.slotFails_eq_behind {client : Client} {v : View} (hg : s.grant = some (.fresh client v)) :
    s.slotFails i = (s.failed i).behind s (s.faultReports i) := by
  have happ : (s.slotFails i).grant = some ⟨client, v, s.faultReports i, none⟩ := by
    simpa [State.Appends, hg, Grant.fresh] using s.slotFails_appends i
  have heta : s.slotFails i = { s.slotFails i with
      grant := (s.slotFails i).grant
      notices := (s.slotFails i).notices
      portCounters := (s.slotFails i).portCounters
      deviceCounters := (s.slotFails i).deviceCounters } := rfl
  rw [heta, happ, (s.slotFails_frame i).2.2.2.2.2.1]
  simp [State.behind, State.failed, hg, Grant.fresh]

theorem State.behind_behind (s w x : State) (l m : List Report) : (s.behind w l).behind x m = s.behind x (m ++ l) := by
  cases hg : s.grant <;> simp [State.behind, hg]

theorem State.behind_self {w : State} (hn : w.notices = s.notices) (hp : w.portCounters = s.portCounters)
    (hd : w.deviceCounters = s.deviceCounters) : s.behind w [] = s := by
  cases hg : s.grant <;> simp [State.behind, hn, hp, hd]

/-! ### The readings of a slot that fails first -/

theorem State.slotFails_owned_of_free (hi : s.slot i = .free) (q : Port) : (s.slotFails i).owned q = s.owned q := by
  rw [State.slotFails_empty (by simp [hi])]
  rfl

theorem State.slotFails_domain_of_free (hi : s.slot i = .free) (d : DomainId) : (s.slotFails i).domain d = s.domain d := by
  rw [State.slotFails_empty (by simp [hi])]
  rfl

/-- An insertion that meets a failed slot first (R7, R18). -/
theorem State.freeWayIn_fails (hs : s.directory.wf = true) (hi : s.slot i = .free) (hf : i ∈ f)
    (hl : l.Pairwise (· < ·)) (hm : i ∈ l) (h : ∀ j ∈ l, j < i → s.slot j ≠ .free) :
    s.freeWayIn f l = (s.slotFails i).freeWayIn f l := by
  induction l with
  | nil => exact absurd hm List.not_mem_nil
  | cons j rest ih =>
    obtain ⟨hj, hrest⟩ := List.pairwise_cons.1 hl
    have hslot := State.slotFails_slot hs (.inl hi) j
    rcases List.mem_cons.1 hm with rfl | hin
    · rw [if_pos rfl] at hslot
      simp [State.freeWayIn, hi, hf, hslot]
    · have hlt := hj i hin
      have ih := ih hrest hin fun m hm => h m (List.mem_cons_of_mem _ hm)
      rw [if_neg (Nat.ne_of_lt hlt)] at hslot
      unfold State.freeWayIn
      rw [hslot]
      cases hc : s.slot j with
      | free => exact absurd hc (h j List.mem_cons_self hlt)
      | undefined | occupied | defective => exact ih

/-- A scan that meets a failed slot first (R18, R49). -/
theorem State.scanIn_fails {x : ScanFilter} {b : Binding} (hs : s.directory.wf = true) (hi : s.slot i = .occupied b) (hf : i ∈ f)
    (hl : l.Pairwise (· < ·)) (hm : i ∈ l)
    (h : ∀ j ∈ l, j < i → ∀ c, s.slot j = .occupied c → j ∉ f ∧ x.matches c = false) :
    s.scanIn f x l = (s.slotFails i).scanIn f x l := by
  induction l with
  | nil => exact absurd hm List.not_mem_nil
  | cons j rest ih =>
    obtain ⟨hj, hrest⟩ := List.pairwise_cons.1 hl
    have hslot := State.slotFails_slot hs (.inr ⟨b, hi⟩) j
    rcases List.mem_cons.1 hm with rfl | hin
    · rw [if_pos rfl] at hslot
      simp [State.scanIn, hi, hf, hslot]
    · have hlt := hj i hin
      have ih := ih hrest hin fun m hm => h m (List.mem_cons_of_mem _ hm)
      rw [if_neg (Nat.ne_of_lt hlt)] at hslot
      unfold State.scanIn
      rw [hslot]
      cases hc : s.slot j with
      | occupied c =>
        obtain ⟨hnf, hno⟩ := h j List.mem_cons_self hlt c hc
        simpa [hnf, hno] using ih
      | undefined | free | defective => exact ih

/-! ### The requests -/

/-- A request whose rule gives the same for two states, and does not see a backlog. -/
theorem State.LooksUp.act_eq {p : Port} {v : View} {rq : RequestFrame} (h : s.LooksUp p d k rq.body)
    (hp : (u.domain d).policy = (s.domain d).policy) (hl : s.lookup f d k = u.lookup f d k) :
    ∃ act, GrantedAct p v rq (rq.body.row p ⟨f, none⟩) none act
      ∧ (∀ x w l, act (State.behind x w l) = (act x).behind w l) ∧ act s = act u := by
  cases hb : rq.body with
  | resolve n k' cl handle =>
    rw [hb] at h
    cases h with
    | resolve _ _ _ hd he =>
      exact ⟨_, .resolve ⟨f, none⟩ n k cl handle hb, fun x w l => resolveReply_behind x w l _ _ _ _ _,
        by simp only [resolveReply, hd, hp, he, hl] <;> rfl⟩
  | claim n k' handle pin force =>
    rw [hb] at h
    cases h with
    | claim _ _ _ _ hd ha =>
      exact ⟨_, .claim ⟨f, none⟩ n k handle pin force hb, fun x w l => claimReply_behind x w l _ _ _ _,
        by simp [claimReply, hd, hp, ha.enabled, ha.policy.refusalFor, ha.pinned, hl]⟩
  | release n k' =>
    rw [hb] at h
    cases h with
    | release _ hd he =>
      exact ⟨_, .release ⟨f, none⟩ n k hb, fun x w l => releaseReply_behind x w l _ _ _ _ _,
        by simp only [releaseReply, hd, hp, he, hl] <;> rfl⟩
  | touch n k' =>
    rw [hb] at h
    cases h with
    | touch _ hd he =>
      exact ⟨_, .touch ⟨f, none⟩ n k hb, fun x w l => touchReply_behind x w l _ _ _ _,
        by simp only [touchReply, hd, hp, he, hl] <;> rfl⟩
  | handoverAsk n k' handle =>
    rw [hb] at h
    cases h with
    | ask _ _ hd he =>
      exact ⟨_, .ask ⟨f, none⟩ n k handle hb, fun x w l => askReply_behind x w l _ _ _ _ _ _ _,
        by simp only [askReply, hd, hp, he, hl] <;> rfl⟩
  | _ =>
    rw [hb] at h
    cases h

/-- An insertion by CLAIM, or by a RESOLVE that has counted its miss (R30, R31). -/
theorem createBinding_fails {v : View} {p : Port} {a : ClaimArgs} {st : Status} (hs : s.directory.wf = true)
    (hc : (s.domain a.domain).count < (s.domain a.domain).policy.cap) (hm : s.MayOwn v p)
    (hl : s.LowestFree a.domain a.key i) (hf : i ∈ f) :
    createBinding v p a st f s = createBinding v p a st f (s.slotFails i) := by
  have hm' : (s.slotFails i).MayOwn v p :=
    ⟨by rw [State.slotFails_owned_of_free hl.free]; simpa using hm.quota, hm.credit⟩
  have hc' : ((s.slotFails i).domain a.domain).count < ((s.slotFails i).domain a.domain).policy.cap := by
    rwa [State.slotFails_domain_of_free hl.free]
  rw [createBinding_searches hc hm, createBinding_searches hc' hm', State.slotFails_slotsOf,
    State.freeWayIn_fails hs hl.free hf (show (s.slotsOf a.domain a.key).Pairwise (· < ·) from bucketSlots_rising _) hl.bucket
      hl.lowest]

/-- A lookup that misses, its OCCUPIED slots passing their checks, in a state that fails a FREE slot too. -/
theorem State.lookup_passes (h : ∀ j ∈ s.slotsOf d k, ∀ c, s.slot j = .occupied c → j ∉ f ∧ ¬ c.Holds d k) :
    s.lookup f d k = (s, none) := State.lookupIn_passes h

theorem State.lookup_passes_after (hs : s.directory.wf = true) (hi : s.slot i = .free)
    (h : ∀ j ∈ s.slotsOf d k, ∀ c, s.slot j = .occupied c → j ∉ f ∧ ¬ c.Holds d k) (hu : ∀ j, u.slot j = (s.slotFails i).slot j)
    (hsl : u.slotsOf d k = s.slotsOf d k) : u.lookup f d k = (u, none) := by
  refine State.lookup_passes fun j hj c hc => ?_
  rw [hu, State.slotFails_slot hs (.inl hi)] at hc
  split at hc
  · cases hc
  · exact h j (hsl ▸ hj) c hc

theorem claimReply_passes {v : View} {p : Port} {a : ClaimArgs} (ha : s.ClaimAllowed p a.domain a.pin)
    (hl : s.lookup f a.domain a.key = (s, none)) : claimReply v p a f s = createBinding v p a .ok f s := by
  simp [claimReply, ha.enabled, ha.policy.refusalFor, ha.pinned, hl]

theorem resolveReply_passes {v : View} {p : Port} {a : ClaimArgs} {pin : Bool} (ha : s.ClaimAllowed p a.domain pin)
    (hc : (s.domain a.domain).policy.autoClaim = true) (hl : s.lookup f a.domain a.key = (s, none)) :
    resolveReply v p a true f s = createBinding v p a .claimed f (s.countInGrant (.port p .resolveMisses)) := by
  simp [resolveReply, ha.enabled, ha.policy.refusalFor, hc, hl]

theorem State.ClaimAllowed.of_policy {p : Port} {pin : Bool} (h : s.ClaimAllowed p d pin)
    (hp : (u.domain d).policy = (s.domain d).policy) : u.ClaimAllowed p d pin :=
  ⟨hp ▸ h.enabled, hp ▸ h.policy, hp ▸ h.pin⟩

/-! ### The end of the grant -/

theorem State.acted_behind (s w : State) (l : List Report) (e : Ending) : (s.behind w l).acted e = (s.acted e).behind w l := by
  cases hg : s.grant <;> simp [State.acted, State.behind, State.withGrant, hg]

theorem State.countInGrant_eq_behind {client : Client} {v : View} (hg : s.grant = some (.fresh client v)) (c : CounterId) :
    s.countInGrant c = s.behind s [.count c] := by
  simp [State.countInGrant, State.report, State.behind, State.withGrant, hg, Grant.fresh]

/-- The whole grant of a request that passes the common checks. -/
theorem State.InGrant.exec_eq {p : Port} {v : View} {rq : RequestFrame} {c : Instr} {act : State → Reply}
    (hin : s.InGrant p v rq) (h : GrantedAct p v rq c none act) (hc : c = rq.body.row p ⟨f, none⟩) :
    exec c s = .next (((act s).state.acted (.response (act s).status (act s).result)).advance none) := by
  obtain ⟨row, hexec, hrow⟩ := h.exists_row hc s
  rw [hexec, runGranted_eq hin.grant rfl hin.executor hrow]
  show Host.Outcome.next ((s.actRequest v p rq act).advance none) = _
  simp only [State.actRequest, checkedReply_passed hin.passes]

theorem State.InGrant.failed {p : Port} {v : View} {rq : RequestFrame} (hin : s.InGrant p v rq) (i : Nat) :
    (s.failed i).InGrant p v rq :=
  ⟨hin.grant, by rw [State.port, State.failed_ports]; exact hin.executor, hin.passes⟩

/-- A request goes on after the failure of a slot as from the state after it: its rule is `act`, which first hands over
`pre` and then does `B`. -/
theorem State.InGrant.exec_failed {p : Port} {v : View} {rq : RequestFrame} {act B : State → Reply} {pre : List Report}
    (hin : s.InGrant p v rq) (h : GrantedAct p v rq (rq.body.row p ⟨f, none⟩) none act)
    (hB : ∀ x w l, B (State.behind x w l) = (B x).behind w l) (hs : act s = (B s).behind s pre)
    (hu : act (s.failed i) = (B (s.failed i)).behind (s.failed i) pre) (heq : B s = B (s.slotFails i))
    (hunits : ∀ x ∈ [Part.notices, .portCounters, .deviceCounters],
      ((pre ++ s.faultReports i).foldl State.deliver s).Same (pre.foldl State.deliver (s.failed i)) x) :
    exec (rq.body.row p ⟨f, none⟩) s = exec (rq.body.row p ⟨f, none⟩) (s.failed i) := by
  have hs' : act s = (B (s.failed i)).behind s (pre ++ s.faultReports i) := by
    rw [hs, heq, State.slotFails_eq_behind hin.grant, hB]
    simp only [Reply.behind, State.behind_behind]
  have hw := h.actsWide (s.failed i)
  rw [hu] at hw
  obtain ⟨l, hl⟩ := hw.reports
  obtain ⟨g, hg⟩ : ∃ g, (B (s.failed i)).state.grant = some g := by
    cases hB : (B (s.failed i)).state.grant with
    | some g => exact ⟨g, rfl⟩
    | none => simp [Reply.behind, State.behind, hB, (hin.failed i).grant] at hl
  rw [hin.exec_eq h rfl, (hin.failed i).exec_eq h rfl, hs', hu]
  simp only [Reply.behind, State.acted_behind]
  have hacted : ∀ e, ((B (s.failed i)).state.acted e).grant = some { g with ending := some e } := fun e => by
    simp [State.acted, State.withGrant, hg]
  refine congrArg Host.Outcome.next (State.behind_advance (hacted _) rfl (fun q => ?_) (State.failed_ports s i) ?_ ?_ ?_)
  · obtain ⟨hses, hsub, -⟩ := hw.port q
    have hport : (s.failed i).port q = s.ports.get q := by rw [State.port, State.failed_ports]
    rw [hport] at hses hsub
    exact ⟨hses, hsub⟩
  · exact (hunits .notices (by simp)).symm
  · exact (hunits .portCounters (by simp)).symm
  · exact (hunits .deviceCounters (by simp)).symm

theorem State.InGrant.exec_failed_of_eq {p : Port} {v : View} {rq : RequestFrame} {act : State → Reply}
    (hin : s.InGrant p v rq) (h : GrantedAct p v rq (rq.body.row p ⟨f, none⟩) none act)
    (hB : ∀ x w l, act (State.behind x w l) = (act x).behind w l) (heq : act s = act (s.slotFails i)) :
    exec (rq.body.row p ⟨f, none⟩) s = exec (rq.body.row p ⟨f, none⟩) (s.failed i) := by
  have hself : ∀ w, act w = (act w).behind w [] := fun w => by
    have hw := h.actsWide w
    have hst : (act w).state.behind w [] = (act w).state :=
      State.behind_self (hw.frame .notices (by simp)).symm (hw.frame .portCounters (by simp)).symm
        (hw.frame .deviceCounters (by simp)).symm
    rw [Reply.behind, hst]
  refine hin.exec_failed h hB (hself s) (hself _) heq fun x hx => ?_
  fin_cases hx <;> rfl

theorem State.slotFails_domain_policy (hi : s.MayFail i) (d : DomainId) :
    ((s.slotFails i).domain d).policy = (s.domain d).policy := (State.slotFails_keeps hi).policy d

theorem State.failed_policy (hi : s.MayFail i) (d : DomainId) : ((s.failed i).domain d).policy = (s.domain d).policy :=
  State.slotFails_domain_policy hi d

theorem State.failed_slotsOf (s : State) (i : Nat) : (s.failed i).slotsOf d k = s.slotsOf d k := by
  have hset : (s.failed i).settings = s.settings := s.failed_changes i .settings (by simp)
  rw [State.slotsOf, hset, State.slotsOf]

theorem State.failed_sameAudience (s : State) (i : Nat) :
    (s.failed i).SameAudience ((s.faultReports i).foldl State.deliver s).ports := fun q => by
  have : (s.failed i).ports = ((s.faultReports i).foldl State.deliver s).ports := (s.failed_ports i).trans (by simp)
  rw [State.port, this]
  exact ⟨rfl, rfl⟩

/-- A count that does not reach half range, before the reports of a failure and after them. -/
theorem State.failed_count_units {m : CounterId} (hm : ∀ q, m ≠ .port q .noticesLost) (hh : s.counter m + 1 ≠ halfRange)
    (hl : .count m ∉ s.faultReports i) : ∀ x ∈ [Part.notices, .portCounters, .deviceCounters],
      (([Report.count m] ++ s.faultReports i).foldl State.deliver s).Same ([Report.count m].foldl State.deliver (s.failed i)) x := by
  have hleft : ([Report.count m] ++ s.faultReports i).foldl State.deliver s
      = ((s.faultReports i).foldl State.deliver s).count m := State.count_deliverAll hm hh hl
  have hright : (s.failed i).count m = (s.failed i).behind (((s.faultReports i).foldl State.deliver s).count m) [] := by
    have hself : (s.failed i).behind ((s.faultReports i).foldl State.deliver s) [] = s.failed i := State.behind_self rfl rfl rfl
    have hpass := (State.behind_passes (s.failed_sameAudience i)).deliver rfl (r := .count m) fun _ _ => trivial
    rw [hself] at hpass
    exact hpass
  intro x hx
  rw [hleft, show [Report.count m].foldl State.deliver (s.failed i) = (s.failed i).count m from rfl, hright]
  fin_cases hx <;> rfl

section
variable {p : Port} {v : View} {rq : RequestFrame} {n : Nat} {handle : Handle}

/-- A CLAIM that meets a failed FREE slot. -/
theorem State.InGrant.claim_failed {pin force : Bool} (hin : s.InGrant p v rq) (hb : rq.body = .claim n k handle pin force)
    (hs : s.directory.wf = true) (hf : i ∈ f) (ha : s.ClaimAllowed p (asDomain n) pin)
    (hcap : (s.domain (asDomain n)).count < (s.domain (asDomain n)).policy.cap) (hown : s.MayOwn v p)
    (hmiss : ∀ j ∈ s.slotsOf (asDomain n) k, ∀ c, s.slot j = .occupied c → j ∉ f ∧ ¬ c.Holds (asDomain n) k)
    (hlow : s.LowestFree (asDomain n) k i) :
    exec (rq.body.row p ⟨f, none⟩) s = exec (rq.body.row p ⟨f, none⟩) (s.failed i) := by
  have hact : GrantedAct p v rq (rq.body.row p ⟨f, none⟩) none (claimReply v p ⟨asDomain n, k, handle, pin, force⟩ f) := by
    rw [hb]
    exact .claim ⟨f, none⟩ n k handle pin force hb
  have hl : (s.slotFails i).lookup f (asDomain n) k = (s.slotFails i, none) :=
    State.lookup_passes_after hs hlow.free hmiss (fun _ => rfl) (s.slotFails_slotsOf i _ k)
  have ha' : (s.slotFails i).ClaimAllowed p (asDomain n) pin := ha.of_policy (State.slotFails_domain_policy (.inl hlow.free) _)
  refine hin.exec_failed_of_eq hact (fun x w l => claimReply_behind x w l _ _ _ _) ?_
  rw [claimReply_passes (a := ⟨asDomain n, k, handle, pin, force⟩) ha (State.lookup_passes hmiss),
    claimReply_passes (a := ⟨asDomain n, k, handle, pin, force⟩) ha' hl]
  exact createBinding_fails (a := ⟨asDomain n, k, handle, pin, force⟩) hs hcap hown hlow hf

theorem resolveReply_passes_behind {w : State} (hg : w.grant = some (.fresh (.executor p) v))
    (ha : w.ClaimAllowed p d false) (hauto : (w.domain d).policy.autoClaim = true) (hl : w.lookup f d k = (w, none)) :
    resolveReply v p ⟨d, k, handle, false, false⟩ true f w
      = (createBinding v p ⟨d, k, handle, false, false⟩ .claimed f w).behind w [.count (.port p .resolveMisses)] := by
  rw [resolveReply_passes (a := ⟨d, k, handle, false, false⟩) ha hauto hl, State.countInGrant_eq_behind hg,
    createBinding_behind]

/-- A RESOLVE that misses, goes on as a claim, and meets a failed FREE slot. -/
theorem State.InGrant.resolve_failed (hin : s.InGrant p v rq) (hb : rq.body = .resolve n k true handle)
    (hs : s.directory.wf = true) (hf : i ∈ f) (hauto : (s.domain (asDomain n)).policy.autoClaim = true)
    (hhalf : s.counter (.port p .resolveMisses) + 1 ≠ halfRange) (ha : s.ClaimAllowed p (asDomain n) false)
    (hcap : (s.domain (asDomain n)).count < (s.domain (asDomain n)).policy.cap) (hown : s.MayOwn v p)
    (hmiss : ∀ j ∈ s.slotsOf (asDomain n) k, ∀ c, s.slot j = .occupied c → j ∉ f ∧ ¬ c.Holds (asDomain n) k)
    (hlow : s.LowestFree (asDomain n) k i) :
    exec (rq.body.row p ⟨f, none⟩) s = exec (rq.body.row p ⟨f, none⟩) (s.failed i) := by
  have hact : GrantedAct p v rq (rq.body.row p ⟨f, none⟩) none
      (resolveReply v p ⟨asDomain n, k, handle, false, false⟩ true f) := by
    rw [hb]
    exact .resolve ⟨f, none⟩ n k true handle hb
  have hpol := State.failed_policy (.inl hlow.free) (asDomain n)
  have hl : (s.failed i).lookup f (asDomain n) k = (s.failed i, none) :=
    State.lookup_passes_after hs hlow.free hmiss (fun _ => rfl) (s.failed_slotsOf i)
  exact hin.exec_failed hact (fun x w l => createBinding_behind x w l _ _ _ _ _)
    (resolveReply_passes_behind hin.grant ha hauto (State.lookup_passes hmiss))
    (resolveReply_passes_behind (hin.failed i).grant (ha.of_policy hpol) (by rw [hpol]; exact hauto) hl)
    (createBinding_fails (a := ⟨asDomain n, k, handle, false, false⟩) hs hcap hown hlow hf)
    (State.failed_count_units (by simp) hhalf (s.faultReports_port i p _))

end

/-- R18, R19: a request that meets a failed slot goes on as from the state after the failure. -/
theorem State.ReadsFailing.exec_failed {p : Port} {v : View} {rq : RequestFrame} (h : s.ReadsFailing p v f i rq.body)
    (hin : s.InGrant p v rq) (hs : s.directory.wf = true) (hf : i ∈ f) :
    s.MayFail i ∧ exec (rq.body.row p ⟨f, none⟩) s = exec (rq.body.row p ⟨f, none⟩) (s.failed i) := by
  obtain ⟨r, hb⟩ : ∃ r, rq.body = r := ⟨_, rfl⟩
  rw [hb] at h
  cases h with
  | lookup d k b _ hlook hm hi _ hfirst =>
    refine ⟨.inr ⟨b, hi⟩, ?_⟩
    have hl : s.lookup f d k = (s.slotFails i).lookup f d k := by
      rw [State.lookup, State.lookup, State.slotFails_slotsOf]
      exact State.lookupIn_fails hs hi hf (bucketSlots_rising _) hm hfirst
    obtain ⟨act, hact, hB, heq⟩ := (hb ▸ hlook : s.LooksUp p d k rq.body).act_eq (v := v)
      (State.slotFails_domain_policy (.inr ⟨b, hi⟩) d) hl
    exact hin.exec_failed_of_eq hact hB heq
  | scan start fd fo fs x b hx h1 h2 hi _ hfirst =>
    refine ⟨.inr ⟨b, hi⟩, hin.exec_failed_of_eq (act := scanReply start x f) ?_ (fun y w l => scanReply_behind y w l _ _ _) ?_⟩
    · rw [hb]
      exact .scan ⟨f, none⟩ start fd fo fs x hb hx
    · simp only [scanReply]
      rw [State.scanIn_fails hs hi hf (windowSlots_rising start) (mem_windowSlots.2 ⟨h1, h2⟩) fun j hj hlt c hc =>
        hfirst j (mem_windowSlots.1 hj).1 hlt c hc]
  | insertion d k pin _ hreq ha hcap hown hmiss hlow _ =>
    refine ⟨.inl hlow.free, ?_⟩
    rcases hreq with ⟨n, handle, force, rfl, rfl⟩ | ⟨n, handle, rfl, rfl, rfl, hauto, hhalf⟩
    · exact hin.claim_failed hb hs hf ha hcap hown hmiss hlow
    · exact hin.resolve_failed hb hs hf hauto hhalf ha hcap hown hmiss hlow

end

end Sys2Proof.Machine
end

section
/-! SUPPORT. The slots and the laws determine the store; the parts that operations of two slots change in either order. -/

namespace Sys2Proof.Machine

/-! ### The slots and the laws determine the store -/

theorem readCells_ext {l m : List (Nat × Slot)} (hl : risingCells l = true) (hm : risingCells m = true)
    (h : ∀ i, readCells l i = readCells m i) : l = m := by
  have head {j : Nat} {y : Slot} {k : List (Nat × Slot)} : readCells ((j, y) :: k) j = some y := by simp [readCells]
  induction l generalizing m with
  | nil =>
    cases m with
    | nil => rfl
    | cons c rest =>
      have := (h c.1).trans head
      cases this
  | cons c rest ih =>
    cases m with
    | nil =>
      have := head.symm.trans (h c.1)
      cases this
    | cons d rest' =>
      obtain ⟨hc, hrest⟩ := risingCells_cons.1 hl
      obtain ⟨hd, hrest'⟩ := risingCells_cons.1 hm
      have below {c d : Nat × Slot} {k : List (Nat × Slot)} (hlt : c.1 < d.1) (hk : cellsAbove d.1 k) :
          readCells (d :: k) c.1 = none := readCells_none_of_above fun e he => by
        rcases List.mem_cons.1 he with rfl | he
        · exact hlt
        · exact hlt.trans (hk e he)
      have hidx : c.1 = d.1 := by
        rcases Nat.lt_trichotomy c.1 d.1 with hlt | he | hlt
        · have := head.symm.trans ((h c.1).trans (below hlt hd))
          cases this
        · exact he
        · have := head.symm.trans ((h d.1).symm.trans (below hlt hc))
          cases this
      obtain ⟨i, x⟩ := c
      obtain ⟨j, y⟩ := d
      obtain rfl : i = j := hidx
      have hxy : x = y := Option.some.inj (head.symm.trans ((h i).trans head))
      refine List.cons_eq_cons.2 ⟨by rw [hxy], ih hrest hrest' fun k => ?_⟩
      by_cases hk : i = k
      · rw [← hk, readCells_none_of_above hc, readCells_none_of_above hd]
      · simpa [readCells, hk] using h k

theorem Directory.readCells_eq {d : Directory} (h : d.wf = true) (i : Nat) : readCells d.cells i = (d.read i).listed := by
  unfold Directory.read
  cases hc : readCells d.cells i with
  | none =>
    unfold Directory.unlisted
    rw [Option.getD_none]
    split <;> rfl
  | some x =>
    have hx : x.listed.isSome = true := by
      simp only [Directory.wf, Bool.and_eq_true, List.all_eq_true] at h
      exact (h.1.2 _ (readCells_mem hc)).2
    cases x <;> simp [Slot.listed] at hx ⊢

theorem Directory.read_ne_undefined {d : Directory} (h : d.wf = true) {i : Nat} (hi : i < Config.ways * d.cleared) :
    d.read i ≠ .undefined := by
  have hc := Directory.readCells_eq h i
  intro hu
  rw [hu] at hc
  have hr : d.read i = .free := by
    unfold Directory.read Directory.unlisted
    rw [hc, if_pos hi]
    rfl
  rw [hu] at hr
  cases hr

/-- A directory in its form has the cells and the cleared buckets that its slots show (log 8). -/
theorem Directory.store_ext {d e : Directory} (hd : d.wf = true) (he : e.wf = true) (h : ∀ i, d.read i = e.read i) :
    d.cells = e.cells ∧ d.cleared = e.cleared := by
  have hle : ∀ {d e : Directory}, d.wf = true → e.wf = true → (∀ i, d.read i = e.read i) → d.cleared ≤ e.cleared :=
    fun {d e} hd he h => by
      by_contra hlt
      have hin : Config.ways * e.cleared < Config.ways * d.cleared := Nat.mul_lt_mul_of_pos_left (Nat.lt_of_not_le hlt) (by decide)
      have hne := Directory.read_ne_undefined hd hin
      rw [h] at hne
      exact absurd (Directory.read_inRange he hne) (Nat.lt_irrefl _)
  refine ⟨readCells_ext (Directory.wf_rising hd) (Directory.wf_rising he) fun i => ?_, le_antisymm (hle hd he h)
    (hle he hd fun i => (h i).symm)⟩
  rw [Directory.readCells_eq hd, Directory.readCells_eq he, h]

section
variable {s t : State}

/-- Two states with the same slots and policies, both within the laws, have the same store (R10 to R12, R21). -/
theorem State.store_ext (hs : s.SlotLaws) (ht : t.SlotLaws) (h : ∀ i, t.slot i = s.slot i)
    (hp : ∀ d, (t.domain d).policy = (s.domain d).policy) : t.directory = s.directory ∧ t.domains = s.domains := by
  obtain ⟨hcells, hcleared⟩ := Directory.store_ext ht.form hs.form h
  obtain ⟨hown, horph, hdef, hcount, hdo⟩ := State.CountsLaw.iff.1 hs.counts
  obtain ⟨hown', horph', hdef', hcount', hdo'⟩ := State.CountsLaw.iff.1 ht.counts
  have htally : ∀ g, t.directory.tally g = s.directory.tally g := fun g => by rw [Directory.tally, hcells, Directory.tally]
  have howned : t.directory.ownedCount = s.directory.ownedCount := PerPort.ext_get fun p => by
    have h1 := hown p
    have h2 := hown' p
    rw [htally, ← h1] at h2
    exact h2
  refine ⟨?_, Vector.ext fun n hn => ?_⟩
  · have ho : t.directory.orphanTotal = s.directory.orphanTotal := by rw [horph, horph', htally]
    have hd : t.directory.defectiveCount = s.directory.defectiveCount := by rw [hdef, hdef', htally]
    cases htd : t.directory
    cases hsd : s.directory
    rw [htd, hsd] at hcells hcleared howned ho hd
    simp only at hcells hcleared howned ho hd
    rw [hcells, hcleared, howned, ho, hd]
  · have hpol := hp ⟨n, hn⟩
    have hc : (t.domain ⟨n, hn⟩).count = (s.domain ⟨n, hn⟩).count := by rw [hcount, hcount', htally]
    have ho : (t.domain ⟨n, hn⟩).orphans = (s.domain ⟨n, hn⟩).orphans := by rw [hdo, hdo', htally]
    have hdom : t.domain ⟨n, hn⟩ = s.domain ⟨n, hn⟩ := by
      cases h1 : t.domain ⟨n, hn⟩
      cases h2 : s.domain ⟨n, hn⟩
      rw [h1, h2] at hpol hc ho
      simp only at hpol hc ho
      rw [hpol, hc, ho]
    exact hdom

end

/-! ### Parts that operations of two slots change in either order -/

/-- The Transfer Controller with an entry freed (R73). -/
def Transfers.without (t : Transfers) (z : Option TransferIndex) : Transfers :=
  match z with
  | some x => { t with
      entries := t.entries.set x.val none x.isLt
      expiryList := t.expiryList.filter (fun j => decide (j ≠ x)) }
  | none => t

theorem Transfers.without_comm (t : Transfers) (y z : Option TransferIndex) :
    (t.without y).without z = (t.without z).without y := by
  cases y with
  | none => rfl
  | some a =>
    cases z with
    | none => rfl
    | some b =>
      by_cases hab : a = b
      · rw [hab]
      · have hne : a.val ≠ b.val := fun h => hab (Fin.ext h)
        simp only [Transfers.without, Vector.set_comm _ _ hne, List.filter_filter, Bool.and_comm]

/-- The Maintenance Engine with the head job's counts changed. -/
def Maintenance.counted (m : Maintenance) (k : JobCounts → JobCounts) : Maintenance :=
  match m.queue with
  | j :: rest => { m with queue := { j with counts := k j.counts } :: rest }
  | [] => m

theorem State.modifyCounts_counted (s : State) (k : JobCounts → JobCounts) :
    (s.modifyCounts k).maintenance = s.maintenance.counted k := by
  unfold Maintenance.counted
  cases hq : s.maintenance.queue with
  | cons j rest => rw [State.modifyCounts_maintenance hq]
  | nil => simp [State.modifyCounts, State.modifyHeadJob, hq]

theorem Maintenance.counted_id (m : Maintenance) : m.counted id = m := by
  unfold Maintenance.counted
  cases hq : m.queue with
  | cons j rest =>
    cases m
    simp only at hq
    rw [hq]
    rfl
  | nil => rfl

theorem Maintenance.counted_counted (m : Maintenance) (k h : JobCounts → JobCounts) :
    (m.counted k).counted h = m.counted (h ∘ k) := by
  cases hq : m.queue <;> simp [Maintenance.counted, hq]

end Sys2Proof.Machine
end

section
/-! SUPPORT. What an operation does at one slot, and that it does the same before and after the failure of another (R19, R97). -/

namespace Sys2Proof.Machine

/-! ### States that differ in the order of their grant's reports -/

/-- The same state, but for the order of the reports of its grant (R15, R160). -/
def State.Alike (x y : State) : Prop :=
  ∃ g m, x.grant = some g ∧ g.reports.Perm m ∧ y = x.withGrant (some { g with reports := m })

section
variable {x y v : State} {g : Grant}

theorem State.withGrant_self (hg : x.grant = some g) : x.withGrant (some g) = x := by
  rw [← hg]
  rfl

theorem State.Alike.refl (hg : x.grant = some g) : x.Alike x :=
  ⟨g, g.reports, hg, .refl _, (State.withGrant_self hg).symm⟩

theorem State.Alike.trans (h : x.Alike y) (k : y.Alike v) : x.Alike v := by
  obtain ⟨g, m, hg, hm, rfl⟩ := h
  obtain ⟨g', m', hg', hm', rfl⟩ := k
  obtain rfl : { g with reports := m } = g' := Option.some.inj hg'
  exact ⟨g, m', hg, hm.trans hm', rfl⟩

/-- An operation that does not see the reports before its own does the same to both (R15). -/
theorem State.Alike.congr {f : State → State} (h : x.Alike y) (hf : ∀ z w l, f (State.behind z w l) = (f z).behind w l)
    (hg : ∀ z : State, z.grant ≠ none → (f z).grant ≠ none) : (f x).Alike (f y) := by
  obtain ⟨g, m, hx, hm, rfl⟩ := h
  have hbehind : ∀ l, x.withGrant (some { g with reports := l }) = (x.withGrant (some { g with reports := [] })).behind x l :=
    fun l => by simp [State.behind, State.withGrant]
  obtain ⟨g', hg'⟩ := Option.ne_none_iff_exists'.1 (hg (x.withGrant (some { g with reports := [] })) (by simp [State.withGrant]))
  have hrun : ∀ l, f (x.withGrant (some { g with reports := l }))
      = (f (x.withGrant (some { g with reports := [] }))).behind x l := fun l => by rw [hbehind, hf]
  have hself := hrun g.reports
  rw [show x.withGrant (some { g with reports := g.reports }) = x from State.withGrant_self hx] at hself
  rw [hself, hrun m]
  generalize f (x.withGrant (some { g with reports := [] })) = z at hg' ⊢
  exact ⟨{ g' with reports := g.reports ++ g'.reports }, m ++ g'.reports, by simp [State.behind, hg'],
    hm.append_right _, by simp [State.behind, State.withGrant, hg']⟩

theorem State.ActsInBucket.grant_ne (h : x.ActsInBucket y) (hx : x.grant ≠ none) : y.grant ≠ none := by
  obtain ⟨l, hl⟩ := h.reports
  rw [hl]
  simpa using hx

theorem State.eq_withGrant (h : x.ChangesOnly y [.arbiter]) (hl : y.lastGranted = x.lastGranted) :
    y = x.withGrant y.grant := by
  have h1 : y.resetHeld = x.resetHeld := h .resetHeld (by simp)
  have h2 : y.ready = x.ready := h .ready (by simp)
  have h3 : y.directory = x.directory := h .directory (by simp)
  have h4 : y.domains = x.domains := h .domains (by simp)
  have h5 : y.transfers = x.transfers := h .transfers (by simp)
  have h6 : y.maintenance = x.maintenance := h .maintenance (by simp)
  have h7 : y.ports = x.ports := h .ports (by simp)
  have h8 : y.notices = x.notices := h .notices (by simp)
  have h9 : y.lease = x.lease := h .lease (by simp)
  have h10 : y.settings = x.settings := h .settings (by simp)
  have h11 : y.timebase = x.timebase := h .timebase (by simp)
  have h12 : y.portCounters = x.portCounters := h .portCounters (by simp)
  have h13 : y.deviceCounters = x.deviceCounters := h .deviceCounters (by simp)
  have h14 : y.pending = x.pending := h .pending (by simp)
  cases x
  cases y
  simp only [State.withGrant, State.mk.injEq] at *
  simp [*]

end

/-! ### What is done at one slot -/

/-- What an operation does at one slot: the slot after, the entry freed, the job's counts, and the reports. -/
structure SlotEffect where
  after : Slot
  frees : Option TransferIndex
  tally : JobCounts → JobCounts
  tells : List Report

/-- The operation has done this at slot `i`, and nothing at other slots. -/
structure State.Does (x y : State) (i : Nat) (e : SlotEffect) : Prop where
  slot : y.slot i = e.after
  others : x.OtherSlots y i
  transfers : y.transfers = x.transfers.without e.frees
  maintenance : y.maintenance = x.maintenance.counted e.tally
  reports : x.Appends y e.tells

section
variable {x y v : State} {i j : Nat} {e e' : SlotEffect} {b : Binding} {g : Grant}

theorem State.Does.still (x : State) (i : Nat) : x.Does x i ⟨x.slot i, none, id, []⟩ :=
  ⟨rfl, fun _ _ => rfl, rfl, (Maintenance.counted_id _).symm, .of_eq rfl⟩

/-- One step after another, of which at most one frees an entry. -/
theorem State.Does.then (h : x.Does y i e) (k : y.Does v i e') (hz : e.frees = none ∨ e'.frees = none) :
    x.Does v i ⟨e'.after, e.frees <|> e'.frees, e'.tally ∘ e.tally, e.tells ++ e'.tells⟩ where
  slot := k.slot
  others j hj := (k.others j hj).trans (h.others j hj)
  transfers := by
    rw [k.transfers, h.transfers]
    rcases hz with hz | hz
    · rw [hz]
      rfl
    · rw [hz]
      cases e.frees <;> rfl
  maintenance := by rw [k.maintenance, h.maintenance, Maintenance.counted_counted]
  reports := h.reports.trans k.reports

theorem State.Does.entry (h : x.Does y i e) {w : TransferIndex} (hw : e.frees ≠ some w) : y.entry w = x.entry w := by
  rw [State.entry, h.transfers]
  cases hz : e.frees with
  | none => rfl
  | some z =>
    have hne : w ≠ z := fun he => hw (by rw [hz, he])
    exact (State.freeEntry_entry x z w).trans (if_neg hne)

theorem Slot.index?_occupied (b : Binding) : (Slot.occupied b).index? = b.tenure.transfer?.map Prod.snd := rfl

/-- The transfers after a failure, under their law (R19, R69). -/
theorem State.slotFails_without (hx : x.TransferLaw) (hi : x.slot i = .occupied b) :
    (x.slotFails i).transfers = x.transfers.without (x.slot i).index? := by
  rw [hi, Slot.index?_occupied]
  cases hb : b.tenure with
  | transfer g w =>
    obtain ⟨r, hr, -⟩ := hx.ofBinding i b g w hi hb
    rw [State.slotFails_transfers_freed hi hb hr]
    rfl
  | bound o =>
    rw [State.slotFails_transfers_kept fun c g w hc => by rw [hi] at hc; cases hc; simp [hb]]
    rfl
  | orphaned =>
    rw [State.slotFails_transfers_kept fun c g w hc => by rw [hi] at hc; cases hc; simp [hb]]
    rfl

theorem State.faultReports_congr (hs : y.slot i = x.slot i) (he : ∀ w, (x.slot i).index? = some w → y.entry w = x.entry w) :
    y.faultReports i = x.faultReports i := by
  unfold State.faultReports State.lossReports State.endReports
  rw [hs]
  cases hi : x.slot i with
  | occupied b =>
    cases hb : b.tenure with
    | transfer g w => simp [Slot.binding?, hb, he w (by rw [hi, Slot.index?_occupied, hb]; rfl)]
    | bound | orphaned => simp [Slot.binding?, hb]
  | undefined | free | defective => rfl

/-- An operation that does the same at slot `j` before and after the failure of slot `i` goes together with that failure, but
for the order of the reports (R19, R97). -/
theorem State.Does.fails (hx : x.SlotLaws) (hg : x.grant = some g) (hi : x.slot i = .occupied b) (hji : j ≠ i)
    (hy : x.Does y j e) (hv : (x.slotFails i).Does v j e) (hz : ∀ w, e.frees = some w → (x.slot j).index? = some w)
    (ky : x.Keeps y) (kv : (x.slotFails i).Keeps v) (fy : x.ActsInBucket y) (fv : (x.slotFails i).ActsInBucket v) :
    (y.slotFails i).Alike v := by
  have hyi : y.slot i = .occupied b := (hy.others i hji.symm).trans hi
  have hxfail := State.slotFails_keeps (s := x) (i := i) (.inr ⟨b, hi⟩)
  have hyfail := State.slotFails_keeps (s := y) (i := i) (.inr ⟨b, hyi⟩)
  have hylaws := ky.laws hx
  have hfree : ∀ w, (x.slot i).index? = some w → e.frees ≠ some w := fun w hw hf =>
    hji (hx.transfers.index_inj (hz w hf) hw)
  obtain ⟨hdir, hdom⟩ := State.store_ext (s := y.slotFails i) (t := v) (hyfail.laws hylaws) (kv.laws (hxfail.laws hx))
    (fun m => by
      rw [State.slotFails_slot hylaws.form (.inr ⟨b, hyi⟩)]
      by_cases hmj : m = j
      · rw [hmj, hv.slot, if_neg hji, hy.slot]
      · rw [hv.others m hmj, State.slotFails_slot hx.form (.inr ⟨b, hi⟩), hy.others m hmj])
    fun d => by rw [kv.policy, hxfail.policy, hyfail.policy, ky.policy]
  have htr : v.transfers = (y.slotFails i).transfers := by
    rw [hv.transfers, State.slotFails_without hx.transfers hi, State.slotFails_without hylaws.transfers hyi, hy.transfers,
      hyi, hi, Transfers.without_comm]
  have hm : v.maintenance = (y.slotFails i).maintenance := by
    rw [hv.maintenance, (x.slotFails_frame i).2.2.2.1, (y.slotFails_frame i).2.2.2.1, hy.maintenance]
  have hrep : y.faultReports i = x.faultReports i :=
    State.faultReports_congr (hyi.trans hi.symm) fun w hw => hy.entry (hfree w hw)
  have hygrant : (y.slotFails i).grant = some { g with reports := g.reports ++ (e.tells ++ x.faultReports i) } := by
    have h := hy.reports.trans (y.slotFails_appends i)
    rw [State.Appends, hg, hrep] at h
    exact h
  have hvgrant : v.grant = some { g with reports := g.reports ++ (x.faultReports i ++ e.tells) } := by
    have h := (x.slotFails_appends i).trans hv.reports
    rw [State.Appends, hg] at h
    exact h
  refine ⟨_, g.reports ++ (x.faultReports i ++ e.tells), hygrant, List.perm_append_comm.append_left _, ?_⟩
  rw [← hvgrant]
  refine State.eq_withGrant (fun n hn => ?_) ?_
  · have h1 := fy.frame n
    have h2 := fv.frame n
    cases n <;> simp [State.Same] at hn h1 h2 ⊢ <;> simp [*]
  · simp [fv.lastGranted, fy.lastGranted]

end

end Sys2Proof.Machine
end

section
/-! SUPPORT. The slots of SWEEP, PURGE and ORPHAN jobs do the same in two states that agree at the slot (R97, R101, R108, R144). -/

namespace Sys2Proof.Machine

/-! ### The same steps in two states -/

/-- From `x` and `x'` the same has been done at slot `i`, in `y` and `y'`: the slot is `c` and the entry `z` is freed. -/
structure State.Twins (x x' y y' : State) (i : Nat) (c : Slot) (z : Option TransferIndex) : Prop where
  does : ∃ k l, x.Does y i ⟨c, z, k, l⟩ ∧ x'.Does y' i ⟨c, z, k, l⟩
  form : y.directory.wf = true
  form' : y'.directory.wf = true
  policy : ∀ d, (y'.domain d).policy = (y.domain d).policy

/-- A step that writes slot `i` and moves counts only. -/
structure Rewrites (f : State → State) (i : Nat) (c : Slot) : Prop where
  recounts : ∀ s : State, (s.writeSlot i c).Recounts (f s)
  transfers : ∀ s, (f s).transfers = s.transfers
  maintenance : ∀ s, (f s).maintenance = s.maintenance
  grant : ∀ s, (f s).grant = s.grant

section
variable {x x' y y' : State} {i : Nat} {c c' : Slot} {z : Option TransferIndex} {b : Binding}

theorem State.Twins.begin (hs : x.directory.wf = true) (hs' : x'.directory.wf = true)
    (hp : ∀ d, (x'.domain d).policy = (x.domain d).policy) (h : x.slot i = c) (h' : x'.slot i = c) :
    State.Twins x x' x x' i c none :=
  ⟨⟨id, [], h ▸ .still x i, h' ▸ .still x' i⟩, hs, hs', hp⟩

theorem Rewrites.form {f : State → State} (h : Rewrites f i c) {s : State} (hs : s.directory.wf = true)
    (hi : s.slot i ≠ .undefined) : (f s).directory.wf = true := by
  have hr := h.recounts s
  have hw := Directory.write_wf hs (State.inRange_of_slot hi hs) c
  rw [Directory.wf, hr.cells, hr.cleared]
  exact hw

theorem Rewrites.does {f : State → State} (h : Rewrites f i c) {s : State} (hs : s.directory.wf = true)
    (hi : s.slot i ≠ .undefined) (hc : c ≠ .undefined) : s.Does (f s) i ⟨c, none, id, []⟩ := by
  have hr := h.recounts s
  have hslot : ∀ j, (f s).slot j = (s.directory.write i c).read j := fun j => by
    rw [State.slot, Directory.read, Directory.unlisted, hr.cells, hr.cleared]
    rfl
  have hread := Directory.write_read hs (State.inRange_of_slot hi hs) hc
  refine ⟨(hslot i).trans ((hread i).trans (if_pos rfl)), fun j hj => (hslot j).trans ((hread j).trans (if_neg hj)),
    h.transfers s, ?_, .of_eq (h.grant s)⟩
  rw [h.maintenance, Maintenance.counted_id]

/-- A further step, the same in both, of which at most one frees an entry. -/
theorem State.Twins.step {v v' : State} {e : SlotEffect} {w : Option TransferIndex} (h : State.Twins x x' y y' i c z)
    (hv : y.Does v i e) (hv' : y'.Does v' i e) (hw : z = none ∧ w = e.frees ∨ e.frees = none ∧ w = z)
    (hf : v.directory.wf = true) (hf' : v'.directory.wf = true) (hp : ∀ d, (v.domain d).policy = (y.domain d).policy)
    (hp' : ∀ d, (v'.domain d).policy = (y'.domain d).policy) : State.Twins x x' v v' i e.after w := by
  obtain ⟨k, l, hd, hd'⟩ := h.does
  have hz : z = none ∨ e.frees = none := hw.imp And.left And.left
  have hzw : (z <|> e.frees) = w := by
    rcases hw with ⟨rfl, rfl⟩ | ⟨he, rfl⟩
    · rfl
    · rw [he]
      cases w <;> rfl
  have h1 := hd.then hv hz
  have h2 := hd'.then hv' hz
  simp only [hzw] at h1 h2
  exact ⟨⟨_, _, h1, h2⟩, hf, hf', fun d => by rw [hp, hp', h.policy]⟩

theorem State.Twins.slots (h : State.Twins x x' y y' i c z) : y.slot i = c ∧ y'.slot i = c := by
  obtain ⟨k, l, hd, hd'⟩ := h.does
  exact ⟨hd.slot, hd'.slot⟩

theorem State.Twins.rewrite (h : State.Twins x x' y y' i c z) (hc : c ≠ .undefined) (hc' : c' ≠ .undefined)
    {f : State → State} (hf : Rewrites f i c') : State.Twins x x' (f y) (f y') i c' z := by
  have hy : y.slot i ≠ .undefined := by rw [h.slots.1]; exact hc
  have hy' : y'.slot i ≠ .undefined := by rw [h.slots.2]; exact hc
  exact h.step (hf.does h.form hy hc') (hf.does h.form' hy' hc') (.inr ⟨rfl, rfl⟩) (hf.form h.form hy) (hf.form h.form' hy')
    (hf.recounts y).policy (hf.recounts y').policy

theorem State.Does.modifyCounts (h : x.slot i = c) (k : JobCounts → JobCounts) :
    x.Does (x.modifyCounts k) i ⟨c, none, k, []⟩ :=
  ⟨by simpa [State.slot] using h, fun j _ => by simp [State.slot], by simp [Transfers.without], x.modifyCounts_counted k,
    .of_eq (by simp)⟩

theorem State.Twins.count (h : State.Twins x x' y y' i c z) (k : JobCounts → JobCounts) :
    State.Twins x x' (y.modifyCounts k) (y'.modifyCounts k) i c z :=
  h.step (.modifyCounts h.slots.1 k) (.modifyCounts h.slots.2 k) (.inr ⟨rfl, rfl⟩) (by simpa using h.form)
    (by simpa using h.form') (fun d => by simp [State.domain]) fun d => by simp [State.domain]

theorem State.Does.report (h : x.slot i = c) (r : Report) : x.Does (x.report r) i ⟨c, none, id, [r]⟩ :=
  ⟨h, fun _ _ => rfl, rfl, by rw [Maintenance.counted_id]; rfl, .report (.of_eq rfl) r⟩

theorem State.Twins.report (h : State.Twins x x' y y' i c z) (r : Report) :
    State.Twins x x' (y.report r) (y'.report r) i c z :=
  h.step (.report h.slots.1 r) (.report h.slots.2 r) (.inr ⟨rfl, rfl⟩) h.form h.form' (fun _ => rfl) fun _ => rfl

theorem State.endTransfer_without (x : State) (w : TransferIndex) (r : Transfer) (o : TransferOutcome) (d : DomainId)
    (k : Key) : (x.endTransfer w r o d k).transfers = x.transfers.without (some w) := by
  simp only [State.endTransfer, State.countInGrant_frame, State.notifyInGrant_frame]
  rfl

theorem State.Does.endTransfer (h : x.slot i = c) (w : TransferIndex) (r : Transfer) (o : TransferOutcome) (b : Binding) :
    x.Does (x.endTransfer w r o b.domain b.key) i ⟨c, some w, id, transferReports w r o b⟩ :=
  ⟨by simpa [State.slot] using h, fun _ _ => by simp [State.slot], x.endTransfer_without w r o b.domain b.key,
    by simp [Maintenance.counted_id], x.endTransfer_appends w r o b⟩

theorem State.Twins.endTransfer (h : State.Twins x x' y y' i c none) (w : TransferIndex) (r : Transfer) (o : TransferOutcome)
    (b : Binding) : State.Twins x x' (y.endTransfer w r o b.domain b.key) (y'.endTransfer w r o b.domain b.key) i c (some w) :=
  h.step (.endTransfer h.slots.1 w r o b) (.endTransfer h.slots.2 w r o b) (.inl ⟨rfl, rfl⟩) (by simpa using h.form)
    (by simpa using h.form') (fun d => by simp [State.domain]) fun d => by simp [State.domain]

/-! ### The operations of the jobs -/

theorem putBinding_rewrites (i : Nat) (b : Binding) : Rewrites (fun s => s.putBinding i b) i (.occupied b) :=
  ⟨fun _ => .refl _, fun _ => rfl, fun _ => rfl, fun _ => rfl⟩

theorem removeBinding_rewrites (i : Nat) (b : Binding) : Rewrites (fun s => s.removeBinding i b) i .free :=
  ⟨fun s => (s.writeSlot i .free).countRemoval_recounts b, fun _ => by simp, fun _ => by simp, fun _ => by simp⟩

theorem countHold_rewrites (i : Nat) (b : Binding) (p : Port) (d : DomainId) :
    Rewrites (fun s => (s.putBinding i b).countHold p d) i (.occupied b) :=
  ⟨fun s => (s.putBinding i b).countHold_recounts p d, fun _ => by simp, fun _ => by simp, fun _ => by simp⟩

theorem countOwnerChange_rewrites (i : Nat) (b : Binding) (p q : Port) :
    Rewrites (fun s => (s.putBinding i b).countOwnerChange p q) i (.occupied b) :=
  ⟨fun s => (s.putBinding i b).countOwnerChange_recounts p q, fun _ => by simp, fun _ => by simp, fun _ => by simp⟩

/-- The transfer of a binding that is removed ends, in two states with the same entry (R8, R88). -/
theorem State.Twins.endTransferOf (h : State.Twins x x' y y' i c none) (b : Binding) (o : TransferOutcome)
    (he : ∀ w, b.tenure.index = some w → y'.entry w = y.entry w) :
    ∃ z, State.Twins x x' (y.endTransferOf b o) (y'.endTransferOf b o) i c z ∧ ∀ w, z = some w → b.tenure.index = some w := by
  unfold State.endTransferOf
  cases hb : b.tenure with
  | transfer g w =>
    simp only [he w (by rw [hb]; rfl)]
    cases y.entry w with
    | none => exact ⟨none, h, by simp⟩
    | some r => exact ⟨some w, h.endTransfer w r o b, fun v hv => by rw [← hv]; rfl⟩
  | bound | orphaned => exact ⟨none, h, by simp⟩

theorem State.Twins.ageBinding (h : State.Twins x x' y y' i (.occupied b) none) :
    ∃ c, State.Twins x x' (y.ageBinding i b) (y'.ageBinding i b) i c none := by
  have hput (a : Binding) : ∃ c, State.Twins x x' (y.putBinding i a) (y'.putBinding i a) i c none :=
    ⟨_, h.rewrite (by simp) (by simp) (putBinding_rewrites i a)⟩
  unfold State.ageBinding
  cases b.cls with
  | pinned => exact hput _
  | leased =>
    cases b.touched with
    | true => exact hput _
    | false =>
      simp only [h.policy]
      by_cases hl : (y.domain b.domain).policy.leaseLimit ≤ b.idle + 1
      · simp only [if_pos hl]
        unfold State.expireBinding
        have hremoved := ((h.rewrite (by simp) (by simp) (removeBinding_rewrites i b)).count
          (fun c => { c with expired := c.expired + 1 })).report (.count (.device .expiries))
        cases b.tenure.owner with
        | none => exact ⟨_, hremoved.report _⟩
        | some o => exact ⟨_, (hremoved.report (.notice (.directed o) _)).report _⟩
      · simp only [if_neg hl]
        exact hput _

theorem State.Twins.removeByJob (h : State.Twins x x' y y' i (.occupied b) none)
    (he : ∀ w, b.tenure.index = some w → y'.entry w = y.entry w) :
    ∃ c z, State.Twins x x' (y.removeByJob i b) (y'.removeByJob i b) i c z ∧ ∀ w, z = some w → b.tenure.index = some w := by
  have hremoved := (h.rewrite (by simp) (by simp) (removeBinding_rewrites i b)).count
    (fun c => { c with removed := c.removed + 1 })
  obtain ⟨z, hz, hw⟩ := hremoved.endTransferOf b .removed fun w hw => by simpa [State.entry] using he w hw
  exact ⟨_, z, hz, hw⟩

theorem State.Twins.orphanHold (h : State.Twins x x' y y' i (.occupied b) z) (p : Port) :
    ∃ c, State.Twins x x' (y.orphanHold p i b) (y'.orphanHold p i b) i c z :=
  ⟨_, ((h.rewrite (by simp) (by simp) (countHold_rewrites i { b with tenure := .orphaned } p b.domain)).count
    (fun c => { c with held := c.held + 1 })).report (.count (.device .orphansHeld))⟩

/-- The orphan action, where the standby port's quota check gives the same (R68). -/
theorem State.Twins.orphanAction (h : State.Twins x x' y y' i (.occupied b) z) (v : View) (p : Port)
    (hq : ∀ q, q ≠ p → y'.quotaAllows q = y.quotaAllows q) :
    ∃ c, State.Twins x x' (y.orphanAction v p i b) (y'.orphanAction v p i b) i c z := by
  have hstandby (pol : Policy) : y'.standbyMayAdopt v p pol = y.standbyMayAdopt v p pol := by
    unfold State.standbyMayAdopt
    by_cases hp : pol.standby = p
    · simp [hp]
    · rw [hq _ hp]
  unfold State.orphanAction
  simp only [h.policy, hstandby]
  cases (y.domain b.domain).policy.orphanAction with
  | remove =>
    cases b.cls with
    | leased =>
      exact ⟨_, (((h.rewrite (by simp) (by simp) (removeBinding_rewrites i b)).count
        (fun c => { c with removed := c.removed + 1 })).report (.count (.device .orphansRemoved))).report _⟩
    | pinned => exact h.orphanHold p
  | hold => exact h.orphanHold p
  | adopt =>
    cases y.standbyMayAdopt v p (y.domain b.domain).policy with
    | false => exact h.orphanHold p
    | true =>
      exact ⟨_, (((h.rewrite (by simp) (by simp) (countOwnerChange_rewrites i _ p _)).count
        (fun c => { c with adopted := c.adopted + 1 })).report (.count (.device .orphansAdopted))).report _⟩

theorem State.Twins.settleLostGiver (h : State.Twins x x' y y' i (.occupied b) none) (v : View) (p : Port) (w : TransferIndex)
    (r : Transfer) (hr : r.taker ≠ p) (hq : ∀ q, q ≠ p → y'.quotaAllows q = y.quotaAllows q) :
    ∃ c, State.Twins x x' (y.settleLostGiver v p i b w r) (y'.settleLostGiver v p i b w r) i c (some w) := by
  have href : y'.takerRefusal v r = y.takerRefusal v r := by
    unfold State.takerRefusal
    rw [hq _ hr]
  unfold State.settleLostGiver
  simp only [href]
  cases y.takerRefusal v r with
  | none => exact ⟨_, (h.rewrite (by simp) (by simp) (countOwnerChange_rewrites i _ r.giver r.taker)).endTransfer w r _ b⟩
  | some o =>
    exact ((h.rewrite (by simp) (by simp) (putBinding_rewrites i { b with tenure := .bound p })).endTransfer w r o
      b).orphanAction v p hq

theorem State.Twins.settleLostTaker (h : State.Twins x x' y y' i (.occupied b) none) (w : TransferIndex) (r : Transfer) :
    ∃ c, State.Twins x x' (y.settleLostTaker i b w r) (y'.settleLostTaker i b w r) i c (some w) :=
  ⟨_, (h.rewrite (by simp) (by simp) (putBinding_rewrites i { b with tenure := .bound r.giver })).endTransfer w r _ b⟩

/-! ### The slots of the jobs -/

/-- Two states within the laws that agree about slot `i`, its transfer, and the policies. -/
structure State.AgreesAt (x x' : State) (i : Nat) : Prop where
  laws : x.SlotLaws
  laws' : x'.SlotLaws
  slot : x'.slot i = x.slot i
  entry : ∀ w, (x.slot i).index? = some w → x'.entry w = x.entry w
  policy : ∀ d, (x'.domain d).policy = (x.domain d).policy

/-- The same is done at slot `i` of both. -/
def State.DoAlike (x x' y y' : State) (i : Nat) : Prop :=
  ∃ e, x.Does y i e ∧ x'.Does y' i e ∧ ∀ w, e.frees = some w → (x.slot i).index? = some w

theorem Slot.index?_eq_index (b : Binding) : (Slot.occupied b).index? = b.tenure.index := by
  rw [Slot.index?_occupied]
  cases b.tenure <;> rfl

theorem State.slotFails_does (hx : x.SlotLaws) (hi : x.slot i = .occupied b) :
    x.Does (x.slotFails i) i ⟨.defective, (x.slot i).index?, id, x.faultReports i⟩ where
  slot := by rw [State.slotFails_slot hx.form (.inr ⟨b, hi⟩), if_pos rfl]
  others j hj := by rw [State.slotFails_slot hx.form (.inr ⟨b, hi⟩), if_neg hj]
  transfers := State.slotFails_without hx.transfers hi
  maintenance := by rw [Maintenance.counted_id, (x.slotFails_frame i).2.2.2.1]
  reports := x.slotFails_appends i

theorem State.AgreesAt.begin (h : x.AgreesAt x' i) (hi : x.slot i = .occupied b) :
    State.Twins x x' x x' i (.occupied b) none :=
  .begin h.laws.form h.laws'.form h.policy hi (h.slot.trans hi)

theorem State.AgreesAt.entry_of (h : x.AgreesAt x' i) (hi : x.slot i = .occupied b) {w : TransferIndex}
    (hw : b.tenure.index = some w) : x'.entry w = x.entry w :=
  h.entry w (by rw [hi, Slot.index?_eq_index, hw])

/-- A reading of a binding does the same in both, if what it does to a binding that passes its check is the same (R97). -/
theorem State.AgreesAt.readBinding {g : Binding → State → State} (h : x.AgreesAt x' i) (f : List Nat)
    (hg : ∀ b, x.slot i = .occupied b →
      ∃ c z, State.Twins x x' (g b x) (g b x') i c z ∧ ∀ w, z = some w → b.tenure.index = some w) :
    State.DoAlike x x' (x.readBinding f i g) (x'.readBinding f i g) i := by
  by_cases hocc : ∃ b, x.slot i = .occupied b
  · obtain ⟨b, hi⟩ := hocc
    have hi' := h.slot.trans hi
    by_cases hf : i ∈ f
    · have hfail : ∀ s : State, s.slot i = .occupied b → s.readBinding f i g = s.slotFails i := fun s hs => by
        simp [State.readBinding, hs, hf]
      have hd := State.slotFails_does h.laws' hi'
      rw [h.slot, State.faultReports_congr h.slot h.entry] at hd
      rw [hfail x hi, hfail x' hi']
      exact ⟨_, State.slotFails_does h.laws hi, hd, fun w => id⟩
    · rw [State.readBinding_passes hi hf, State.readBinding_passes hi' hf]
      obtain ⟨c, z, ht, hz⟩ := hg b hi
      obtain ⟨k, l, hd, hd'⟩ := ht.does
      exact ⟨_, hd, hd', fun w hw => by rw [hi, Slot.index?_eq_index, hz w hw]⟩
  · have hno : ∀ b, x.slot i ≠ .occupied b := fun b hb => hocc ⟨b, hb⟩
    rw [State.readBinding_empty hno, State.readBinding_empty (by rwa [h.slot])]
    exact ⟨_, .still x i, h.slot ▸ .still x' i, by simp⟩

theorem State.AgreesAt.sweepSlot (h : x.AgreesAt x' i) (f : List Nat) :
    State.DoAlike x x' (sweepSlot f i x) (sweepSlot f i x') i := by
  refine h.readBinding f fun b hi => ?_
  have hbegin := h.begin hi
  cases b.tenure with
  | transfer => exact ⟨_, none, hbegin, by simp⟩
  | bound | orphaned =>
    obtain ⟨c, hc⟩ := (hbegin.count (fun c => { c with examined := c.examined + 1 })).ageBinding
    exact ⟨c, none, hc, by simp⟩

theorem State.AgreesAt.purgeSlot (h : x.AgreesAt x' i) (m : PurgeFilter) (f : List Nat) :
    State.DoAlike x x' (purgeSlot m f i x) (purgeSlot m f i x') i := by
  refine h.readBinding f fun b hi => ?_
  have hexamined := (h.begin hi).count (fun c => { c with examined := c.examined + 1 })
  cases m.matches b with
  | true => exact hexamined.removeByJob fun w hw => by simpa [State.entry] using h.entry_of hi hw
  | false => exact ⟨_, none, hexamined, by simp⟩

/-- An ORPHAN job's slot, where the quota checks of the other ports give the same (R144; log 18). -/
theorem State.AgreesAt.orphanSlot (h : x.AgreesAt x' i) (v : View) (p : Port) (f : List Nat)
    (hq : ∀ q, q ≠ p → x'.quotaAllows q = x.quotaAllows q) :
    State.DoAlike x x' (orphanSlot v p f i x) (orphanSlot v p f i x') i := by
  refine h.readBinding f fun b hi => ?_
  have hbegin := h.begin hi
  have hexamined := hbegin.count (fun c => { c with examined := c.examined + 1 })
  have hquota : ∀ q, q ≠ p → x'.examine.quotaAllows q = x.examine.quotaAllows q := fun q hne => by
    have hexam (s : State) : s.examine.quotaAllows q = s.quotaAllows q := by
      have hd : s.examine.directory = s.directory := by simp [State.examine]
      have hx : s.examine.settings = s.settings := by simp [State.examine]
      rw [State.quotaAllows, State.owned, hd, hx]
      rfl
    rw [hexam, hexam, hq q hne]
  cases hb : b.tenure with
  | orphaned => exact ⟨_, none, hbegin, by simp⟩
  | bound o =>
    by_cases ho : o = p
    · simp only [if_pos ho]
      obtain ⟨c, hc⟩ := hexamined.orphanAction v p hquota
      exact ⟨c, none, hc, by simp⟩
    · simp only [if_neg ho]
      exact ⟨_, none, hbegin, by simp⟩
  | transfer g w =>
    obtain ⟨r, hr, -, hg, hne⟩ := h.laws.transfers.entry hi hb
    have hw : ∀ u, some w = some u → (Tenure.transfer g w).index = some u := fun u hu => hu
    simp only [h.entry_of hi (show b.tenure.index = some w by rw [hb]; rfl), hr]
    by_cases hgp : g = p
    · simp only [if_pos hgp]
      obtain ⟨c, hc⟩ := hexamined.settleLostGiver v p w r (fun ht => hne (hgp.trans ht.symm)) hquota
      exact ⟨c, some w, hc, hw⟩
    · by_cases htp : r.taker = p
      · simp only [if_neg hgp, if_pos htp]
        obtain ⟨c, hc⟩ := hexamined.settleLostTaker w r
        exact ⟨c, some w, hc, hw⟩
      · simp only [if_neg hgp, if_neg htp]
        exact ⟨_, none, hbegin, by simp⟩

end

end Sys2Proof.Machine
end

section
/-! SUPPORT. A bucket's grant that meets a failed slot leads to the same as one in which the slot has failed before (R97). -/

namespace Sys2Proof.Machine

/-! ### A job that reads bindings -/

/-- The rule of a job that reads the bindings of its bucket (R97), and makes the quota check for the ports `ports` (log 18). -/
structure ReadsBindings (f : Nat → State → State) (failing : List Nat) (ports : Port → Prop) : Prop where
  behind : ∀ i z w l, f i (State.behind z w l) = (f i z).behind w l
  acts : ∀ i s, State.ActsInBucket s (f i s)
  keeps : ∀ i s, State.Keeps s (f i s)
  reads : ∀ i, ∃ g, ∀ s, f i s = State.readBinding s failing i g
  alike : ∀ i x x', State.AgreesAt x x' i → (∀ q, ports q → x'.quotaAllows q = x.quotaAllows q) →
    State.DoAlike x x' (f i x) (f i x') i

/-- The ports, other than a lost one, that an ORPHAN job may give bindings to (R147, R149). -/
def Job.gives (j : Job) (q : Port) : Prop := ∃ p c, j.work = .orphan p c ∧ q ≠ p

theorem Job.exists_reads {j : Job} (v : View) (failing : List Nat) (hw : j.work ≠ .clear) :
    ∃ f, BucketAct v j (j.row ⟨failing, none⟩) none f ∧ ReadsBindings f failing j.gives := by
  cases hj : j.work with
  | sweep =>
    exact ⟨_, by simpa [Job.row, hj] using BucketAct.sweep ⟨failing, none⟩ hj, fun i z w l => sweepSlot_behind z w l failing i,
      sweepSlot_actsInBucket failing, sweepSlot_keeps failing, fun i => ⟨_, fun s => rfl⟩, fun i x x' h _ => h.sweepSlot failing⟩
  | purge m =>
    exact ⟨_, by simpa [Job.row, hj] using BucketAct.purge ⟨failing, none⟩ m hj,
      fun i z w l => purgeSlot_behind z w l m failing i, purgeSlot_actsInBucket m failing, purgeSlot_keeps m failing,
      fun i => ⟨_, fun s => rfl⟩, fun i x x' h _ => h.purgeSlot m failing⟩
  | clear => exact absurd hj hw
  | orphan p c =>
    exact ⟨_, by simpa [Job.row, hj] using BucketAct.orphan ⟨failing, none⟩ p c hj,
      fun i z w l => orphanSlot_behind z w l v p failing i, orphanSlot_actsInBucket v p failing, orphanSlot_keeps v p failing,
      fun i => ⟨_, fun s => rfl⟩, fun i x x' h hq => h.orphanSlot v p failing fun q hne => hq q ⟨p, c, hj, hne⟩⟩

section
variable {f : Nat → State → State} {failing : List Nat} {ports : Port → Prop} {x y : State} {i j n : Nat} {b : Binding}

theorem ReadsBindings.idle (h : ReadsBindings f failing ports) (hi : ∀ b, x.slot i ≠ .occupied b) : f i x = x := by
  obtain ⟨g, hg⟩ := h.reads i
  rw [hg, State.readBinding_empty hi]

theorem ReadsBindings.fails (h : ReadsBindings f failing ports) (hi : x.slot i = .occupied b) (hf : i ∈ failing) :
    f i x = x.slotFails i := by
  obtain ⟨g, hg⟩ := h.reads i
  rw [hg]
  simp [State.readBinding, hi, hf]

/-! ### The state before the failed slot is reached -/

/-- Within the laws, a change of one slot raises a port's owned_count by one at most (R10). -/
theorem State.SlotLaws.owned_le (hx : x.SlotLaws) (hy : y.SlotLaws) (hj : x.slot j ≠ .undefined) (hyj : y.slot j ≠ .undefined)
    (ho : x.OtherSlots y j) (q : Port) : y.owned q ≤ x.owned q + 1 := by
  have hin := State.inRange_of_slot hj hx.form
  have hread := Directory.write_read hx.form hin hyj
  obtain ⟨hcells, -⟩ := Directory.store_ext hy.form (Directory.write_wf hx.form hin (y.slot j)) fun m => by
    rw [hread]
    by_cases hm : m = j
    · rw [if_pos hm, hm]
      rfl
    · rw [if_neg hm]
      exact ho m hm
  have htally := Directory.tally_write hx.form (g := Slot.holds (Binding.ownedBy q)) rfl rfl j (y.slot j)
  have hw : (y.slot j).weight (Slot.holds (Binding.ownedBy q)) ≤ 1 := by
    unfold Slot.weight
    split <;> simp
  have hy' := (State.CountsLaw.iff.1 hy.counts).1 q
  have hx' := (State.CountsLaw.iff.1 hx.counts).1 q
  rw [Directory.tally, hcells, ← Directory.tally] at hy'
  omega

/-- A state in which slot `i` holds the binding that will be lost, with room for `n` bindings more at an owner that the job
may give bindings to. -/
structure State.Awaits (x : State) (i : Nat) (b : Binding) (ports : Port → Prop) (n : Nat) : Prop where
  laws : x.SlotLaws
  slot : x.slot i = .occupied b
  grant : x.grant ≠ none
  room : ∀ q, ports q → b.tenure.owner = some q → x.owned q + n ≤ x.settings.quota.get q

theorem State.Awaits.agrees (h : x.Awaits i b ports n) (hji : j ≠ i) : x.AgreesAt (x.slotFails i) j where
  laws := h.laws
  laws' := (State.slotFails_keeps (.inr ⟨b, h.slot⟩)).laws h.laws
  slot := by rw [State.slotFails_slot h.laws.form (.inr ⟨b, h.slot⟩), if_neg hji]
  entry w hw := (State.slotFails_does h.laws h.slot).entry fun hi => hji (h.laws.transfers.index_inj hw hi)
  policy := (State.slotFails_keeps (.inr ⟨b, h.slot⟩)).policy

theorem State.Awaits.quotas (h : x.Awaits i b ports (n + 1)) (q : Port) (hq : ports q) :
    (x.slotFails i).quotaAllows q = x.quotaAllows q := by
  have hown := (State.failed_losesSlot h.laws.form (.inr ⟨b, h.slot⟩)).owned b h.slot q
  have hset : (x.slotFails i).settings = x.settings := by simp
  have howned : (x.slotFails i).owned q = if b.tenure.owner = some q then x.owned q - 1 else x.owned q := hown
  have hroom := h.room q hq
  unfold State.quotaAllows
  rw [howned, hset, decide_eq_decide]
  split
  next ho =>
    have := hroom ho
    omega
  · rfl

theorem State.Awaits.step (h : x.Awaits i b ports (n + 1)) (hf : ReadsBindings f failing ports) (hji : j ≠ i) :
    (f j x).Awaits i b ports n ∧ ((f j x).slotFails i).Alike (f j (x.slotFails i)) := by
  obtain ⟨e, hd, hd', hz⟩ := hf.alike j x _ (h.agrees hji) h.quotas
  have hlaws := (hf.keeps j x).laws h.laws
  have hset : (f j x).settings = x.settings := (hf.acts j x).frame .settings (by simp)
  obtain ⟨g, hg⟩ := Option.ne_none_iff_exists'.1 h.grant
  refine ⟨⟨hlaws, (hd.others i hji.symm).trans h.slot, (hf.acts j x).grant_ne h.grant, fun q hq ho => ?_⟩,
    hd.fails h.laws hg h.slot hji hd' hz (hf.keeps j x) (hf.keeps j _) (hf.acts j x) (hf.acts j _)⟩
  have hroom := h.room q hq ho
  rw [hset]
  by_cases hocc : ∃ c, x.slot j = .occupied c
  · obtain ⟨c, hc⟩ := hocc
    have hturn := (hf.keeps j x).turns h.laws.form j
    have hle := h.laws.owned_le hlaws (j := j) (by simp [hc]) (fun hu => by simp [hc, hu, Slot.MayTurn] at hturn) hd.others q
    omega
  · rw [hf.idle fun c hc => hocc ⟨c, hc⟩]
    omega

theorem State.Alike.overSlots (h : x.Alike y) (hf : ReadsBindings f failing ports) (l : List Nat) :
    (x.overSlots f l).Alike (y.overSlots f l) := by
  induction l generalizing x y with
  | nil => exact h
  | cons j rest ih => exact ih (h.congr (hf.behind j) fun z hz => (hf.acts j z).grant_ne hz)

/-- The slots before the failed one, processed before it fails or after (R19, R97). -/
theorem State.Awaits.overSlots (hf : ReadsBindings f failing ports) {l : List Nat} (h : x.Awaits i b ports l.length)
    (hi : i ∉ l) : ((x.overSlots f l).slotFails i).Alike ((x.slotFails i).overSlots f l)
      ∧ (x.overSlots f l).Awaits i b ports 0 := by
  induction l generalizing x with
  | nil =>
    obtain ⟨g, hg⟩ := Option.ne_none_iff_exists'.1 h.grant
    have happ : (x.slotFails i).grant = some { g with reports := g.reports ++ x.faultReports i } := by
      have := x.slotFails_appends i
      rwa [State.Appends, hg] at this
    exact ⟨.refl happ, h⟩
  | cons j rest ih =>
    rw [List.mem_cons, not_or] at hi
    obtain ⟨hnext, hstep⟩ := h.step hf (Ne.symm hi.1)
    obtain ⟨hlike, hlast⟩ := ih hnext hi.2
    exact ⟨hlike.trans (hstep.overSlots hf rest), hlast⟩

theorem State.Alike.slot (h : x.Alike y) (m : Nat) : y.slot m = x.slot m := by
  obtain ⟨g, l, -, -, rfl⟩ := h
  rfl

theorem State.overSlots_append (x : State) (f : Nat → State → State) (l m : List Nat) :
    x.overSlots f (l ++ m) = (x.overSlots f l).overSlots f m := List.foldl_append

/-- The slots of a bucket with a failed one come to what they come to after the failure, but for the order of the reports
(R97). -/
theorem State.Awaits.bucket (hf : ReadsBindings f failing ports) (hi : i ∈ failing) {l : List Nat} (hl : l.Nodup)
    (hm : i ∈ l) (h : x.Awaits i b ports l.length) : (x.overSlots f l).Alike ((x.slotFails i).overSlots f l) := by
  obtain ⟨l1, l2, rfl⟩ := List.mem_iff_append.1 hm
  obtain ⟨-, hnd, hdis⟩ := List.nodup_append.1 hl
  have hi1 : i ∉ l1 := fun h1 => hdis i h1 i List.mem_cons_self rfl
  have h1 : x.Awaits i b ports l1.length := ⟨h.laws, h.slot, h.grant, fun q hq ho => by
    have := h.room q hq ho
    rw [List.length_append] at this
    omega⟩
  obtain ⟨hlike, hlast⟩ := h1.overSlots hf hi1
  have hdef : ((x.slotFails i).overSlots f l1).slot i = .defective :=
    (hlike.slot i).trans (State.slotFails_does hlast.laws hlast.slot).slot
  rw [State.overSlots_append, State.overSlots_append]
  have hx : (x.overSlots f l1).overSlots f (i :: l2) = ((x.overSlots f l1).slotFails i).overSlots f l2 := by
    rw [← hf.fails hlast.slot hi]
    rfl
  have hy : ((x.slotFails i).overSlots f l1).overSlots f (i :: l2) = ((x.slotFails i).overSlots f l1).overSlots f l2 :=
    congrArg (fun z : State => z.overSlots f l2) (hf.idle (x := (x.slotFails i).overSlots f l1) (by simp [hdef]))
  rw [hx, hy]
  exact hlike.overSlots hf l2

end

end Sys2Proof.Machine
end

section
/-! SUPPORT. What the end of a bucket's grant does not see: the Notice Unit and the counters of the ports (R95, R98). -/

namespace Sys2Proof.Machine

/-- The state with the grant, the Notice Unit and the counters of the ports of another. -/
def State.aside (s w : State) : State :=
  { s with grant := w.grant, notices := w.notices, portCounters := w.portCounters }

/-- The states are the same but for the grant, the Notice Unit and the counters of the ports. -/
def State.Beside (x y : State) : Prop := ∃ w, y = x.aside w

section
variable {x y v : State}

theorem State.Beside.refl (x : State) : x.Beside x := ⟨x, rfl⟩

theorem State.Beside.trans (h : x.Beside y) (k : y.Beside v) : x.Beside v := by
  obtain ⟨w, rfl⟩ := h
  obtain ⟨w', rfl⟩ := k
  exact ⟨w', rfl⟩

theorem State.Beside.symm (h : x.Beside y) : y.Beside x := by
  obtain ⟨w, rfl⟩ := h
  exact ⟨x, rfl⟩

theorem State.Beside.of_changes (h : x.ChangesOnly y [.arbiter, .notices, .portCounters])
    (hl : y.lastGranted = x.lastGranted) : x.Beside y := by
  have h1 : y.resetHeld = x.resetHeld := h .resetHeld (by simp)
  have h2 : y.ready = x.ready := h .ready (by simp)
  have h3 : y.directory = x.directory := h .directory (by simp)
  have h4 : y.domains = x.domains := h .domains (by simp)
  have h5 : y.transfers = x.transfers := h .transfers (by simp)
  have h6 : y.maintenance = x.maintenance := h .maintenance (by simp)
  have h7 : y.ports = x.ports := h .ports (by simp)
  have h9 : y.lease = x.lease := h .lease (by simp)
  have h10 : y.settings = x.settings := h .settings (by simp)
  have h11 : y.timebase = x.timebase := h .timebase (by simp)
  have h13 : y.deviceCounters = x.deviceCounters := h .deviceCounters (by simp)
  have h14 : y.pending = x.pending := h .pending (by simp)
  refine ⟨y, ?_⟩
  cases x
  cases y
  simp only [State.aside, State.mk.injEq] at *
  simp [*]

/-- An operation that sees none of these does the same to both. -/
theorem State.Beside.congr {f : State → State} (h : x.Beside y) (hf : ∀ z w, f (State.aside z w) = (f z).aside w) :
    (f x).Beside (f y) := by
  obtain ⟨w, rfl⟩ := h
  exact ⟨w, hf x w⟩

theorem State.notify_beside (x : State) (a : Audience) (n : Notice) : x.Beside (x.notify a n) :=
  .of_changes (fun p hp => by cases p <;> simp [State.Same] at hp ⊢) (by simp)

theorem State.Beside.notify (h : x.Beside y) (a : Audience) (n : Notice) : (x.notify a n).Beside (y.notify a n) :=
  ((x.notify_beside a n).symm.trans h).trans (y.notify_beside a n)

theorem State.Beside.count (h : x.Beside y) (c : DeviceCounter) :
    (x.count (.device c)).Beside (y.count (.device c)) := by
  obtain ⟨w, rfl⟩ := h
  have hcount (z : State) (n : DeviceCounter) : (z.count (.device c)).deviceCounters.get n
      = if n = c then z.deviceCounters.get c + 1 else z.deviceCounters.get n := by
    have := z.count_counter (.device c) (d := .device n) (by simp)
    simpa [State.counter] using this
  have hdev : ((x.aside w).count (.device c)).deviceCounters = (x.count (.device c)).deviceCounters :=
    DeviceCounters.ext_get fun n => by
      rw [hcount, hcount]
      rfl
  refine .of_changes (fun p hp => ?_) (by simp [State.aside])
  cases p <;> simp [State.Same, State.aside] at hp ⊢
  exact hdev

/-! ### The finish of a job -/

theorem State.Beside.maintenance (h : x.Beside y) : y.maintenance = x.maintenance := by
  obtain ⟨w, rfl⟩ := h
  rfl

theorem State.Beside.closeJob (h : x.Beside y) (o : JobOutcome) (j : Job) : (x.closeJob o j).Beside (y.closeJob o j) := by
  have hrec : (x.recordJob (j.record o)).Beside (y.recordJob (j.record o)) :=
    h.congr (f := fun z => z.recordJob (j.record o)) fun _ _ => rfl
  unfold State.closeJob State.notifyJobDone
  cases j.requester with
  | none => exact hrec
  | some r => exact hrec.notify _ _

theorem State.Beside.closeJobs (h : x.Beside y) (o : JobOutcome) (l : List Job) :
    (l.foldl (fun t c => t.closeJob o c) x).Beside (l.foldl (fun t c => t.closeJob o c) y) := by
  induction l generalizing x y with
  | nil => exact h
  | cons j rest ih => exact ih (h.closeJob o j)

theorem State.Beside.withQueue (h : x.Beside y) (q : List Job) : (x.withQueue q).Beside (y.withQueue q) :=
  h.congr (f := fun z => z.withQueue q) fun _ _ => rfl

theorem State.Beside.startHead (h : x.Beside y) : x.startHead.Beside y.startHead := by
  unfold State.startHead
  rw [h.maintenance]
  cases x.maintenance.queue with
  | nil => exact h
  | cons j rest =>
    by_cases hc : j.work.kind = .clear
    · simp only [if_pos hc]
      exact (h.withQueue _).closeJobs _ _
    · simp only [if_neg hc]
      exact h

theorem State.Beside.afterFinish (h : x.Beside y) (j : Job) (o : JobOutcome) :
    (x.afterFinish j o).Beside (y.afterFinish j o) := by
  unfold State.afterFinish
  split
  · exact (h.notify _ _).count _
  next p c _ =>
    have hport : (x.modifyPort p (fun q => { q with session := .offline })).Beside
        (y.modifyPort p (fun q => { q with session := .offline })) :=
      h.congr (f := fun z => z.modifyPort p (fun q => { q with session := .offline })) fun _ _ => rfl
    exact hport.notify _ _
  · split
    · exact h.congr (f := fun z => z.withReady true) fun _ _ => rfl
    · exact h
  · exact h

theorem State.Beside.finishHead (h : x.Beside y) (o : JobOutcome) : (x.finishHead o).Beside (y.finishHead o) := by
  unfold State.finishHead
  rw [h.maintenance]
  cases x.maintenance.queue with
  | nil => exact h
  | cons j rest => exact (((h.withQueue rest).closeJob o j).afterFinish j o).startHead

theorem State.modifyHeadJob_aside (x w : State) (f : Job → Job) :
    (x.aside w).modifyHeadJob f = (x.modifyHeadJob f).aside w := by
  unfold State.modifyHeadJob
  rw [show (x.aside w).maintenance = x.maintenance from rfl]
  split <;> rfl

/-- The end of a bucket for which no ABORT_JOB waits (R95, R98). -/
theorem State.Beside.endBucket (h : x.Beside y) {j : Job} {rest : List Job} (hq : x.maintenance.queue = j :: rest)
    (ha : x.maintenance.abortWaiting = []) : x.endBucket.Beside y.endBucket := by
  have hqy : y.maintenance.queue = j :: rest := h.maintenance ▸ hq
  have hay : y.maintenance.abortWaiting = [] := h.maintenance ▸ ha
  by_cases hlast : 2048 ≤ j.cursor + 1
  · have aborts {z : State} (hz : z.maintenance.queue = j :: rest) (hza : z.maintenance.abortWaiting = []) :
        (z.finishHead .done).maintenance.abortWaiting = [] := by
      rw [State.finishHead_maintenance hz]
      exact hza
    rw [State.endBucket_last hq hlast, State.endBucket_last hqy hlast, State.refuseAborts_nobody (aborts hq ha),
      State.refuseAborts_nobody (aborts hqy hay)]
    exact (h.finishHead .done).congr (f := fun z => z.clearAborts) fun _ _ => rfl
  · have aborts {z : State} (hz : z.maintenance.queue = j :: rest) (hza : z.maintenance.abortWaiting = []) :
        (z.modifyHeadJob (fun h => { h with cursor := h.cursor + 1 })).maintenance.abortWaiting = [] := by
      rw [State.modifyHeadJob_maintenance hz]
      exact hza
    rw [State.endBucket_more hq (by omega), State.endBucket_more hqy (by omega), State.stopIfAborted_nobody (aborts hq ha),
      State.stopIfAborted_nobody (aborts hqy hay)]
    exact h.congr (f := fun z => z.modifyHeadJob (fun h => { h with cursor := h.cursor + 1 }))
      fun z w => z.modifyHeadJob_aside w _

theorem State.Beside.modifyCounts (h : x.Beside y) (f : JobCounts → JobCounts) :
    (x.modifyCounts f).Beside (y.modifyCounts f) :=
  h.congr (f := fun z => z.modifyCounts f) fun z w => z.modifyHeadJob_aside w _

/-- When the grant ends, the arbiter's choice is the same (R14, R15). -/
theorem State.Beside.endGrant (h : x.Beside y) : x.endGrant.ChangesOnly y.endGrant [.notices, .portCounters] := by
  obtain ⟨w, rfl⟩ := h
  have hend : (x.aside w).endGrant = { x.endGrant with notices := w.notices, portCounters := w.portCounters } := by
    have hwait : ((x.aside w).withGrant none).waiting = (x.withGrant none).waiting := rfl
    unfold State.endGrant State.arbitrate
    rw [hwait, show ((x.aside w).withGrant none).lastGranted = (x.withGrant none).lastGranted from rfl,
      show ((x.aside w).withGrant none).resetHeld = (x.withGrant none).resetHeld from rfl,
      show ((x.aside w).withGrant none).grant = (x.withGrant none).grant from rfl]
    split
    · rfl
    · split <;> rfl
  rw [hend]
  intro p hp
  cases p <;> simp [State.Same] at hp ⊢

/-! ### The notice queues at the end of a bucket -/

theorem State.afterFinish_grows (s : State) (j : Job) (o : JobOutcome) (q : Port) :
    (s.noticePort q).Grows ((s.afterFinish j o).noticePort q) := by
  unfold State.afterFinish State.endDrain
  split
  · exact (s.notify_grows _ _ q).trans (State.count_grows _ _ q)
  · exact State.notify_grows (s.modifyPort _ _) _ _ q
  · split <;> exact .refl _
  · exact .refl _

theorem State.finishHead_grows (s : State) (o : JobOutcome) (q : Port) :
    (s.noticePort q).Grows ((s.finishHead o).noticePort q) := by
  unfold State.finishHead
  cases s.maintenance.queue with
  | nil => exact .refl _
  | cons j rest =>
    exact (((s.withQueue rest).closeJob_onward o j q).1.trans (State.afterFinish_grows _ j o q)).trans
      (State.startHead_onward _ q).1

/-- The end of a bucket's grant takes nothing from a notice queue (R95, R98). -/
theorem State.endBucket_grows {s : State} {j : Job} {rest : List Job} (hq : s.maintenance.queue = j :: rest)
    (ha : s.maintenance.abortWaiting = []) (q : Port) : (s.noticePort q).Grows (s.endBucket.noticePort q) := by
  by_cases hlast : 2048 ≤ j.cursor + 1
  · rw [State.endBucket_last hq hlast]
    exact (s.finishHead_grows .done q).trans (State.refuseAborts_onward _ q).1
  · have hm := State.modifyHeadJob_maintenance hq (fun h => { h with cursor := h.cursor + 1 })
    have haw : (s.modifyHeadJob (fun h => { h with cursor := h.cursor + 1 })).maintenance.abortWaiting = [] := by
      rw [hm]
      exact ha
    rw [State.endBucket_more hq (by omega), State.stopIfAborted_nobody haw]
    exact (State.Onward.of_eq (by simp) (by simp) : s.Onward _) q |>.1

end

end Sys2Proof.Machine
end

section
/-! SUPPORT. O42: a slot that fails its check, wherever it is read (R18 to R21, R97). -/

namespace Sys2Proof.Machine

section
variable {s : State} {v : View} {j : Job} {rest : List Job} {i : Nat} {b : Binding} {failing : List Nat}
  {f : Nat → State → State}

theorem State.InBucket.failed (hin : s.InBucket v j rest) (i : Nat) : (s.failed i).InBucket v j rest := by
  have hm : (s.failed i).maintenance = s.maintenance := s.failed_changes i .maintenance (by simp)
  exact ⟨hin.grant, hm ▸ hin.queue, hm ▸ hin.aborts⟩

theorem State.overSlots_behind (hf : ∀ i z w l, f i (State.behind z w l) = (f i z).behind w l) (z w : State) (l : List Report)
    (m : List Nat) : (z.behind w l).overSlots f m = (z.overSlots f m).behind w l := by
  induction m generalizing z with
  | nil => rfl
  | cons j rest ih =>
    have h := ih (f j z)
    rw [← hf] at h
    exact h

/-- A bucket's operation with a failed slot, and the same after the failure, behind the failure's reports (R97). -/
theorem State.InBucket.actBucket_fails (hin : s.InBucket v j rest) (hs : s.SlotLaws) (hf : ReadsBindings f failing j.gives)
    (hi : i ∈ failing) (hm : i ∈ bucketSlots j.cursor) (hslot : s.slot i = .occupied b)
    (hroom : ∀ q, j.gives q → b.tenure.owner = some q → s.owned q + 8 ≤ s.settings.quota.get q) :
    (s.actBucket j f).Alike (((s.failed i).actBucket j f).behind s (s.faultReports i)) := by
  have hlen : (bucketSlots j.cursor).length = 8 := by simp [bucketSlots, Config.ways]
  have hlike := State.Awaits.bucket hf hi (bucketSlots_nodup j.cursor) hm
    ⟨hs, hslot, by simp [hin.grant], fun q hq ho => by rw [hlen]; exact hroom q hq ho⟩
  rw [State.slotFails_eq_behind hin.grant, State.overSlots_behind hf.behind] at hlike
  have hcounts : (s.overSlots f (bucketSlots j.cursor)).maintenance.headCounts
      = ((s.failed i).overSlots f (bucketSlots j.cursor)).maintenance.headCounts := by
    obtain ⟨g, m, -, -, hy⟩ := hlike
    exact (congrArg (fun z : State => z.maintenance.headCounts) hy).symm
  unfold State.actBucket
  dsimp only
  rw [hcounts]
  generalize ((s.failed i).overSlots f (bucketSlots j.cursor)).maintenance.headCounts = k
  have h := hlike.congr (f := fun z => (z.modifyCounts (fun _ => j.counts)).acted (.bucket k))
    (fun z w l => by rw [State.behind_modifyCounts, State.acted_behind]) fun z hz => by
      simpa [State.acted] using hz
  simpa only [State.behind_modifyCounts, State.acted_behind] using h

theorem State.InBucket.actBucket_grant (hin : s.InBucket v j rest) (hf : ∀ i s, State.ActsInBucket s (f i s)) :
    ∃ r k, (s.actBucket j f).grant = some ⟨.maintenance, v, r, some (.bucket k)⟩ := by
  obtain ⟨r, hr⟩ := (s.overSlots_actsInBucket hf (bucketSlots j.cursor)).reports
  exact ⟨r, (s.overSlots f (bucketSlots j.cursor)).maintenance.headCounts, by
    simp [State.actBucket, State.acted, hr, hin.grant, Grant.fresh]⟩

/-- The reports of the two grants, handed over, leave states that differ in the order of notices only (R97, R160). -/
theorem State.Alike.delivered {x y u : State} {l r m : List Report} {g : Grant} (hx : x.grant = some g)
    (hperm : g.reports.Perm m) (hy : y.behind s l = x.withGrant (some { g with reports := m })) (hm : m = l ++ r)
    (hdev : y.deviceCounters = u.deviceCounters)
    (hu : ∀ n, u.counter (.device n) = s.counter (.device n) + BitVec.ofNat 32 (countsOf n l)) :
    (r.foldl State.deliver y).Beside (g.reports.foldl State.deliver x) := by
  have hxy : x = (y.behind s l).withGrant (some g) := by
    rw [hy]
    exact (State.withGrant_self hx).symm
  have hcount (n : DeviceCounter) : (g.reports.foldl State.deliver x).counter (.device n)
      = (r.foldl State.deliver y).counter (.device n) := by
    have hxn : x.counter (.device n) = s.counter (.device n) := by
      rw [hxy]
      rfl
    have hyn : y.counter (.device n) = u.counter (.device n) := by simp [State.counter, hdev]
    rw [State.deliverAll_counter _ _ (by simp), State.deliverAll_counter _ _ (by simp), hxn, hyn, hu, hperm.count_eq, hm,
      List.count_append, BitVec.ofNat_add, BitVec.add_assoc]
    rfl
  have hd : (g.reports.foldl State.deliver x).deviceCounters = (r.foldl State.deliver y).deviceCounters :=
    DeviceCounters.ext_get hcount
  refine .of_changes (fun p hp => ?_) (by simp [hxy, State.behind])
  cases p <;> simp [State.Same, hd] at hp ⊢ <;> simp [hxy, State.behind]

/-- A bucket's grant that meets a failed slot ends as it would have after the failure, but for the notices and what they count
(R19, R97). -/
theorem State.InBucket.exec_fails {c : Instr} (hin : s.InBucket v j rest) (hs : s.SlotLaws) (h : BucketAct v j c none f)
    (hf : ReadsBindings f failing j.gives) (hi : i ∈ failing) (hm : i ∈ bucketSlots j.cursor) (hslot : s.slot i = .occupied b)
    (hroom : ∀ q, j.gives q → b.tenure.owner = some q → s.owned q + 8 ≤ s.settings.quota.get q) :
    ∃ t w, exec c s = .next t ∧ exec c (s.failed i) = .next w ∧ w.ChangesOnly t [.notices, .portCounters]
      ∧ s.TellsSlotFault t i := by
  have hinu := hin.failed i
  obtain ⟨⟨gc, gv, l, ge⟩, m, hg, hperm, hy⟩ := hin.actBucket_fails hs hf hi hm hslot hroom
  obtain ⟨r, k, hr⟩ := hinu.actBucket_grant (f := f) hf.acts
  have hgrants : some (Grant.mk .maintenance v (s.faultReports i ++ r) (some (.bucket k)))
      = some (Grant.mk gc gv m ge) := by
    have := congrArg State.grant hy
    simpa [State.behind, hr] using this
  obtain ⟨rfl, rfl, rfl, rfl⟩ := Grant.mk.inj (Option.some.inj hgrants)
  have hact := State.actBucket_acted hin.grant hin.queue hf.acts
  have hactu := State.actBucket_acted hinu.grant hinu.queue hf.acts
  have hmu := State.actBucket_maintenance hinu.queue h
  have hbeside := State.Alike.delivered (u := s.failed i) hg hperm hy rfl (hactu.frame .deviceCounters (by simp))
    fun n => by
      have hc : (s.failed i).counter (.device n) = ((s.faultReports i).foldl State.deliver s).counter (.device n) :=
        State.counter_congr rfl rfl _
      rw [hc, State.deliverAll_counter _ _ (by simp)]
      rfl
  have hgo (z : State) (X : Option Grant) : z.Beside (z.withGrant X) := ⟨z.withGrant X, rfl⟩
  have hends := ((hgo _ (some ⟨.maintenance, v, [], some (.bucket k)⟩)).symm.trans hbeside).trans
    (hgo _ (some ⟨.maintenance, v, [], some (.bucket k)⟩))
  have hq : ((((r.foldl State.deliver ((s.failed i).actBucket j f)).withGrant
      (some ⟨.maintenance, v, [], some (.bucket k)⟩)).modifyCounts fun _ => k)).maintenance.queue = { j with counts := k } :: rest := by
    rw [State.modifyCounts_maintenance (j := j) (rest := rest) (by simp [hmu, hinu.queue])]
  have ha : ((((r.foldl State.deliver ((s.failed i).actBucket j f)).withGrant
      (some ⟨.maintenance, v, [], some (.bucket k)⟩)).modifyCounts fun _ => k)).maintenance.abortWaiting = [] := by
    rw [State.modifyCounts_maintenance (j := j) (rest := rest) (by simp [hmu, hinu.queue])]
    simp [hmu, hinu.aborts]
  have hcounted := hends.modifyCounts fun _ => k
  refine ⟨_, _, BucketAct.exec_eq hin.grant hin.queue h, BucketAct.exec_eq hinu.grant hinu.queue h, ?_, .of fun a n q hn hrec => ?_⟩
  · rw [State.advance_none hg rfl, State.advance_none hr rfl]
    exact (hcounted.endBucket hq ha).endGrant
  · rw [State.advance_none hg rfl]
    have hb := s.overSlots_actsInBucket hf.acts (bucketSlots j.cursor)
    have hports : (s.actBucket j f).ports = s.ports := by
      have : (s.overSlots f (bucketSlots j.cursor)).ports = s.ports := hb.frame .ports (by simp)
      simp [State.actBucket, this]
    have hnotices : (s.actBucket j f).notices = s.notices := hact.frame .notices (by simp)
    have hmem : Report.notice a n ∈ l := hperm.mem_iff.2 (List.mem_append_left r hn)
    have hhands : s.Hands (l.foldl State.deliver (s.actBucket j f)) q n :=
      (State.deliverAll_hands hmem fun ho => by
        rw [State.receives_congr hports]
        rw [State.port, hports] at ho
        exact hrec ho).before (.of_eq hports hnotices)
    have hcounts := State.modifyCounts_onward ((l.foldl State.deliver (s.actBucket j f)).withGrant
      (some ⟨.maintenance, v, [], some (.bucket k)⟩)) (fun _ => k) q
    have hbucket := State.endBucket_grows (hcounted.maintenance ▸ hq) (hcounted.maintenance ▸ ha) q
    exact .of_gains fun ho => (hhands ho).after ((hcounts.1.trans hbucket).trans (State.endGrant_onward _ q).1)

end

/-- Settles O42: a request that ends at the failed slot leaves the store of `slotFails`; one that goes on sees the same slots
in `failed`, behind the reports of the failure; and in a bucket the failure goes together with what is done at other slots. -/
theorem slotCheckFailureLosesBinding : Obligations.SlotCheckFailureLosesBinding := by
  unfold Obligations.SlotCheckFailureLosesBinding
  intro s failing i hs hf
  refine ⟨fun p v rq hin hb hi => ?_, fun p v rq hin hreads => ?_, fun p v rq d k b hin hlook hnc hcl hm hi hholds hothers => ?_,
    fun p v rq x decision e b hin hb hd he hg hslot hi => ?_, fun v x rest e b hg hq he hslot hi => ?_,
    fun v j rest b hin hlaw hw hm hi hroom => ?_⟩
  · obtain ⟨t, hrun, hans, hlost, -, hch⟩ := hin.fails (.readSlot ⟨failing, none⟩ i hb) (by rw [hb]; rfl) hs hi.symm
      (by simp) (readSlotReply_fails hi.symm hf)
    exact ⟨t, hrun, hans, hlost, hch⟩
  · obtain ⟨hmay, hexec⟩ := hreads.exec_failed hin hs hf
    exact ⟨s.failed i, State.failed_losesSlot hs hmay, State.failed_wf hs hmay, s.failed_changes i, hexec⟩
  · obtain ⟨act, m, hact, hcount, hrep⟩ := hlook.miss_of_lost (v := v) hnc hcl (State.lookup_lost hs hm hi hf hothers)
    obtain ⟨t, hrun, hans, hlost, -, hch⟩ := hin.fails hact rfl hs (.inr ⟨b, hi⟩) hcount hrep
    exact ⟨t, hrun, hans, hlost, hch⟩
  · obtain ⟨settle, hact⟩ := handoverReply_act (p := p) (v := v) (f := failing) hb hd
    obtain ⟨t, hrun, hans, hlost, hcourse, hch⟩ := hin.fails hact rfl hs (.inr ⟨b, hi⟩) (by simp)
      (replyToTransfer_fails settle he hg hslot hi hf)
    refine ⟨t, hrun, hans, hlost, hcourse.refusals rfl ?_, hch⟩
    rw [List.append_nil]
    exact s.faultReports_port i p _
  · exact exec_expiryResolution_fails hs hg hq he hslot hi hf
  · obtain ⟨f, hact, hreads⟩ := j.exists_reads v failing hw
    obtain ⟨t, w, hrun, hrun', hch, htold⟩ := hin.exec_fails (State.DirectoryLaw.iff.1 hlaw).2 hact hreads hf hm hi
      fun q ⟨p, c, hj, hne⟩ ho => (hroom p c q hj ho).resolve_left hne
    exact ⟨s.failed i, t, w, State.failed_losesSlot hs (.inr ⟨b, hi⟩), State.failed_wf hs (.inr ⟨b, hi⟩), s.failed_changes i,
      hrun, hrun', hch, htold⟩

end Sys2Proof.Machine
end
